-- ==== Sys2Proof/Word.lean ====
section
/-! DEFINITION. The widths of the K240's exchange memory and registers (00_scope.md, Conventions). -/
namespace Sys2Proof

/-- One byte of the exchange memory. -/
abbrev Byte := BitVec 8

/-- A 16-bit word: a key code, an alarm word, a generation count. -/
abbrev Word16 := BitVec 16

/-- A 32-bit word: a register, the part time, a host address. -/
abbrev Word32 := BitVec 32

end Sys2Proof
end

