-- ==== Sys2Proof/Config.lean ====
section
/-! DEFINITION. Constants fixed by the manual: identity codes, durations in ms and capacities. No free value of
the model has a fixed number here. -/
namespace Sys2Proof

/-- R177: vendor, part and revision codes of the platform area. -/
def Config.vendorCode : Nat := 0x0D5A
def Config.partCode : Nat := 0x0240
def Config.revisionCode : Nat := 0x02

/-- R178: what IDENT reads. -/
def Config.ident : Word32 := 0xD5A24002#32

/-- R1, R33: the filter time of the inputs and of the row-active level. -/
def Config.filterMs : Nat := 32

/-- R5: limits of the two rising waits, and the reset hold. -/
def Config.stbyRiseMs : Nat := 50
def Config.mainRiseMs : Nat := 100
def Config.resetHoldMs : Nat := 10

/-- R7, R8: limit of a falling wait. -/
def Config.railFallMs : Nat := 100

/-- R18: the combination timer. -/
def Config.comboMs : Nat := 10000

/-- R21: the RESET_HOST pulse. -/
def Config.resetPulseMs : Nat := 10

/-- R23: the critical grace. -/
def Config.graceMs : Nat := 60000

/-- R69: the HALTED retry timer. -/
def Config.retryMs : Nat := 30000

/-- R119: the switch-settle timer. -/
def Config.settleMs : Nat := 2

/-- R153: the thermal update period. -/
def Config.thermalMs : Nat := 1000

/-- R156: the boost time. -/
def Config.boostMs : Nat := 120000

/-- R159: rejector widths, in microseconds. -/
def Config.narrowMicros : Nat := 500
def Config.wideMicros : Nat := 4000

/-- R36: capacity of the down-key table. -/
def Config.tableSize : Nat := 12

/-- R198: units of the report queue. -/
def Config.queueUnits : Nat := 128

end Sys2Proof
end

