-- ==== Sys2Proof/Syntax.lean ====
section
/-! DEFINITION. The commands of the K240: one constructor for each row of spec/opcode_table.json, with the
operands that the event brings from outside the part (log 1, log 6, log 26, log 27). -/
namespace Sys2Proof

/-- The two side-bus ports (03_side_bus_ports.md). -/
inductive PortId where
  | a | b
deriving DecidableEq, Repr

/-- The internal pack and the bay pack (05_battery_packs.md). -/
inductive PackId where
  | pack0 | pack1
deriving DecidableEq, Repr

/-- The two fans (07_thermal_sensors_and_fans.md). -/
inductive FanId where
  | fan0 | fan1
deriving DecidableEq, Repr

/-- The two switched rails whose power-good inputs the part reads. -/
inductive Rail where
  | stby | main
deriving DecidableEq, Repr

/-- The six filtered inputs of R1. -/
inductive FilteredInput where
  | lid | pwrbtn | acp | wakeAux | presence0 | presence1
deriving DecidableEq, Repr

/-- Levels of the six filtered inputs; `true` is a high pin. -/
structure InputLevels where
  lid : Bool
  pwrbtn : Bool
  acp : Bool
  wakeAux : Bool
  presence0 : Bool
  presence1 : Bool
deriving DecidableEq, Repr

/-- Levels of the strap pins (R26); `true` is a high pin, ADAPTER_CLASS is its two pins as a number. -/
structure StrapPins where
  packCount : Bool
  matrixSize : Bool
  fanCount : Bool
  adapterClass : BitVec 2
  autoPowerOn : Bool
  ioBaseSel : Bool
deriving DecidableEq, Repr

/-- Levels of one port's two lines while the part releases them (R63). -/
structure BusLine where
  clock : Bool
  data : Bool
deriving DecidableEq, Repr

/-- The levels standing on the part's inputs. -/
structure PinLevels where
  inputs : InputLevels
  straps : StrapPins
  pgStby : Bool
  pgMain : Bool
  rowActive : Bool
  lineA : BusLine
  lineB : BusLine
deriving DecidableEq, Repr

/-- One result of the part's own converter (R148). -/
inductive Measurement where
  | temperature (tenths : Int)
  | openElement
  | shortElement
deriving DecidableEq, Repr

/-- What the target did in a transaction: the first byte sent by the K240 that it did not acknowledge, if any,
counted from 0, and the bytes it sent (R58, R59, R61). -/
structure Reply where
  nackAt : Option Nat
  received : List Byte
deriving DecidableEq, Repr

/-- How a granted transaction ended: it ran, or the data line was found low when the awaited clock rose (R63, R65). -/
inductive TransactionResult where
  | ran (reply : Reply)
  | dataFoundLow
deriving DecidableEq, Repr

/-- One recovery pulse (R66): whether the clock was held low past its limit, and the data level read. -/
structure Pulse where
  clockHeld : Bool
  dataHigh : Bool
deriving DecidableEq, Repr

/-- What a recovery attempt met (R66): whether the clock was high or rose in time, the pulses, and the lines after
the stop. -/
structure AttemptSeen where
  clockRose : Bool
  pulses : List Pulse
  after : BusLine
deriving DecidableEq, Repr

/-- The commands, in the table's order. -/
inductive Instr where
  | coldStart (pins : PinLevels)
  | pinResetAssert
  | pinResetRelease (straps : StrapPins) (lineA lineB : BusLine)
  | rawInputChange (input : FilteredInput) (level : Bool)
  | lidChange
  | adapterChange
  | packPresenceChange (pack : PackId)
  | auxWakeChange
  | buttonPress
  | buttonRelease
  | powerGoodRise (rail : Rail)
  | powerGoodFall (rail : Rail)
  | railWaitTimeout
  | resetHoldExpiry
  | suspendDelayExpiry
  | longPressExpiry
  | combinationTimerExpiry
  | heartbeatWrite (first : Fin 4) (bytes : List Byte)
  | heartbeatExpiry
  | resetPulseEnd
  | criticalGraceExpiry
  | scanPass (columns : List Byte)
  | rawRowChange (active : Bool)
  | rowFilterExpiry
  | transactionEnd (port : PortId) (result : TransactionResult) (line : BusLine)
  | clockTimeout (port : PortId)
  | recoveryAttemptEnd (port : PortId) (seen : AttemptSeen)
  | haltRetryExpiry (port : PortId)
  | roundStart (port : PortId) (line : BusLine)
  | roundOverrun (port : PortId)
  | settleTimerExpiry
  | thermalUpdate (local0 local1 : Measurement)
  | tachPulse (fan : FanId) (widthMicros : Nat)
  | boostExpiry
  | partTimeTick
  | hostWindowWrite (address : Word32) (bytes : List Byte)
  | alertCauseWrite (first : Fin 4) (bytes : List Byte)
  | alertEnableWrite (first : Fin 4) (bytes : List Byte)
  | windowCtrlWrite (first : Fin 4) (bytes : List Byte)
  | registerWriteOther (offset : Fin 16) (bytes : List Byte)
  | postFoundCancelled (slot : Fin 16)
  | unknownKind (slot : Fin 16)
  | loadTable (slot : Fin 16)
  | busTransfer (slot : Fin 16)
  | busReset (slot : Fin 16)
  | probePack (slot : Fin 16)
  | setOverride (slot : Fin 16)
  | setChargeMode (slot : Fin 16)
  | setPowerState (slot : Fin 16)
  | warmRestart (slot : Fin 16)
  | cancelWrite (slot : Fin 16)
  | slotFreeWrite (slot : Fin 16)
  | readIndexWrite (value : Word16)
deriving DecidableEq, Repr

end Sys2Proof
end

