-- ==== Sys2Proof/WellFormed.lean ====
section
/-! DEFINITION. Which commands can come from a sender: the shapes that the spec gives host cycles, scan passes,
transactions and recovery attempts. `exec` is total on the others too (log 26). -/
namespace Sys2Proof

/-- R170: a host cycle carries 1, 2 or 4 bytes. -/
def cycleLength (bytes : List Byte) : Bool :=
  bytes.length == 1 || bytes.length == 2 || bytes.length == 4

/-- R178: a register access of 1, 2 or 4 bytes inside one register. -/
def registerAccess (first : Nat) (bytes : List Byte) : Bool :=
  cycleLength bytes && decide (first + bytes.length ≤ 4)

/-- R178: a register access that touches no listed bit of ALERT_CAUSE, ALERT_ENABLE or WINDOW_CTRL: IDENT, the
upper bytes of the two alert registers. -/
def unlistedAccess (offset : Nat) (bytes : List Byte) : Bool :=
  registerAccess (offset % 4) bytes &&
    (decide (offset < 4) || decide (4 < offset ∧ offset < 8) || decide (8 < offset ∧ offset < 12))

/-- R30: a pass drives 16 or 18 columns. -/
def passShape (columns : List Byte) : Bool :=
  columns.length == 16 || columns.length == 18

/-- R57: at most a count byte, 32 data bytes and a PEC byte are received. -/
def replyShape (r : TransactionResult) : Bool :=
  match r with
  | .ran reply => decide (reply.received.length ≤ 34)
  | .dataFoundLow => true

/-- R66: at most 9 pulses. -/
def attemptShape (seen : AttemptSeen) : Bool :=
  decide (seen.pulses.length ≤ 9)

/-- The sender's shapes, for every command. -/
def Instr.wellFormed : Instr → Bool
  | .coldStart _ => true
  | .pinResetAssert => true
  | .pinResetRelease _ _ _ => true
  | .rawInputChange _ _ => true
  | .lidChange => true
  | .adapterChange => true
  | .packPresenceChange _ => true
  | .auxWakeChange => true
  | .buttonPress => true
  | .buttonRelease => true
  | .powerGoodRise _ => true
  | .powerGoodFall _ => true
  | .railWaitTimeout => true
  | .resetHoldExpiry => true
  | .suspendDelayExpiry => true
  | .longPressExpiry => true
  | .combinationTimerExpiry => true
  | .heartbeatWrite _ bytes => cycleLength bytes
  | .heartbeatExpiry => true
  | .resetPulseEnd => true
  | .criticalGraceExpiry => true
  | .scanPass columns => passShape columns
  | .rawRowChange _ => true
  | .rowFilterExpiry => true
  | .transactionEnd _ result _ => replyShape result
  | .clockTimeout _ => true
  | .recoveryAttemptEnd _ seen => attemptShape seen
  | .haltRetryExpiry _ => true
  | .roundStart _ _ => true
  | .roundOverrun _ => true
  | .settleTimerExpiry => true
  | .thermalUpdate _ _ => true
  | .tachPulse _ _ => true
  | .boostExpiry => true
  | .partTimeTick => true
  | .hostWindowWrite _ bytes => cycleLength bytes
  | .alertCauseWrite first bytes => registerAccess first bytes
  | .alertEnableWrite first bytes => registerAccess first bytes
  | .windowCtrlWrite first bytes => registerAccess first bytes
  | .registerWriteOther offset bytes => unlistedAccess offset bytes
  | .postFoundCancelled _ => true
  | .unknownKind _ => true
  | .loadTable _ => true
  | .busTransfer _ => true
  | .busReset _ => true
  | .probePack _ => true
  | .setOverride _ => true
  | .setChargeMode _ => true
  | .setPowerState _ => true
  | .warmRestart _ => true
  | .cancelWrite _ => true
  | .slotFreeWrite _ => true
  | .readIndexWrite _ => true

end Sys2Proof
end

