-- ==== Sys2Proof/Decode.lean ====
section
/-! DEFINITION. The command that a word spells by the bits of spec/opcode_table.json. No row of the table gives
bits (every row's "fields" is empty and none has "fixed"), so no word spells a command. -/
namespace Sys2Proof

/-- The command spelt by the low `nbits` bits of `w`: none, for every word (see the header). -/
def decodeTableWord (nbits w : Nat) : Option Instr :=
  match nbits, w with
  | _, _ => none

end Sys2Proof
end

