-- ==== Sys2Proof/Machine/Bytes.lean ====
section
/-! DEFINITION. Byte order and sign of the exchange memory's fields (00_scope.md, Conventions: little-endian). -/
namespace Sys2Proof.Machine

/-- The low 16 bits of `n`, low byte first. -/
def bytes16 (n : Nat) : List Byte := [BitVec.ofNat 8 n, BitVec.ofNat 8 (n / 256)]

/-- The low 32 bits of `n`, low byte first. -/
def bytes32 (n : Nat) : List Byte :=
  [BitVec.ofNat 8 n, BitVec.ofNat 8 (n / 256), BitVec.ofNat 8 (n / 65536), BitVec.ofNat 8 (n / 16777216)]

/-- A 16-bit value from its low and high byte. -/
def value16 (lo hi : Byte) : Nat := lo.toNat + 256 * hi.toNat

/-- A 16-bit value read as signed: 32768 or more stands for the value minus 65536 (R102, R149). -/
def signed16 (n : Nat) : Int := if n < 32768 then (n : Int) else (n : Int) - 65536

/-- The 16-bit pattern of a signed value. -/
def pattern16 (z : Int) : Nat := (z % 65536).toNat

/-- A value held between two bounds (R102, R148, R149). -/
def clampInt (lo hi z : Int) : Int := if z < lo then lo else if hi < z then hi else z

/-- A flag as the weight of its bit. -/
def bit (b : Bool) (k : Nat) : Nat := if b then 2 ^ k else 0

end Sys2Proof.Machine
end

