-- ==== Sys2Proof/Machine/Tables.lean ====
section
/-! DEFINITION. The seven tables as their owners hold them, and their ROM default copies (R52, R98, R143, R163, R165,
R194). -/
namespace Sys2Proof.Machine

/-- R192: the seven tables. -/
inductive TableId where
  | keymap | pollA | pollB | chargeProfile | thermal | fanCurves | platform
deriving DecidableEq, Repr

/-! ### KEYMAP (R52) -/

/-- R52. Lists are indexed by position, 0 to 143. -/
structure Keymap where
  debouncePasses : Nat
  base : List Word16
  fn : List Word16
  diode : List Bool
  combo : List Bool
deriving DecidableEq, Repr

/-- R52: the codes of the local-action keys. -/
def codeFn : Word16 := 0xF001#16
def codeFanBoost : Word16 := 0xF002#16
def codeChargeMode : Word16 := 0xF003#16

/-- R52: BASE code of a position in the ROM default keymap. -/
def romBaseCode (n : Nat) : Word16 :=
  if n < 127 then BitVec.ofNat 16 (0x0100 + n) else if n = 127 then codeFn else 0#16

/-- R52: FN-layer code of a position in the ROM default keymap. -/
def romFnCode (n : Nat) : Word16 :=
  if n = 8 then codeFanBoost else if n = 16 then codeChargeMode
  else if n < 127 then BitVec.ofNat 16 (0x0200 + n) else 0#16

/-- R52: the ROM default keymap. -/
def romKeymap : Keymap where
  debouncePasses := 5
  base := (List.range 144).map romBaseCode
  fn := (List.range 144).map romFnCode
  diode := List.replicate 144 false
  combo := List.replicate 144 false

/-! ### POLL_A and POLL_B (R81 to R84) -/

/-- R57: the five transaction kinds. -/
inductive TxKind where
  | quick | readWord | writeWord | readBlock | writeBlock
deriving DecidableEq, Repr

/-- R83: in which rounds an entry is due. -/
inductive Period where
  | every | fourth | sixteenth
deriving DecidableEq, Repr

/-- R84: the fields of a pack record that an entry may bind; the first seven are the core fields. -/
inductive PackField where
  | voltage | current | soc | temperature | reqCurrent | reqVoltage | alarm | remaining | fullCap | cycles
deriving DecidableEq, Repr

/-- R84: the fields of the charger record that an entry may bind. -/
inductive ChargerField where
  | inputCurrent | systemCurrent | status
deriving DecidableEq, Repr

/-- R84: where a successful read is delivered. -/
inductive Binding where
  | none
  | raw (offset : Nat)
  | pack (pack : PackId) (field : PackField)
  | charger (field : ChargerField)
  | sensor (slot : Nat)
deriving DecidableEq, Repr

/-- R95: a watch; the sense is NOT_EQUAL when `notEqual`, the action NOTE_AND_EVALUATE when `evaluate`. -/
structure Watch where
  mask : Word16
  value : Word16
  notEqual : Bool
  evaluate : Bool
deriving DecidableEq, Repr

/-- R82: one target. -/
structure Target where
  address : Nat
  pec : Bool
  pack : Option PackId
deriving DecidableEq, Repr

/-- R83: one entry. -/
structure PollEntry where
  target : Nat
  kind : TxKind
  command : Byte
  length : Nat
  writeValue : Word16
  period : Period
  skipTarget : Bool
  binding : Binding
  watch : Option Watch
deriving DecidableEq, Repr

/-- R81: a poll list; `fast` is 400 kHz. The counts are the lists' lengths. -/
structure PollList where
  enable : Bool
  fast : Bool
  clockLow : Nat
  runMs : Nat
  sleepMs : Nat
  offMs : Nat
  chargingMs : Nat
  identityCommand : Byte
  targets : List Target
  entries : List PollEntry
deriving DecidableEq, Repr

/-- R98: a READ_WORD entry of the ROM default lists. -/
def romReadEntry (target command : Nat) (period : Period) (skip : Bool) (binding : Binding) : PollEntry where
  target := target
  kind := .readWord
  command := BitVec.ofNat 8 command
  length := 2
  writeValue := 0#16
  period := period
  skipTarget := skip
  binding := binding
  watch := Option.none

/-- R98: the ten entries of one pack in the ROM default POLL_A. -/
def romPackEntries (target : Nat) (p : PackId) : List PollEntry :=
  [ romReadEntry target 0x41 .every true (.pack p .voltage),
    romReadEntry target 0x42 .every true (.pack p .current),
    romReadEntry target 0x43 .every true (.pack p .soc),
    romReadEntry target 0x44 .every true (.pack p .temperature),
    romReadEntry target 0x45 .every true (.pack p .reqCurrent),
    romReadEntry target 0x46 .every true (.pack p .reqVoltage),
    romReadEntry target 0x47 .every true (.pack p .alarm),
    romReadEntry target 0x48 .fourth true (.pack p .remaining),
    romReadEntry target 0x49 .fourth true (.pack p .fullCap),
    romReadEntry target 0x4A .sixteenth true (.pack p .cycles) ]

/-- R98: the ROM default POLL_A. -/
def romPollA : PollList where
  enable := true
  fast := false
  clockLow := 25
  runMs := 250
  sleepMs := 2000
  offMs := 8000
  chargingMs := 1000
  identityCommand := 0x50#8
  targets := [⟨0x30, true, some .pack0⟩, ⟨0x31, true, some .pack1⟩, ⟨0x28, false, Option.none⟩]
  entries := romPackEntries 0 .pack0 ++ romPackEntries 1 .pack1 ++
    [ romReadEntry 2 0x61 .every false (.charger .inputCurrent),
      romReadEntry 2 0x62 .every false (.charger .systemCurrent),
      romReadEntry 2 0x63 .every false (.charger .status) ]

/-- R98: the ROM default POLL_B. -/
def romPollB : PollList where
  enable := true
  fast := false
  clockLow := 25
  runMs := 250
  sleepMs := 2000
  offMs := 8000
  chargingMs := 1000
  identityCommand := 0#8
  targets := [⟨0x1C, false, Option.none⟩, ⟨0x1D, false, Option.none⟩, ⟨0x1E, false, Option.none⟩,
    ⟨0x1F, false, Option.none⟩]
  entries := [ romReadEntry 0 0x01 .every false (.sensor 2), romReadEntry 1 0x01 .every false (.sensor 3),
    romReadEntry 2 0x01 .every false (.sensor 4), romReadEntry 3 0x01 .every false (.sensor 5) ]

/-! ### CHARGE_PROFILE (R143) -/

/-- R143: a temperature band, in 0.1 °C, and its percent. -/
structure Band where
  low : Int
  high : Int
  percent : Nat
deriving DecidableEq, Repr

/-- R143. -/
structure ChargeProfile where
  adapterLimit : Nat
  adapterVoltage : Nat
  reserve : Nat
  profileCap : Nat
  voltageMax : Nat
  fullStart : Nat
  fullStop : Nat
  conserveStart : Nat
  conserveStop : Nat
  chargerSensor : Option Nat
  chargerHot : Int
  chargerMax : Int
  bands : List Band
  chargerTarget : Nat
  pack0Target : Nat
  pack1Target : Nat
  currentCommand : Byte
  voltageCommand : Byte
  nackEnable : Bool
  nackLimit : Nat
  pecEnable : Bool
  pecLimit : Nat
  implausibleEnable : Bool
  criticalSoc : Nat
deriving DecidableEq, Repr

/-- R143: the ROM default profile. -/
def romChargeProfile : ChargeProfile where
  adapterLimit := 0
  adapterVoltage := 20000
  reserve := 250
  profileCap := 4000
  voltageMax := 17600
  fullStart := 95
  fullStop := 100
  conserveStart := 75
  conserveStop := 80
  chargerSensor := some 1
  chargerHot := 900
  chargerMax := 1000
  bands := [⟨0, 100, 30⟩, ⟨100, 200, 60⟩, ⟨200, 350, 100⟩, ⟨350, 450, 75⟩, ⟨450, 500, 40⟩]
  chargerTarget := 2
  pack0Target := 0
  pack1Target := 1
  currentCommand := 0x14#8
  voltageCommand := 0x15#8
  nackEnable := true
  nackLimit := 4
  pecEnable := true
  pecLimit := 3
  implausibleEnable := true
  criticalSoc := 3

/-! ### THERMAL (R163) -/

/-- R163: the fields of one slot; `kelvin` is format KELVIN_10. -/
structure SlotConfig where
  enable : Bool
  kelvin : Bool
  critical : Int
  fallback : Int
deriving DecidableEq, Repr

/-- R163: pulses per revolution and rejector of one fan; `wide` is the WIDE rejector. -/
structure TachConfig where
  ppr : Nat
  wide : Bool
deriving DecidableEq, Repr

/-- R163. `offThreshold` is in whole °C. -/
structure ThermalTable where
  hysteresis : Nat
  startMin : Nat
  stallRpm : Nat
  offThreshold : Int
  tach0 : TachConfig
  tach1 : TachConfig
  slots : List SlotConfig
deriving DecidableEq, Repr

/-- R163: the ROM default THERMAL table. -/
def romThermal : ThermalTable where
  hysteresis := 4
  startMin := 20
  stallRpm := 300
  offThreshold := 60
  tach0 := ⟨2, false⟩
  tach1 := ⟨2, false⟩
  slots := [⟨true, false, 1050, 850⟩, ⟨true, false, 1100, 850⟩, ⟨true, false, 950, 850⟩, ⟨true, false, 950, 850⟩,
    ⟨true, false, 950, 850⟩, ⟨true, false, 950, 850⟩]

/-! ### FAN_CURVES (R165) -/

/-- R154: a point, whole °C and percent. -/
structure CurvePoint where
  temp : Int
  duty : Nat
deriving DecidableEq, Repr

/-- R165: bound slots and the two curves of one fan. -/
structure FanCurve where
  bound : List Nat
  opened : List CurvePoint
  closed : List CurvePoint
deriving DecidableEq, Repr

/-- R165. -/
structure FanCurves where
  fan0 : FanCurve
  fan1 : FanCurve
deriving DecidableEq, Repr

/-- R165: the ROM default curves. -/
def romOpenCurve : List CurvePoint := [⟨40, 20⟩, ⟨60, 40⟩, ⟨80, 100⟩]
def romClosedCurve : List CurvePoint := [⟨35, 25⟩, ⟨55, 50⟩, ⟨75, 100⟩]

/-- R165: the ROM default FAN_CURVES. -/
def romFanCurves : FanCurves where
  fan0 := ⟨[0, 2, 3], romOpenCurve, romClosedCurve⟩
  fan1 := ⟨[1, 4, 5], romOpenCurve, romClosedCurve⟩

/-! ### PLATFORM (R194) -/

/-- R194: when auto power-on is in effect. -/
inductive AutoPowerOn where
  | off | on | strap
deriving DecidableEq, Repr

/-- R194: what a heartbeat expiry does. -/
inductive HeartbeatAction where
  | none | resetHost | forceOff
deriving DecidableEq, Repr

/-- R11: the configuration of one wake input. -/
structure WakeConfig where
  sleep : Bool
  off : Bool
  onLevel : Bool
  expected : Bool
deriving DecidableEq, Repr

/-- R194. `longPress` is in s, `heartbeatTimeout` in units of 0.5 s. -/
structure PlatformTable where
  autoPowerOn : AutoPowerOn
  longPress : Nat
  heartbeatTimeout : Nat
  heartbeatAction : HeartbeatAction
  lid : WakeConfig
  acp : WakeConfig
  wakeAux : WakeConfig
  keySleep : Bool
  keyOff : Bool
deriving DecidableEq, Repr

/-- R194, R11: the ROM default PLATFORM table. -/
def romPlatform : PlatformTable where
  autoPowerOn := .strap
  longPress := 4
  heartbeatTimeout := 20
  heartbeatAction := .none
  lid := ⟨true, false, false, false⟩
  acp := ⟨false, false, false, false⟩
  wakeAux := ⟨false, false, true, false⟩
  keySleep := true
  keyOff := false

end Sys2Proof.Machine
end

