-- ==== Sys2Proof/Machine/State.lean ====
section
/-! DEFINITION. The state of the K240: every register, timer, list, table and pin level the manual gives its ten
units, the exchange memory, the queue of waiting commands, and the state right after reset. -/
namespace Sys2Proof.Machine

/-! ### Exchange memory (R169) -/

/-- The stored bytes of the exchange memory: addresses strictly rising, no byte equal to 0, which is what an
unlisted address reads as (R182; log 28). -/
abbrev Memory := List Host.Cell

/-- The canonical form of a memory whose addresses all lie above a bound. -/
def Memory.wfFrom : Nat → List Host.Cell → Bool
  | _, [] => true
  | lo, (a, v) :: rest => decide (lo ≤ a) && decide (v ≠ 0#8) && Memory.wfFrom (a + 1) rest

/-- The canonical form: strictly rising addresses, no zero byte. -/
def Memory.wf (m : Memory) : Bool := Memory.wfFrom 0 m

/-! ### Window logic (08_exchange_memory_and_host_link.md) -/

/-- The four registers but IDENT, the part time, last_protocol_offset and the generation counts of the status
records, indexed as `Rec.index` gives. -/
structure Link where
  windowCtrl : Word32
  alertCause : Word32
  alertEnable : Word32
  partTime : Word32
  lastProtocol : Word16
  gens : List Word16
deriving DecidableEq, Repr

/-! ### Report queue (10_report_queue.md) -/

/-- R202: a set of the stale classes. -/
structure StaleSet where
  platform : Bool
  battery : Bool
  thermal : Bool
  bus : Bool
deriving DecidableEq, Repr

/-- R198. The body of the ring is in the exchange memory. -/
structure Queue where
  write : Nat
  read : Nat
  stale : StaleSet
deriving DecidableEq, Repr

/-! ### Request dispatcher (09_requests_and_tables.md) -/

/-- R189: the unit that holds a request's work. -/
inductive HeldWork where
  | load (table : TableId)
  | transfer (port : PortId)
  | busReset (port : PortId)
  | probe (pack : PackId)
deriving DecidableEq, Repr

/-- R187: one slot of the posting order list. -/
structure Held where
  slot : Nat
  work : HeldWork
deriving DecidableEq, Repr

/-! ### Platform power controller (01_platform_power_lid_and_wake.md) -/

/-- R3. -/
inductive PowerState where
  | off | waking | run | suspending | sleep | shuttingDown
deriving DecidableEq, Repr

/-- R4. -/
inductive Cause where
  | none | wake | request | longPress | combination | thermal | critical | heartbeat | railFault | railTimeout
deriving DecidableEq, Repr

/-- R5, R7, R8: the wait of the rail sequence in progress. -/
inductive SeqStep where
  | none | stbyHigh | mainHigh | resetHold | mainLow | stbyLow
deriving DecidableEq, Repr

/-- R14: where a SET_POWER_STATE request leads. -/
inductive SleepTarget where
  | sleep | off
deriving DecidableEq, Repr

/-- Wake factors (01, Power-on and wake). -/
inductive Factor where
  | lid | pwrbtn | acp | wakeAux | key | batteryCritical | autoOn
deriving DecidableEq, Repr

/-- R20. -/
inductive Heartbeat where
  | disarmed | watching | silent
deriving DecidableEq, Repr

/-- R1: the stability counts, in ms; none while no count runs. -/
structure FilterCounts where
  lid : Option Nat
  pwrbtn : Option Nat
  acp : Option Nat
  wakeAux : Option Nat
  presence0 : Option Nat
  presence1 : Option Nat
deriving DecidableEq, Repr

/-- R14: the suspend delay of an accepted request. -/
structure SuspendDelay where
  target : SleepTarget
  length : Nat
  elapsed : Nat
deriving DecidableEq, Repr

/-- R12: the ON_CHANGE snapshot. -/
structure Snapshot where
  lid : Bool
  acp : Bool
  wakeAux : Bool
deriving DecidableEq, Repr

/-- R26, R177: the sampled strap values. -/
structure StrapImage where
  packCount : Nat
  columns : Nat
  fanCount : Nat
  adapterClass : Nat
  autoPowerOn : Bool
  ioHigh : Bool
deriving DecidableEq, Repr

/-- The platform power controller's state. `heldMs` is the long-press timer, `comboMs` the combination timer. -/
structure Power where
  levels : InputLevels
  counts : FilterCounts
  state : PowerState
  step : SeqStep
  stepMs : Nat
  seenStby : Bool
  seenMain : Bool
  timedOut : Bool
  seqCause : Cause
  enStby : Bool
  enMain : Bool
  hrstAsserted : Bool
  cause : Cause
  shutdownCause : Cause
  delay : Option SuspendDelay
  snapshot : Snapshot
  pendingWake : List Factor
  wakeFactors : List Factor
  wakeFirst : Option Factor
  heldMs : Option Nat
  reported : Bool
  comboMs : Option Nat
  ignore : Bool
  heartbeat : Heartbeat
  heartbeatMs : Nat
  pulseMs : Option Nat
  graceMs : Option Nat
  straps : StrapImage
  table : PlatformTable
deriving DecidableEq, Repr

/-! ### Keyboard scanner (02_keyboard_matrix.md) -/

/-- R31. -/
inductive ScanMode where
  | idle | full | wakeScan
deriving DecidableEq, Repr

/-- R36: the local action of an entry's code. -/
inductive LocalAction where
  | none | fn | fanBoost | chargeMode
deriving DecidableEq, Repr

/-- R34: debounced state (`down`) and change counter of one position. -/
structure KeyPosition where
  down : Bool
  counter : Nat
deriving DecidableEq, Repr

/-- R36: one entry of the down-key table. -/
structure DownKey where
  position : Nat
  code : Word16
  fnLayer : Bool
  confirmed : Bool
  reported : Bool
  action : LocalAction
  rank : Nat
deriving DecidableEq, Repr

/-- R47: one owed release. -/
structure OwedRelease where
  position : Nat
  code : Word16
  rank : Nat
  sweep : Bool
deriving DecidableEq, Repr

/-- The keyboard scanner's state. -/
structure Keyboard where
  mode : ScanMode
  positions : List KeyPosition
  passMs : Nat
  table : List DownKey
  pressCount : Nat
  arming : Bool
  overflow : Bool
  rollover : Bool
  owed : List OwedRelease
  rowActive : Bool
  rowCount : Option Nat
  keymap : Keymap
deriving DecidableEq, Repr

/-! ### Side-bus ports (03_side_bus_ports.md) -/

/-- The shared outcome code of side-bus work (08, Status record layouts). -/
inductive BusOutcome where
  | never | ok | nackAddr | nackData | pecFail | clockTimeout | badCount | skipped | portHalted | busStuck | short
deriving DecidableEq, Repr

/-- R62. -/
inductive PortState where
  | disabled | idle | busy | recovering | halted
deriving DecidableEq, Repr

/-- R78. -/
inductive StuckCause where
  | none | clockLow | dataLow
deriving DecidableEq, Repr

/-- R78: how the last recovery attempt ended. -/
inductive LastRecovery where
  | none | succeeded | failed
deriving DecidableEq, Repr

/-- R138: a charger write group, with the target and commands it was offered with. -/
structure WriteGroup where
  current : Nat
  voltage : Nat
  currentFirst : Bool
  address : Nat
  pec : Bool
  currentCommand : Byte
  voltageCommand : Byte
deriving DecidableEq, Repr

/-- R112: a probe step as offered; `orphan` once the monitor has abandoned its probe (R75, R114). -/
structure ProbeUnit where
  pack : PackId
  step : Nat
  address : Nat
  pec : Bool
  command : Byte
  orphan : Bool
deriving DecidableEq, Repr

/-- R71: the work unit on the bus. -/
inductive Work where
  | charger (group : WriteGroup)
  | probe (unit : ProbeUnit)
  | poll (entry : Nat)
  | host (slot : Nat)
deriving DecidableEq, Repr

/-- One side-bus port and its arbiter. `starting` is the model's own: a unit is granted and its work on the bus has not begun
(log 10). -/
structure Port where
  state : PortState
  attempts : Nat
  running : Bool
  stuck : StuckCause
  lastRecovery : LastRecovery
  pulses : Nat
  charger : Option WriteGroup
  probes : List ProbeUnit
  poll : Option Nat
  hosts : List Nat
  granted : Option Work
  starting : Bool
  second : Bool
  fairness : Nat
  retryMs : Option Nat
  fast : Bool
  clockLow : Nat
  disableDue : Bool
  busReset : Option Nat
  lastTarget : Nat
  lastKind : TxKind
  lastOutcome : BusOutcome
deriving DecidableEq, Repr

/-! ### Poll engines (04_poll_lists.md) -/

/-- R87. -/
inductive RoundState where
  | stopped | waiting | running
deriving DecidableEq, Repr

/-- R88, R93. -/
inductive SkipReason where
  | none | packState | sensorOff | target | port
deriving DecidableEq, Repr

/-- R95: the last result of a watch. -/
inductive WatchResult where
  | none | isFalse | isTrue
deriving DecidableEq, Repr

/-- R93: a row of the poll status table. -/
structure PollRow where
  outcome : BusOutcome
  skip : SkipReason
  round : Nat
  lastValue : Nat
  watch : WatchResult
deriving DecidableEq, Repr

/-- R90: the fields delivered with OK in a round that the round end's users read: the REQ_CURRENT of each pack and
the charger's SYSTEM_CURRENT among them. -/
structure Refreshed where
  packs : List (PackId × PackField)
  charger : List ChargerField
deriving DecidableEq, Repr

/-- One poll engine. `position` is the index of the entry offered, or of the next to be considered. -/
structure Engine where
  list : PollList
  round : RoundState
  number : Nat
  timerMs : Option Nat
  interval : Nat
  held : Bool
  overrun : Bool
  prevOverrun : Bool
  position : Nat
  offered : Bool
  skipTargets : List Nat
  refreshed : Refreshed
  rows : List PollRow
deriving DecidableEq, Repr

/-! ### Pack monitor (05_battery_packs.md) -/

/-- 05, Pack states. -/
inductive PackState where
  | absent | detected | probing | online | lost | faulted
deriving DecidableEq, Repr

/-- 08, Pack record: last_reason. -/
inductive PackReason where
  | none | present | removed | probeStart | probeOk | newPack | probeFailed | badIdentity | request | nackLimit
  | pecLimit | implausibleVoltage
deriving DecidableEq, Repr

/-- R109. -/
inductive WindowOutcome where
  | ok | nack | pecFail | implausible
deriving DecidableEq, Repr

/-- R112. -/
structure Identity where
  designVoltage : Nat
  designCapacity : Nat
  chemistry : Byte
  serial : Nat
  manufactureDate : Word16
deriving DecidableEq, Repr

/-- R115. -/
inductive ProbeState where
  | none | waiting | running | done
deriving DecidableEq, Repr

/-- R115. -/
inductive ProbeResult where
  | none | ok | probeFailed | badIdentity | abandoned
deriving DecidableEq, Repr

/-- R115: the probe record; steps not reached are `never`. -/
structure ProbeRecord where
  state : ProbeState
  result : ProbeResult
  targetIndex : Nat
  targetAddress : Nat
  step1 : BusOutcome
  step2 : BusOutcome
  step3 : BusOutcome
  step4 : BusOutcome
  identity : Option Identity
  completedAt : Word32
deriving DecidableEq, Repr

/-- R111: the probe in progress, with the target fixed at its start. -/
structure ProbeRun where
  step : Nat
  address : Nat
  pec : Bool
deriving DecidableEq, Repr

/-- R101: the ten values of a pack record; `alarmWord` as received. -/
structure PackValues where
  voltage : Nat
  current : Int
  soc : Nat
  temperature : Int
  reqCurrent : Nat
  reqVoltage : Nat
  alarmWord : Word16
  remaining : Nat
  fullCap : Nat
  cycles : Nat
deriving DecidableEq, Repr

/-- One pack: its record, probe record, probe in progress and attached request. `ages` and `stored` are indexed by
core field number; an age of none is NEVER; `stored` says that the field was stored since the last round end. -/
structure Pack where
  state : PackState
  reason : PackReason
  values : PackValues
  ages : List (Option Nat)
  stored : List Bool
  window : List WindowOutcome
  implausibleRun : Nat
  failures : Nat
  identity : Option Identity
  probe : Option ProbeRun
  record : ProbeRecord
  request : Option Nat
deriving DecidableEq, Repr

/-- R117 to R119: DSG_SEL, the switch-settle timer and the critical-battery condition. -/
structure Discharge where
  selected : Option PackId
  settleMs : Option Nat
  critical : Bool
deriving DecidableEq, Repr

/-! ### Charge controller (06_charge_control.md) -/

/-- R123. -/
inductive ChargeState where
  | idle | ready | charging | holding | inhibited
deriving DecidableEq, Repr

/-- R127. -/
inductive ChargeMode where
  | full | conserve
deriving DecidableEq, Repr

/-- R141: limit_reason. -/
inductive LimitReason where
  | none | input | thermal | request | profile | override | slew | stale | implausible | target | switch
deriving DecidableEq, Repr

/-- R124. -/
structure InhibitSet where
  chargerLost : Bool
  port : Bool
  thermal : Bool
deriving DecidableEq, Repr

/-- R132: a current and voltage setpoint, mA and mV. -/
structure Pair where
  current : Nat
  voltage : Nat
deriving DecidableEq, Repr

/-- The charge controller's state. A cap of `some 0` suspends charging (R140). -/
structure Charge where
  state : ChargeState
  inhibit : InhibitSet
  selected : Option PackId
  latch : Bool
  mode : ChargeMode
  limit : LimitReason
  desired : Pair
  written : Option Pair
  switchWaiting : Bool
  writeOutcome : BusOutcome
  writeFailures : Nat
  readFailures : Nat
  goodReads : Nat
  inputCurrent : Nat
  systemCurrent : Nat
  chargerStatus : Word16
  dPk : Nat
  dCs : Nat
  dFan : Nat
  iIn : Nat
  iTh : Nat
  iRaw : Nat
  cap : Option Nat
  profile : ChargeProfile
deriving DecidableEq, Repr

/-! ### Thermal unit (07_thermal_sensors_and_fans.md) -/

/-- R147. -/
inductive SlotState where
  | unknown | valid | stale | failed
deriving DecidableEq, Repr

/-- R147, R149, R151. -/
structure Slot where
  state : SlotState
  reading : Int
  tripped : Bool
  tripCount : Nat
  missCount : Nat
deriving DecidableEq, Repr

/-- R160. -/
inductive FanState where
  | off | running | stalled | kicking | faulted
deriving DecidableEq, Repr

/-- One fan: its record, the open tach window (`count`, `openDuty`, `ppr`, `wide`) and the counts of R160, R161. -/
structure Fan where
  state : FanState
  duty : Nat
  curveDuty : Nat
  target : Nat
  controlTemp : Int
  curveClosed : Bool
  offRun : Bool
  count : Nat
  openDuty : Nat
  ppr : Nat
  wide : Bool
  tachCount : Nat
  rpm : Nat
  windowDuty : Nat
  low : Nat
  kick : Nat
  kickWindow : Nat
  recovery : Nat
  override : Nat
deriving DecidableEq, Repr

/-- The thermal unit's state; `boostMs` is the boost timer, none while boost is off. -/
structure Thermal where
  slots : List Slot
  fan0 : Fan
  fan1 : Fan
  boostMs : Option Nat
  boostLeft : Nat
  updateMs : Nat
  table : ThermalTable
  curves : FanCurves
deriving DecidableEq, Repr

/-! ### Status record updates (R174) -/

/-- R50, R78, R93: the keyboard record and the two port records that the event in progress has changed. The update of each is
made once, at the end of the event (log 9); between two commands none is due. -/
structure RecordsDue where
  keyboard : Bool
  portA : Bool
  portB : Bool
deriving DecidableEq, Repr

/-! ### The whole part -/

/-- The state of the K240. `inReset` holds while RESET_N is low (R28). `pending` is the queue of commands, `turns`
the choices that the spec leaves open (log 8, log 36), `due` the updates owed at the end of the event (log 9): the three are
the model's own. -/
structure State where
  pins : PinLevels
  inReset : Bool
  mem : Memory
  link : Link
  queue : Queue
  posted : List Held
  power : Power
  kbd : Keyboard
  portA : Port
  portB : Port
  engineA : Engine
  engineB : Engine
  pack0 : Pack
  pack1 : Pack
  dsg : Discharge
  chg : Charge
  th : Thermal
  due : RecordsDue
  turns : List Nat
  pending : List Instr
deriving DecidableEq, Repr

/-- Why the part stops: it never does. The spec names no condition on which the part stops (a bad write is
discarded, R172; a bad request completes with a result, R188), so there is no fault; no meaning raises one (safe). -/
inductive Fault where
deriving DecidableEq, Repr

/-- Why a command is refused. -/
inductive Refusal where
  /-- Raised by `exec` for a row that has no meaning yet; no arm does so now (safe). -/
  | notModelled (mnemonic : String)
deriving DecidableEq, Repr

/-! ### The state right after reset (log 5)

The state that COLD_START leaves when every strap pin is low, the lid is open, the button is released, no adapter and no
pack is present, the rails are down and both buses are free. The levels are the model's choice; everything else follows
from them by R27, R55, R79, R99, R121, R145, R167, R182, R197 and R205. -/

/-- The levels at the cold start. -/
def afterResetInputs : InputLevels := ⟨true, true, false, false, false, false⟩

def afterResetPins : PinLevels :=
  { inputs := afterResetInputs, straps := ⟨false, false, false, 0#2, false, false⟩, pgStby := false, pgMain := false,
    rowActive := false, lineA := ⟨true, true⟩, lineB := ⟨true, true⟩ }

/-- R182. The charger record and the two port records have had one update each. -/
def afterResetLink : Link :=
  { windowCtrl := 0#32, alertCause := 0#32, alertEnable := 0#32, partTime := 0#32, lastProtocol := 0xFFFF#16,
    gens := List.replicate 3 0#16 ++ [2#16] ++ List.replicate 9 0#16 ++ [2#16, 2#16, 0#16, 0#16] }

/-- R27. -/
def afterResetPower : Power :=
  { levels := afterResetInputs, counts := ⟨none, none, none, none, none, none⟩, state := .off, step := .none,
    stepMs := 0, seenStby := false, seenMain := false, timedOut := false, seqCause := .none, enStby := false,
    enMain := false, hrstAsserted := true, cause := .none, shutdownCause := .none, delay := none,
    snapshot := ⟨true, false, false⟩, pendingWake := [], wakeFactors := [], wakeFirst := none, heldMs := none,
    reported := false, comboMs := none, ignore := false, heartbeat := .disarmed, heartbeatMs := 0, pulseMs := none,
    graceMs := none
    straps := { packCount := 1, columns := 16, fanCount := 1, adapterClass := 0, autoPowerOn := false, ioHigh := false }
    table := romPlatform }

/-- R55. -/
def afterResetKeyboard : Keyboard :=
  { mode := .idle, positions := List.replicate 144 ⟨false, 0⟩, passMs := 0, table := [], pressCount := 0, arming := true,
    overflow := false, rollover := false, owed := [], rowActive := false, rowCount := none, keymap := romKeymap }

/-- R79, R99: a port with its first unit on the bus and the poll entry that waits. -/
def afterResetPort (work : Work) (poll : Option Nat) : Port :=
  { state := .busy, attempts := 0, running := false, stuck := .none, lastRecovery := .none, pulses := 0, charger := none,
    probes := [], poll := poll, hosts := [], granted := some work, starting := false, second := false, fairness := 0
    retryMs := none, fast := false, clockLow := 25, disableDue := false, busReset := none, lastTarget := 0
    lastKind := .quick, lastOutcome := .never }

/-- R145: the zero write group, at the charger's target. -/
def afterResetGroup : WriteGroup :=
  { current := 0, voltage := 4096, currentFirst := true, address := 0x28, pec := false, currentCommand := 0x14#8,
    voltageCommand := 0x15#8 }

/-- R99: an engine in round 0 with an entry offered; the entries before it were skipped for their packs' states. -/
def afterResetEngine (list : PollList) (position : Nat) : Engine :=
  { list := list, round := .running, number := 0, timerMs := some 0, interval := 8000, held := false, overrun := false,
    prevOverrun := false, position := position, offered := true, skipTargets := [], refreshed := ⟨[], []⟩
    rows := List.replicate position ⟨.skipped, .packState, 0, 0, .none⟩ ++
      List.replicate (32 - position) ⟨.never, .none, 0, 0, .none⟩ }

/-- R121. -/
def afterResetPack : Pack :=
  { state := .absent, reason := .none, values := ⟨0, 0, 0, 0, 0, 0, 0#16, 0, 0, 0⟩, ages := List.replicate 7 none,
    stored := List.replicate 7 false, window := [], implausibleRun := 0, failures := 0, identity := none, probe := none
    record := { state := .none, result := .none, targetIndex := 0, targetAddress := 0, step1 := .never, step2 := .never,
                step3 := .never, step4 := .never, identity := none, completedAt := 0#32 }
    request := none }

/-- R145. -/
def afterResetCharge : Charge :=
  { state := .idle, inhibit := ⟨false, false, false⟩, selected := none, latch := false, mode := .full, limit := .none,
    desired := ⟨0, 4096⟩, written := none, switchWaiting := false, writeOutcome := .never, writeFailures := 0,
    readFailures := 0, goodReads := 0, inputCurrent := 0, systemCurrent := 10000, chargerStatus := 0#16, dPk := 100,
    dCs := 100, dFan := 100, iIn := 0, iTh := 0, iRaw := 0, cap := none, profile := romChargeProfile }

/-- R167: fan 0 computed from the fallback temperatures: 85 °C, full duty. -/
def afterResetFan0 : Fan :=
  { state := .running, duty := 100, curveDuty := 100, target := 100, controlTemp := 85, curveClosed := false,
    offRun := true, count := 0, openDuty := 100, ppr := 2, wide := false, tachCount := 0, rpm := 0, windowDuty := 0,
    low := 0, kick := 0, kickWindow := 0, recovery := 0, override := 0 }

/-- R162: fan 1, which is not present. -/
def afterResetFan1 : Fan :=
  { state := .off, duty := 0, curveDuty := 0, target := 0, controlTemp := 0, curveClosed := false, offRun := false,
    count := 0, openDuty := 0, ppr := 2, wide := false, tachCount := 0, rpm := 0, windowDuty := 0, low := 0, kick := 0,
    kickWindow := 0, recovery := 0, override := 0 }

/-- R167. -/
def afterResetThermal : Thermal :=
  { slots := List.replicate 6 ⟨.unknown, 0, false, 0, 0⟩, fan0 := afterResetFan0, fan1 := afterResetFan1,
    boostMs := none, boostLeft := 0, updateMs := 0, table := romThermal, curves := romFanCurves }

/-- The machine right after reset: a cold start with the levels above. -/
def State.reset : State :=
  { pins := afterResetPins, inReset := false, mem := [], link := afterResetLink
    queue := { write := 0, read := 0, stale := ⟨false, false, false, false⟩ }
    posted := [], power := afterResetPower, kbd := afterResetKeyboard
    portA := afterResetPort (.charger afterResetGroup) (some 20), portB := afterResetPort (.poll 0) none
    engineA := afterResetEngine romPollA 20, engineB := afterResetEngine romPollB 0
    pack0 := afterResetPack, pack1 := afterResetPack
    dsg := { selected := none, settleMs := none, critical := false }
    chg := afterResetCharge, th := afterResetThermal, due := ⟨false, false, false⟩, turns := [], pending := [] }

end Sys2Proof.Machine
end

