-- ==== Sys2Proof/Machine/Ops.lean ====
section
/-! DEFINITION. Named operations over the memory and the state's parts: bytes of the exchange memory, the parts that
come in pairs, generation counts, alert causes, the choices of order, timers. -/
namespace Sys2Proof.Machine

/-! ### Exchange memory -/

/-- The byte at an address; an unlisted address reads 0 (R182). -/
def Memory.read : List Host.Cell → Nat → Byte
  | [], _ => 0#8
  | (k, v) :: rest, a => if k = a then v else Memory.read rest a

/-- Store one byte, keeping the canonical form: a stored 0 lists nothing. -/
def Memory.write : List Host.Cell → Nat → Byte → List Host.Cell
  | [], a, v => if v = 0#8 then [] else [(a, v)]
  | (k, w) :: rest, a, v =>
    if a < k then (if v = 0#8 then (k, w) :: rest else (a, v) :: (k, w) :: rest)
    else if a = k then (if v = 0#8 then rest else (a, v) :: rest)
    else (k, w) :: Memory.write rest a v

/-- Store bytes at consecutive addresses. -/
def Memory.writeList : List Host.Cell → Nat → List Byte → List Host.Cell
  | m, _, [] => m
  | m, a, v :: vs => Memory.writeList (Memory.write m a v) (a + 1) vs

/-- Read bytes from consecutive addresses. -/
def Memory.readList (m : List Host.Cell) (a n : Nat) : List Byte :=
  (List.range n).map fun i => Memory.read m (a + i)

/-- A 16-bit word, low byte at the lower address. -/
def Memory.read16 (m : List Host.Cell) (a : Nat) : Nat :=
  value16 (Memory.read m a) (Memory.read m (a + 1))

/-- The part's own stores, never refused (R170). -/
def storeBytes (a : Nat) (bytes : List Byte) (s : State) : State :=
  { s with mem := Memory.writeList s.mem a bytes }

/-! ### Parts that come in pairs -/

def State.port (s : State) : PortId → Port
  | .a => s.portA
  | .b => s.portB

def State.setPort (s : State) (p : PortId) (x : Port) : State :=
  match p with
  | .a => { s with portA := x }
  | .b => { s with portB := x }

def State.engine (s : State) : PortId → Engine
  | .a => s.engineA
  | .b => s.engineB

def State.setEngine (s : State) (p : PortId) (x : Engine) : State :=
  match p with
  | .a => { s with engineA := x }
  | .b => { s with engineB := x }

def State.pack (s : State) : PackId → Pack
  | .pack0 => s.pack0
  | .pack1 => s.pack1

def State.setPack (s : State) (k : PackId) (x : Pack) : State :=
  match k with
  | .pack0 => { s with pack0 := x }
  | .pack1 => { s with pack1 := x }

def State.fan (s : State) : FanId → Fan
  | .fan0 => s.th.fan0
  | .fan1 => s.th.fan1

def State.setFan (s : State) (f : FanId) (x : Fan) : State :=
  match f with
  | .fan0 => { s with th := { s.th with fan0 := x } }
  | .fan1 => { s with th := { s.th with fan1 := x } }

/-- The line levels of a port's bus, as the next check of them finds them (log 6). -/
def State.line (s : State) : PortId → BusLine
  | .a => s.pins.lineA
  | .b => s.pins.lineB

def State.setLine (s : State) (p : PortId) (l : BusLine) : State :=
  match p with
  | .a => { s with pins := { s.pins with lineA := l } }
  | .b => { s with pins := { s.pins with lineB := l } }

/-- The other pack, the other fan. -/
def otherPack : PackId → PackId
  | .pack0 => .pack1
  | .pack1 => .pack0

def otherFan : FanId → FanId
  | .fan0 => .fan1
  | .fan1 => .fan0

/-- Numbers in records and requests. -/
def packNum : PackId → Nat
  | .pack0 => 0
  | .pack1 => 1

def portNum : PortId → Nat
  | .a => 0
  | .b => 1

def fanNum : FanId → Nat
  | .fan0 => 0
  | .fan1 => 1

/-! ### Status records and their generation counts (R174) -/

/-- The status records of R181. -/
inductive Rec where
  | platform
  | pack (k : PackId)
  | charger
  | sensor (n : Nat)
  | fan (f : FanId)
  | keyboard
  | port (p : PortId)
  | probe (k : PackId)
deriving DecidableEq, Repr

/-- The place of a record's count in `Link.gens`. -/
def Rec.index : Rec → Nat
  | .platform => 0
  | .pack k => 1 + packNum k
  | .charger => 3
  | .sensor n => 4 + n
  | .fan f => 10 + fanNum f
  | .keyboard => 12
  | .port p => 13 + portNum p
  | .probe k => 15 + packNum k

/-- One step of a count, modulo 65536. -/
def raiseGen (r : Rec) (s : State) : State :=
  { s with link := { s.link with gens := s.link.gens.modify r.index (· + 1#16) } }

/-- R174: an update raises the count to odd, changes the fields and raises it to even. The fields are views of the
units' state (log 9), so an update is the two raises. -/
def publish (r : Rec) (s : State) : State := raiseGen r (raiseGen r s)

/-- No update is due. -/
def noneDue : RecordsDue := ⟨false, false, false⟩

/-- A record that an event has changed: the update is made at once, but for the records whose changes by one event go into a
single update (R50, R78), which is made at the event's end. -/
def announce (r : Rec) (s : State) : State :=
  match r with
  | .keyboard => { s with due := { s.due with keyboard := true } }
  | .port .a => { s with due := { s.due with portA := true } }
  | .port .b => { s with due := { s.due with portB := true } }
  | .platform | .pack _ | .charger | .sensor _ | .fan _ | .probe _ => publish r s

/-- R50, R78: the updates due, made at the end of an event. -/
def publishDue (s : State) : State :=
  let d := s.due
  let s1 := { s with due := noneDue }
  let s2 := if d.keyboard then publish .keyboard s1 else s1
  let s3 := if d.portA then publish (.port .a) s2 else s2
  if d.portB then publish (.port .b) s3 else s3

/-- The count of a record. -/
def State.gen (s : State) (r : Rec) : Word16 := s.link.gens.getD r.index 0#16

/-! ### Alert causes (R179) -/

def causeSlotDone : Word32 := 1#32
def causeReport : Word32 := 2#32
def causeProtocol : Word32 := 4#32

/-- R179: a cause that is already set stays set. -/
def setCause (c : Word32) (s : State) : State :=
  { s with link := { s.link with alertCause := s.link.alertCause ||| c } }

/-! ### Choices that the spec leaves open (log 8) -/

/-- The next choice among `n` ways: the head of `turns`, 0 when the list is empty. -/
def State.turn (s : State) (n : Nat) : Nat := s.turns.headD 0 % n

/-- One choice used. -/
def useTurn (s : State) : State := { s with turns := s.turns.drop 1 }

/-! ### Timers (log 3) -/

/-- One more millisecond for a running timer. -/
def tickTimer (t : Option Nat) : Option Nat := t.map (· + 1)

/-- R29: a running timer begins again from zero. -/
def restartTimer (t : Option Nat) : Option Nat := t.map fun _ => 0

/-! ### Published levels (R1, R2) -/

/-- The lid is open while LID_N is high. -/
def State.lidOpen (s : State) : Bool := s.power.levels.lid

/-- The button is pressed while PWRBTN_N is low. -/
def State.buttonPressed (s : State) : Bool := !s.power.levels.pwrbtn

/-- The adapter is IN while ACP is high. -/
def State.adapterIn (s : State) : Bool := s.power.levels.acp

/-- A pack is seated while its presence line is high. -/
def State.seated (s : State) : PackId → Bool
  | .pack0 => s.power.levels.presence0
  | .pack1 => s.power.levels.presence1

/-- R1: packs the part has. -/
def State.packFitted (s : State) : PackId → Bool
  | .pack0 => true
  | .pack1 => s.power.straps.packCount == 2

/-- R153: fans present. -/
def State.fanPresent (s : State) : FanId → Bool
  | .fan0 => true
  | .fan1 => s.power.straps.fanCount == 2

/-- R22: override validity. -/
def State.overrideValid (s : State) : Bool :=
  s.power.state == .run && s.power.heartbeat == .watching

/-- R152: a trip is active while at least one slot is TRIPPED. -/
def State.tripActive (s : State) : Bool := s.th.slots.any (·.tripped)

end Sys2Proof.Machine
end

