-- ==== Sys2Proof/Machine/Operands.lean ====
section
/-! DEFINITION. How the operands of commands are read: a transaction's bytes on the wire and the target's reply (R57 to
R61), a recovery attempt (R66), a scan pass (R34), strap and input sampling (R1, R26), byte lanes of a register (R178). -/
namespace Sys2Proof.Machine

/-! ### Transactions on the wire (R57) -/

/-- One transaction: `data` are the bytes a write carries, `readLength` the largest count a READ_BLOCK may give. -/
structure Transaction where
  address : Nat
  kind : TxKind
  command : Byte
  data : List Byte
  readLength : Nat
  pec : Bool
deriving DecidableEq, Repr

/-- R60: one place of the CRC-8 with constant 0x07. -/
def crcBit (v : Byte) : Byte := if v.getLsbD 7 then (v <<< 1) ^^^ 0x07#8 else v <<< 1

/-- R60: the running value after one more covered byte. -/
def crcByte (v b : Byte) : Byte := Nat.repeat crcBit 8 (v ^^^ b)

/-- R60: the packet error code over the covered bytes. -/
def crc8 (bytes : List Byte) : Byte := bytes.foldl crcByte 0#8

/-- R57: the address byte, write and read. -/
def addressWrite (t : Transaction) : Byte := BitVec.ofNat 8 (2 * t.address)
def addressRead (t : Transaction) : Byte := BitVec.ofNat 8 (2 * t.address + 1)

/-- R57: the bytes the K240 sends before any PEC of its own. -/
def sentBody (t : Transaction) : List Byte :=
  match t.kind with
  | .quick => [addressWrite t]
  | .writeWord => addressWrite t :: t.command :: t.data
  | .readWord | .readBlock => [addressWrite t, t.command, addressRead t]
  | .writeBlock => addressWrite t :: t.command :: BitVec.ofNat 8 t.data.length :: t.data

/-- R60, R61: the K240 appends the PEC to a write. -/
def appendsPec (t : Transaction) : Bool :=
  t.pec && (t.kind == .writeWord || t.kind == .writeBlock)

/-- R57: all bytes the K240 sends. -/
def sentBytes (t : Transaction) : List Byte :=
  if appendsPec t then sentBody t ++ [crc8 (sentBody t)] else sentBody t

/-- R58: which sent bytes are address bytes. -/
def isAddressByte (t : Transaction) (i : Nat) : Bool :=
  i == 0 || (i == 2 && (t.kind == .readWord || t.kind == .readBlock))

/-- A received byte; a released line reads as ones (log 15). -/
def receivedByte (r : Reply) (i : Nat) : Byte := r.received.getD i 0xFF#8

/-- R61: the outcome of a read whose data bytes and all earlier received bytes are given. -/
def checkPec (t : Transaction) (r : Reply) (covered data : List Byte) : BusOutcome × List Byte :=
  if t.pec && receivedByte r covered.length != crc8 (sentBody t ++ covered) then (.pecFail, [])
  else (.ok, data)

/-- R59: a bad count byte. -/
def badCount (t : Transaction) (n : Nat) : Bool :=
  n == 0 || decide (32 < n) || decide (t.readLength < n)

/-- R58, R59, R61: the outcome of a transaction and the data it delivers. -/
def transactionOutcome (t : Transaction) (r : Reply) : BusOutcome × List Byte :=
  match r.nackAt.filter (fun i => decide (i < (sentBytes t).length)) with
  | some i => if isAddressByte t i then (.nackAddr, []) else (.nackData, [])
  | none =>
    match t.kind with
    | .quick | .writeWord | .writeBlock => (.ok, [])
    | .readWord =>
      let data := [receivedByte r 0, receivedByte r 1]
      checkPec t r data data
    | .readBlock =>
      let n := (receivedByte r 0).toNat
      if badCount t n then (.badCount, [])
      else
        let data := (List.range n).map fun i => receivedByte r (i + 1)
        checkPec t r (receivedByte r 0 :: data) data

/-- The word of a two-byte read (R57). -/
def wordOf (data : List Byte) : Nat := value16 (data.getD 0 0#8) (data.getD 1 0#8)

/-! ### Recovery attempts (R66) -/

/-- R66: pulses until the data line reads high, at most `n` more. A pulse during which the clock is held low past the limit counts
as used (DESIGN CHOICE, log 70). -/
def pulseRun (after : BusLine) : Nat → List Pulse → Nat → Nat × Bool
  | 0, _, used => (used, false)
  | _ + 1, [], _ => (9, false)
  | n + 1, p :: rest, used =>
    if p.clockHeld then (used + 1, false)
    else if p.dataHigh then (used + 1, after.clock && after.data)
    else pulseRun after n rest (used + 1)

/-- R66: pulses used, and whether the attempt succeeded. -/
def attemptResult (a : AttemptSeen) : Nat × Bool :=
  if a.clockRose then pulseRun a.after 9 a.pulses 0 else (0, false)

/-! ### Scan pass (R30, R34) -/

/-- R30: the raw level of a position: its row while its column is driven. -/
def rawDown (columns : List Byte) (position : Nat) : Bool :=
  (columns.getD (position / 8) 0#8).getLsbD (position % 8)

/-! ### Straps and inputs (R1, R26) -/

/-- R26: what the strap pins mean. -/
def sampleStraps (p : StrapPins) : StrapImage where
  packCount := if p.packCount then 2 else 1
  columns := if p.matrixSize then 18 else 16
  fanCount := if p.fanCount then 2 else 1
  adapterClass := p.adapterClass.toNat
  autoPowerOn := p.autoPowerOn
  ioHigh := p.ioBaseSel

/-- R26: at pin reset and combination restart PACK_COUNT and MATRIX_SIZE keep their values. -/
def resampleStraps (old : StrapImage) (p : StrapPins) : StrapImage :=
  { sampleStraps p with packCount := old.packCount, columns := old.columns }

/-- R1: the filtered levels seeded from the raw inputs; pack 1 is held absent while PACK_COUNT is 1. -/
def seedLevels (raw : InputLevels) (image : StrapImage) : InputLevels :=
  { raw with presence1 := raw.presence1 && image.packCount == 2 }

/-- The level of one input. -/
def inputLevel (l : InputLevels) : FilteredInput → Bool
  | .lid => l.lid
  | .pwrbtn => l.pwrbtn
  | .acp => l.acp
  | .wakeAux => l.wakeAux
  | .presence0 => l.presence0
  | .presence1 => l.presence1

/-- One input at a new level. -/
def setInputLevel (l : InputLevels) (i : FilteredInput) (b : Bool) : InputLevels :=
  match i with
  | .lid => { l with lid := b }
  | .pwrbtn => { l with pwrbtn := b }
  | .acp => { l with acp := b }
  | .wakeAux => { l with wakeAux := b }
  | .presence0 => { l with presence0 := b }
  | .presence1 => { l with presence1 := b }

/-- The stability count of one input. -/
def inputCount (c : FilterCounts) : FilteredInput → Option Nat
  | .lid => c.lid
  | .pwrbtn => c.pwrbtn
  | .acp => c.acp
  | .wakeAux => c.wakeAux
  | .presence0 => c.presence0
  | .presence1 => c.presence1

/-- One stability count started, discarded or completed. -/
def setInputCount (c : FilterCounts) (i : FilteredInput) (t : Option Nat) : FilterCounts :=
  match i with
  | .lid => { c with lid := t }
  | .pwrbtn => { c with pwrbtn := t }
  | .acp => { c with acp := t }
  | .wakeAux => { c with wakeAux := t }
  | .presence0 => { c with presence0 := t }
  | .presence1 => { c with presence1 := t }

/-- The presence input of a pack. -/
def presenceInput : PackId → FilteredInput
  | .pack0 => .presence0
  | .pack1 => .presence1

/-! ### Register byte lanes (R178) -/

/-- A register after the bytes of a narrow write have replaced the lanes they cover. -/
def writeLanes : Word32 → Nat → List Byte → Word32
  | w, _, [] => w
  | w, i, b :: rest =>
    if i < 4 then
      writeLanes ((w &&& ~~~(0xFF#32 <<< (8 * i))) ||| ((BitVec.ofNat 32 b.toNat) <<< (8 * i))) (i + 1) rest
    else w

/-- R178: the listed bits of the alert registers and of WINDOW_CTRL. -/
def alertMask : Word32 := 0x7#32
def windowMask : Word32 := 0xFFFFE001#32

end Sys2Proof.Machine
end

