-- ==== Sys2Proof/Machine/Flags.lean ====
section
/-! DEFINITION. Every flag and condition the manual computes from other state: alarm flags, fault-window counts, FN
layer, combination key, ALERT_N and the outputs. -/
namespace Sys2Proof.Machine

/-! ### Alarm flags (R103) -/

def overCharged (w : Word16) : Bool := w.getLsbD 0
def terminateCharge (w : Word16) : Bool := w.getLsbD 1 || w.getLsbD 0
def overTemp (w : Word16) : Bool := w.getLsbD 2
def terminateDischarge (w : Word16) : Bool := w.getLsbD 3

/-! ### Fault window (R109) -/

def windowCount (o : WindowOutcome) (w : List WindowOutcome) : Nat := w.countP (· == o)

/-! ### Keyboard (R36, R50, R51) -/

/-- R36: the FN layer is in force while the table holds a CONFIRMED FN entry. -/
def fnInForce (k : Keyboard) : Bool := k.table.any fun e => e.confirmed && e.action == .fn

/-- R51: the combination position: the one marked combo, else the one holding FN in the BASE layer. -/
def comboPosition (m : Keymap) : Option Nat :=
  match m.combo.findIdx? (fun b => b) with
  | some n => some n
  | none => m.base.findIdx? (fun c => c == codeFn)

/-- R34: the debounced state of a position. -/
def debouncedDown (k : Keyboard) (n : Nat) : Bool :=
  match k.positions[n]? with
  | some p => p.down
  | none => false

/-- R51: the combination key state given to the platform power controller. -/
def comboDown (k : Keyboard) : Bool :=
  k.mode == .full &&
    match comboPosition k.keymap with
    | some n => debouncedDown k n
    | none => false

def suspectCount (k : Keyboard) : Nat := k.table.countP fun e => !e.confirmed

/-! ### Power (R18, R23) -/

/-- R18: all the conditions under which the combination timer runs. -/
def comboHolds (s : State) : Bool :=
  s.buttonPressed && !s.power.ignore && s.power.state == .run && s.kbd.mode == .full && comboDown s.kbd

/-- R17: the time already held meets long_press. -/
def longPressMet (s : State) : Bool :=
  match s.power.heldMs with
  | some t => decide (s.power.table.longPress * 1000 ≤ t)
  | none => false

/-- R10: auto power-on is in effect. -/
def autoPowerOnInEffect (s : State) : Bool :=
  match s.power.table.autoPowerOn with
  | .off => false
  | .on => true
  | .strap => s.power.straps.autoPowerOn

/-! ### Charge (R123, R124) -/

def inhibited (i : InhibitSet) : Bool := i.chargerLost || i.port || i.thermal

/-! ### Outputs -/

/-- R180: ALERT_N is asserted while a set and enabled cause stands in RUN; released while RESET_N is low (log 31). -/
def alertAsserted (s : State) : Bool :=
  !s.inReset && s.power.state == .run && (s.link.alertCause &&& s.link.alertEnable) != 0#32

/-- R123, R145: CHG_INH. -/
def chgInhAsserted (s : State) : Bool :=
  s.inReset || (s.chg.state == .idle || s.chg.state == .ready || s.chg.state == .inhibited)

/-- R123, R145: CHG_SEL. -/
def chgSel (s : State) : Option PackId := if s.inReset then none else s.chg.selected

/-- R158, R153, R167: the duty driven on a fan's PWM output. -/
def pwmDuty (s : State) (f : FanId) : Nat :=
  if s.inReset then 100 else if s.fanPresent f then (s.fan f).duty else 0

/-- What the column outputs of the key matrix do (R31, R33). -/
inductive ColumnDrive where
  | released
  | inTurn (columns : Nat)
  | together (columns : Nat)
deriving DecidableEq, Repr

/-- R31 to R33: in FULL each column of the matrix is driven in its turn, in WAKE_SCAN every column at once, in IDLE none;
released while RESET_N is low (log 31). -/
def columnDrive (s : State) : ColumnDrive :=
  if s.inReset then .released
  else
    match s.kbd.mode with
    | .idle => .released
    | .full => .inTurn s.power.straps.columns
    | .wakeScan => .together s.power.straps.columns

/-- R79: whether the part may drive the lines of a port: while a unit is on the bus or an attempt runs, and never while
RESET_N is low. -/
def portDrives (s : State) (p : PortId) : Bool :=
  !s.inReset && ((s.port p).granted.isSome || (s.port p).running)

end Sys2Proof.Machine
end

