-- ==== Sys2Proof/Machine/Records.lean ====
section
/-! DEFINITION. The status records, the platform area and the poll status table as the host reads them (R177, R181):
views of the units' state, and the rule by which an event that changed a record counts as one update (R174; log 9). -/
namespace Sys2Proof.Machine

/-- One field of a record: offset, size in bytes, value. -/
abbrev FieldAt := Nat × Nat × Nat

/-- The byte at an offset of a record; bytes not listed read 0 (R181). -/
def layoutByte : List FieldAt → Nat → Byte
  | [], _ => 0#8
  | (at_, size, v) :: rest, o =>
    if at_ ≤ o ∧ o < at_ + size then BitVec.ofNat 8 (v >>> (8 * (o - at_))) else layoutByte rest o

/-! ### Codes (R181) -/

def PowerState.code : PowerState → Nat
  | .off => 0 | .waking => 1 | .run => 2 | .suspending => 3 | .sleep => 4 | .shuttingDown => 5

def Cause.code : Cause → Nat
  | .none => 0 | .wake => 1 | .request => 2 | .longPress => 3 | .combination => 4 | .thermal => 5 | .critical => 6
  | .heartbeat => 7 | .railFault => 8 | .railTimeout => 9

def Heartbeat.code : Heartbeat → Nat
  | .disarmed => 0 | .watching => 1 | .silent => 2

def Factor.bitNumber : Factor → Nat
  | .lid => 0 | .pwrbtn => 1 | .acp => 2 | .wakeAux => 3 | .key => 4 | .batteryCritical => 5 | .autoOn => 6

/-- wake_factors. -/
def factorSet (fs : List Factor) : Nat := fs.foldl (fun n f => n ||| 2 ^ f.bitNumber) 0

/-- wake_first. -/
def factorFirst : Option Factor → Nat
  | none => 0
  | some f => f.bitNumber + 1

def staleCode (x : StaleSet) : Nat := bit x.platform 0 + bit x.battery 1 + bit x.thermal 2 + bit x.bus 3

def PackState.code : PackState → Nat
  | .absent => 0 | .detected => 1 | .probing => 2 | .online => 3 | .lost => 4 | .faulted => 5

def PackReason.code : PackReason → Nat
  | .none => 0 | .present => 1 | .removed => 2 | .probeStart => 3 | .probeOk => 4 | .newPack => 5 | .probeFailed => 6
  | .badIdentity => 7 | .request => 8 | .nackLimit => 9 | .pecLimit => 10 | .implausibleVoltage => 11

def WindowOutcome.code : WindowOutcome → Nat
  | .ok => 0 | .nack => 1 | .pecFail => 2 | .implausible => 3

def selectionCode : Option PackId → Nat
  | none => 0
  | some .pack0 => 1
  | some .pack1 => 2

def ChargeState.code : ChargeState → Nat
  | .idle => 0 | .ready => 1 | .charging => 2 | .holding => 3 | .inhibited => 4

def LimitReason.code : LimitReason → Nat
  | .none => 0 | .input => 1 | .thermal => 2 | .request => 3 | .profile => 4 | .override => 5 | .slew => 6 | .stale => 7
  | .implausible => 8 | .target => 9 | .switch => 10

def BusOutcome.code : BusOutcome → Nat
  | .never => 0 | .ok => 1 | .nackAddr => 2 | .nackData => 3 | .pecFail => 4 | .clockTimeout => 5 | .badCount => 6
  | .skipped => 7 | .portHalted => 8 | .busStuck => 9 | .short => 10

def TxKind.code : TxKind → Nat
  | .quick => 0 | .readWord => 1 | .writeWord => 2 | .readBlock => 3 | .writeBlock => 4

def SlotState.code : SlotState → Nat
  | .unknown => 0 | .valid => 1 | .stale => 2 | .failed => 3

def FanState.code : FanState → Nat
  | .off => 0 | .running => 1 | .stalled => 2 | .kicking => 3 | .faulted => 4

def ScanMode.code : ScanMode → Nat
  | .idle => 0 | .full => 1 | .wakeScan => 2

def PortState.code : PortState → Nat
  | .disabled => 0 | .idle => 1 | .busy => 2 | .recovering => 3 | .halted => 4

def StuckCause.code : StuckCause → Nat
  | .none => 0 | .clockLow => 1 | .dataLow => 2

def LastRecovery.code : LastRecovery → Nat
  | .none => 0 | .succeeded => 1 | .failed => 2

def RoundState.code : RoundState → Nat
  | .stopped => 0 | .waiting => 1 | .running => 2

def SkipReason.code : SkipReason → Nat
  | .none => 0 | .packState => 1 | .sensorOff => 2 | .target => 3 | .port => 4

def WatchResult.code : WatchResult → Nat
  | .none => 0 | .isFalse => 1 | .isTrue => 2

def ProbeState.code : ProbeState → Nat
  | .none => 0 | .waiting => 1 | .running => 2 | .done => 3

def ProbeResult.code : ProbeResult → Nat
  | .none => 0 | .ok => 1 | .probeFailed => 2 | .badIdentity => 3 | .abandoned => 4

/-- granted_kind. -/
def grantedCode : Option Work → Nat
  | none => 0
  | some (.charger _) => 1
  | some (.probe _) => 2
  | some (.poll _) => 3
  | some (.host _) => 4

/-! ### Record contents (R181), without the generation count -/

/-- R23: critical_state. -/
def criticalCode (s : State) : Nat :=
  if s.power.graceMs.isSome then 2 else if s.dsg.critical then 1 else 0

/-- The fields of the platform record that the platform power controller writes (R175). -/
def powerFields (s : State) : List FieldAt :=
  let p := s.power
  [(2, 1, p.state.code), (3, 1, p.cause.code), (4, 1, p.shutdownCause.code), (5, 1, bit s.lidOpen 0),
    (6, 1, bit s.adapterIn 0), (7, 1, bit p.levels.wakeAux 0), (8, 1, bit s.buttonPressed 0),
    (9, 1, p.heartbeat.code), (10, 1, bit s.overrideValid 0), (11, 1, criticalCode s),
    (12, 1, factorSet p.wakeFactors), (13, 1, factorFirst p.wakeFirst)]

def platformFields (s : State) : List FieldAt :=
  powerFields s ++ [(14, 1, staleCode s.queue.stale), (16, 2, s.link.lastProtocol.toNat)]

/-- R181: an age, 255 for NEVER. -/
def ageCode : Option Nat → Nat
  | none => 255
  | some n => n

/-- R181: the fault window, oldest in bits 1:0. -/
def windowCode : List WindowOutcome → Nat
  | [] => 0
  | o :: rest => o.code + 4 * windowCode rest

def packFields (s : State) (k : PackId) : List FieldAt :=
  let p := s.pack k
  let v := p.values
  [(2, 1, p.state.code), (3, 1, p.reason.code),
    (4, 1, bit p.identity.isSome 0 + bit s.dsg.settleMs.isSome 1),
    (5, 1, p.failures), (6, 1, selectionCode s.dsg.selected),
    (7, 1, bit (overCharged v.alarmWord) 0 + bit (terminateCharge v.alarmWord) 1 + bit (overTemp v.alarmWord) 2 +
      bit (terminateDischarge v.alarmWord) 3),
    (8, 2, v.voltage), (10, 2, pattern16 v.current), (12, 1, v.soc), (13, 1, p.window.length),
    (14, 2, pattern16 v.temperature), (16, 2, v.reqCurrent), (18, 2, v.reqVoltage), (20, 2, v.alarmWord.toNat),
    (22, 2, v.remaining), (24, 2, v.fullCap), (26, 2, v.cycles)] ++
  (List.range 7).map (fun i => (28 + i, 1, ageCode (p.ages.getD i none))) ++
  [(35, 1, p.implausibleRun), (36, 2, windowCode p.window), (38, 1, windowCount .nack p.window),
    (39, 1, windowCount .pecFail p.window), (40, 1, windowCount .implausible p.window)] ++
  match p.identity with
  | none => []
  | some i => [(41, 1, i.chemistry.toNat), (42, 2, i.designVoltage), (44, 2, i.designCapacity), (46, 3, i.serial),
      (50, 2, i.manufactureDate.toNat)]

/-- R134: I_ad. -/
def adapterLimit (s : State) : Nat :=
  if s.chg.profile.adapterLimit = 0 then
    match s.power.straps.adapterClass with
    | 0 => 2250
    | 1 => 3250
    | 2 => 4500
    | _ => 6500
  else s.chg.profile.adapterLimit

/-- R141: the charger record; the last written pair reads 0 while it is unknown (DESIGN CHOICE, log 67). -/
def chargerFields (s : State) : List FieldAt :=
  let c := s.chg
  [(2, 1, c.state.code), (3, 1, bit c.inhibit.chargerLost 0 + bit c.inhibit.port 1 + bit c.inhibit.thermal 2),
    (4, 1, selectionCode c.selected),
    (5, 1, bit c.latch 0 + bit (c.mode == .conserve) 1 + bit c.written.isSome 2 + bit (c.dFan == 50) 3),
    (6, 1, c.limit.code), (7, 1, c.writeOutcome.code), (8, 1, c.desired.current / 64),
    (9, 1, (c.written.map (·.current)).getD 0 / 64), (10, 2, c.desired.voltage),
    (12, 2, (c.written.map (·.voltage)).getD 0),
    (14, 1, min c.writeFailures 3 + 4 * min c.readFailures 3 + 16 * min c.goodReads 3),
    (15, 1, c.dPk), (16, 1, c.dCs), (17, 1, (c.cap.map (· / 64)).getD 0xFF), (18, 2, c.inputCurrent),
    (20, 2, c.systemCurrent), (22, 2, c.chargerStatus.toNat), (24, 2, adapterLimit s), (26, 2, c.iIn), (28, 2, c.iTh),
    (30, 2, c.iRaw)]

/-- The active configuration of a slot. -/
def slotConfig (s : State) (n : Nat) : SlotConfig := s.th.table.slots.getD n ⟨false, false, 0, 0⟩

/-- A slot's state. -/
def slotOf (s : State) (n : Nat) : Slot := s.th.slots.getD n ⟨.unknown, 0, false, 0, 0⟩

/-- R147: the effective temperature. -/
def effective (s : State) (n : Nat) : Int :=
  match (slotOf s n).state with
  | .valid => (slotOf s n).reading
  | .unknown | .stale | .failed => (slotConfig s n).fallback

def sensorFields (s : State) (n : Nat) : List FieldAt :=
  let x := slotOf s n
  let c := slotConfig s n
  [(2, 1, x.state.code), (3, 1, bit c.enable 0 + bit x.tripped 1), (4, 1, x.tripCount), (5, 1, x.missCount),
    (6, 2, pattern16 x.reading), (8, 2, pattern16 (effective s n)), (10, 2, pattern16 c.critical),
    (12, 2, pattern16 c.fallback)]

/-- A fan that is not present reads OFF and duty 0 and is not updated (R162): all its bytes are 0. -/
def fanFields (s : State) (f : FanId) : List FieldAt :=
  let x := s.fan f
  if s.fanPresent f then
    [(2, 1, x.state.code), (3, 1, x.duty), (4, 1, x.curveDuty), (5, 1, x.target), (6, 2, pattern16 x.controlTemp),
      (8, 1, bit x.curveClosed 0 + bit x.offRun 1 + bit s.th.boostMs.isSome 2 + bit s.tripActive 3),
      (9, 1, x.override), (10, 2, x.tachCount), (12, 2, x.rpm), (14, 1, x.windowDuty), (15, 1, x.low), (16, 1, x.kick),
      (17, 1, x.kickWindow), (18, 1, x.recovery), (19, 1, s.th.boostLeft)]
  else []

def keyboardFields (s : State) : List FieldAt :=
  let k := s.kbd
  [(2, 1, k.mode.code), (3, 1, k.table.length), (4, 1, suspectCount k), (5, 1, k.owed.length),
    (6, 1, bit (fnInForce k) 0 + bit (comboDown k) 1 + bit k.rowActive 2 + bit k.overflow 3 + bit k.rollover 4),
    (7, 1, k.keymap.debouncePasses)]

def portFields (s : State) (p : PortId) : List FieldAt :=
  let x := s.port p
  let e := s.engine p
  [(2, 1, x.state.code), (3, 1, x.attempts), (4, 1, bit x.running 0 + bit x.charger.isSome 1 + bit e.overrun 2),
    (5, 1, x.stuck.code), (6, 1, x.pulses + 16 * x.lastRecovery.code), (7, 1, bit x.fast 0), (8, 1, x.clockLow),
    (9, 1, x.fairness), (10, 1, x.hosts.length), (11, 1, x.probes.length), (12, 1, grantedCode x.granted),
    (13, 1, x.lastTarget), (14, 1, x.lastKind.code), (15, 1, x.lastOutcome.code), (16, 2, e.number),
    (18, 1, e.round.code), (20, 2, e.interval)]

/-- R115. failure_count is the pack's count as it stands (DESIGN CHOICE, log 82); the identity bytes read 0 while identity_valid is
clear (DESIGN CHOICE, log 83). -/
def probeFields (s : State) (k : PackId) : List FieldAt :=
  let r := (s.pack k).record
  [(2, 1, r.state.code), (3, 1, r.result.code), (4, 1, r.targetIndex), (5, 1, r.targetAddress), (6, 1, r.step1.code),
    (7, 1, r.step2.code), (8, 1, r.step3.code), (9, 1, r.step4.code), (10, 1, bit r.identity.isSome 0),
    (11, 1, (s.pack k).failures), (24, 4, r.completedAt.toNat)] ++
  match r.identity with
  | none => []
  | some i => [(12, 2, i.designVoltage), (14, 2, i.designCapacity), (16, 1, i.chemistry.toNat), (17, 3, i.serial),
      (20, 2, i.manufactureDate.toNat)]

/-- The content of a status record, its generation count left out. -/
def recordFields (s : State) : Rec → List FieldAt
  | .platform => platformFields s
  | .pack k => packFields s k
  | .charger => chargerFields s
  | .sensor n => sensorFields s n
  | .fan f => fanFields s f
  | .keyboard => keyboardFields s
  | .port p => portFields s p
  | .probe k => probeFields s k

/-- R174, R175: an event that changed a record's fields is one update of it (log 9), of the keyboard and port records the one
at its end. -/
def commit (r : Rec) (before after : State) : State :=
  if recordFields before r = recordFields after r then after else announce r after

/-- As `commit`, for the fields of the platform record that the platform power controller writes (R175). -/
def commitPower (before after : State) : State :=
  if powerFields before = powerFields after then after else publish .platform after

/-- An event of one unit: its change, then the update of the record it changed. -/
def updating (r : Rec) (f : State → State) (s : State) : State := commit r s (f s)

/-- An event of the platform power controller. -/
def updatingPower (f : State → State) (s : State) : State := commitPower s (f s)

/-- An event that changes both pack records (R117). -/
def updatingPacks (f : State → State) (s : State) : State :=
  commit (.pack .pack1) s (commit (.pack .pack0) s (f s))

/-- An event that changes both fan records. -/
def updatingFans (f : State → State) (s : State) : State :=
  commit (.fan .fan1) s (commit (.fan .fan0) s (f s))

/-! ### What the host reads (R169, R177, R181) -/

/-- A record with its generation count in bytes 0 and 1. -/
def recordByte (s : State) (r : Rec) (o : Nat) : Byte :=
  if o < 2 then BitVec.ofNat 8 ((s.gen r).toNat >>> (8 * o)) else layoutByte (recordFields s r) o

/-- R177: the fixed offsets of the platform area. -/
def platformAreaFields (s : State) : List FieldAt :=
  let i := s.power.straps
  [(0x00, 2, Config.vendorCode), (0x02, 2, Config.partCode), (0x04, 1, Config.revisionCode), (0x08, 1, i.packCount),
    (0x09, 1, i.columns), (0x0A, 1, i.fanCount), (0x0B, 1, i.adapterClass), (0x0C, 1, bit i.autoPowerOn 0),
    (0x0D, 1, bit i.ioHigh 0), (0x10, 4, s.link.partTime.toNat)]

/-- R93, R181: one byte of a poll status row. -/
def rowByte (r : PollRow) (o : Nat) : Byte :=
  layoutByte [(0, 1, r.outcome.code), (1, 1, r.skip.code), (2, 2, r.round), (4, 2, r.lastValue), (6, 1, r.watch.code)] o

/-- A row that no entry has written (R99). -/
def neverRow : PollRow := ⟨.never, .none, 0, 0, .none⟩

/-- R181: the status region, 0x0A00 to 0x0BFF. -/
def statusByte (s : State) (o : Nat) : Byte :=
  if o < 0x0A40 then recordByte s (.pack .pack0) (o - 0x0A00)
  else if o < 0x0A80 then recordByte s (.pack .pack1) (o - 0x0A40)
  else if o < 0x0AA0 then recordByte s .charger (o - 0x0A80)
  else if o < 0x0B00 then recordByte s (.sensor ((o - 0x0AA0) / 16)) ((o - 0x0AA0) % 16)
  else if o < 0x0B20 then recordByte s (.fan .fan0) (o - 0x0B00)
  else if o < 0x0B40 then recordByte s (.fan .fan1) (o - 0x0B20)
  else if o < 0x0B60 then recordByte s .keyboard (o - 0x0B40)
  else if o < 0x0B80 then recordByte s (.port .a) (o - 0x0B60)
  else if o < 0x0BA0 then recordByte s (.port .b) (o - 0x0B80)
  else if o < 0x0BC0 then recordByte s (.probe .pack0) (o - 0x0BA0)
  else if o < 0x0BE0 then recordByte s (.probe .pack1) (o - 0x0BC0)
  else 0#8

/-- R169: the byte a host read of a claimed cycle returns at a window offset; past the window it reads 0 (R170). -/
def hostByte (s : State) (o : Nat) : Byte :=
  if o < 0x0020 then layoutByte (platformAreaFields s) o
  else if o < 0x0060 then recordByte s .platform (o - 0x0020)
  else if o < 0x0100 then Memory.read s.mem o
  else if o < 0x0110 then layoutByte [(0, 2, s.queue.write), (4, 2, s.queue.read)] (o - 0x0100)
  else if o < 0x0A00 then Memory.read s.mem o
  else if o < 0x0C00 then statusByte s o
  else if o < 0x0D00 then rowByte (s.engineA.rows.getD ((o - 0x0C00) / 8) neverRow) ((o - 0x0C00) % 8)
  else if o < 0x0E00 then rowByte (s.engineB.rows.getD ((o - 0x0D00) / 8) neverRow) ((o - 0x0D00) % 8)
  else if o < 0x2000 then Memory.read s.mem o
  else 0#8

/-- R178: the I/O base of the registers. -/
def registerBase (s : State) : Nat := if s.power.straps.ioHigh then 0x06A0 else 0x0680

/-- R178: the 32 bits of the register at an offset from the base. -/
def registerRead (s : State) (offset : Nat) : Word32 :=
  if offset = 0x0 then Config.ident
  else if offset = 0x4 then s.link.alertCause
  else if offset = 0x8 then s.link.alertEnable
  else if offset = 0xC then s.link.windowCtrl
  else 0#32

/-- R178: the byte at an offset from the base: one lane of the register that covers it, the lowest at the lowest offset. -/
def registerByte (s : State) (offset : Nat) : Byte :=
  BitVec.ofNat 8 ((registerRead s (offset / 4 * 4)).toNat >>> (8 * (offset % 4)))

/-- R178: a read of 1, 2 or 4 bytes of a register acts on the bytes it covers. -/
def registerBytes (s : State) (offset n : Nat) : List Byte := (List.range n).map fun i => registerByte s (offset + i)

end Sys2Proof.Machine
end

