-- ==== Sys2Proof/Machine/Arbiter.lean ====
section
/-! DEFINITION. The arbiter's choice (R71 to R73): which waiting unit is granted, and the port after a grant. The units offer their
work in Charge.lean, Packs.lean, Ports.lean and Rounds.lean. -/
namespace Sys2Proof.Machine

/-- An event of one port: its change, then the update of its record (R78). -/
def updatingPort (p : PortId) (f : Port → Port) (s : State) : State :=
  updating (.port p) (fun x => x.setPort p (f (x.port p))) s

/-- R73: the fairness count after a grant. -/
def fairnessAfter (w : Work) (x : Port) : Nat :=
  match w with
  | .host _ => 0
  | .poll _ => if x.hosts = [] then x.fairness else min 4 (x.fairness + 1)
  | .charger _ | .probe _ => x.fairness

/-- A host transfer taken from its list, the poll entry, a probe step. -/
def takeHost (x : Port) : Option (Work × Port) :=
  match x.hosts with
  | [] => none
  | n :: rest => some (.host n, { x with hosts := rest })

def takePoll (x : Port) : Option (Work × Port) :=
  match x.poll with
  | none => none
  | some n => some (.poll n, { x with poll := none })

def takeProbe (x : Port) : Option (Work × Port) :=
  match x.probes with
  | [] => none
  | u :: rest => some (.probe u, { x with probes := rest })

/-- R72: the unit granted next and the lists without it. -/
def chooseWork (x : Port) : Option (Work × Port) :=
  match x.charger with
  | some g => some (.charger g, { x with charger := none })
  | none =>
    let fair := if x.fairness = 4 then takeHost x else none
    fair <|> takeProbe x <|> takePoll x <|> takeHost x

/-- R71: a unit joins its waiting list; a group takes the place of an older one. -/
def joinList (w : Work) (x : Port) : Port :=
  match w with
  | .charger g => { x with charger := some g }
  | .probe u => { x with probes := x.probes ++ [u] }
  | .poll n => { x with poll := some n }
  | .host n => { x with hosts := x.hosts ++ [n] }

/-- R72: the waiting lists of a port are empty. -/
def nothingWaits (x : Port) : Bool := x.charger.isNone && x.probes.isEmpty && x.poll.isNone && x.hosts.isEmpty

/-- R72: a unit is granted. Its work on the bus begins at the end of the command (`beginWork`; log 10). -/
def putOnBus (w : Work) (x : Port) : Port :=
  { x with state := .busy, granted := some w, starting := true, second := false, fairness := fairnessAfter w x }

end Sys2Proof.Machine
end

