-- ==== Sys2Proof/Machine/Queue.lean ====
section
/-! DEFINITION. The report queue (R198 to R205): record formats, offers by class, stale classes and RESYNC, room events,
emptying. -/
namespace Sys2Proof.Machine

/-! ### Record formats (R200) -/

/-- What a THERMAL record reports. -/
inductive ThermalEvent where
  | trip | clear | stale | failed | recovered
deriving DecidableEq, Repr

/-- What a FAN record reports. -/
inductive FanEvent where
  | stalled | faulted | recovered
deriving DecidableEq, Repr

/-- What a PORT record reports. -/
inductive PortEvent where
  | stuck | halted | recovered | overrun
deriving DecidableEq, Repr

/-- R201: a record of any kind but KEY and RESYNC. -/
inductive Notice where
  | rollover
  | fanBoost (on : Bool)
  | chargeMode (mode : ChargeMode)
  | lid (opened : Bool)
  | button (pressed : Bool)
  | adapter (isIn : Bool) (limit : Nat)
  | pack (k : PackId) (reason : PackReason) (old new : PackState) (soc : Nat)
  | charge (old new : ChargeState) (limit : LimitReason) (current : Nat)
  | thermal (slot : Nat) (what : ThermalEvent)
  | fan (f : FanId) (what : FanEvent)
  | watch (port : PortId) (entry value : Nat)
  | power (state : PowerState) (cause : Cause)
  | wake (factors : List Factor) (first : Option Factor)
  | heartbeat (resumed : Bool)
  | port (p : PortId) (what : PortEvent)
deriving DecidableEq, Repr

def ThermalEvent.code : ThermalEvent → Nat
  | .trip => 0 | .clear => 1 | .stale => 2 | .failed => 3 | .recovered => 4

def FanEvent.code : FanEvent → Nat
  | .stalled => 0 | .faulted => 1 | .recovered => 2

def PortEvent.code : PortEvent → Nat
  | .stuck => 0 | .halted => 1 | .recovered => 2 | .overrun => 3

def ChargeMode.code : ChargeMode → Nat
  | .full => 0 | .conserve => 1

/-- R202: the stale classes. -/
inductive StaleClass where
  | platform | battery | thermal | bus
deriving DecidableEq, Repr

/-- R201: the stale class of a notice. -/
def Notice.staleClass : Notice → StaleClass
  | .rollover | .fanBoost _ | .chargeMode _ | .lid _ | .button _ | .adapter _ _ | .power _ _ | .wake _ _
  | .heartbeat _ => .platform
  | .pack _ _ _ _ _ | .charge _ _ _ _ => .battery
  | .thermal _ _ | .fan _ _ => .thermal
  | .watch _ _ _ | .port _ _ => .bus

/-- A first unit: its bytes 0 to 3 and the part time (R200). -/
def firstUnit (b0 b1 b2 b3 : Nat) (time : Word32) : List Byte :=
  [BitVec.ofNat 8 b0, BitVec.ofNat 8 b1, BitVec.ofNat 8 b2, BitVec.ofNat 8 b3] ++ bytes32 time.toNat

/-- A second unit: bytes 8 to 15 of a record, the last four unused (R200). -/
def secondUnit (b8 b9 b10 b11 : Nat) : List Byte :=
  [BitVec.ofNat 8 b8, BitVec.ofNat 8 b9, BitVec.ofNat 8 b10, BitVec.ofNat 8 b11, 0#8, 0#8, 0#8, 0#8]

/-- R200: the units of a notice. -/
def Notice.units (n : Notice) (t : Word32) : List (List Byte) :=
  match n with
  | .rollover => [firstUnit 2 1 0 0 t]
  | .fanBoost on => [firstUnit 3 1 1 (bit on 0) t]
  | .chargeMode m => [firstUnit 3 1 2 m.code t]
  | .lid opened => [firstUnit 4 1 (bit opened 0) 0 t]
  | .button pressed => [firstUnit 5 1 (bit pressed 0) 0 t]
  | .adapter isIn limit => [firstUnit 6 1 (bit isIn 0) (limit / 50) t]
  | .pack k reason old new soc =>
    [firstUnit 7 2 (packNum k) reason.code t, secondUnit old.code new.code soc 0]
  | .charge old new limit current =>
    [firstUnit 8 2 old.code new.code t, secondUnit limit.code 0 current (current / 256)]
  | .thermal slot what => [firstUnit 9 1 slot what.code t]
  | .fan f what => [firstUnit 10 1 (fanNum f) what.code t]
  | .watch p entry value => [firstUnit 11 2 (portNum p) entry t, secondUnit value (value / 256) 0 0]
  | .power state cause => [firstUnit 12 1 state.code cause.code t]
  | .wake factors first => [firstUnit 13 1 (factorSet factors) (factorFirst first) t]
  | .heartbeat resumed => [firstUnit 14 1 (bit resumed 0) 0 t]
  | .port p what => [firstUnit 15 1 (portNum p) what.code t]

/-- R200: the transition of a KEY record. -/
inductive Transition where
  | down | lateDown | up | sweepUp
deriving DecidableEq, Repr

def Transition.code : Transition → Nat
  | .down => 0 | .lateDown => 1 | .up => 2 | .sweepUp => 3

/-- R200: a KEY record; its position stands in bits 7:6 of byte 0 and bits 7:2 of byte 1. -/
def keyUnit (tr : Transition) (position : Nat) (code : Word16) (t : Word32) : List Byte :=
  firstUnit (1 + 16 * tr.code + 64 * (position / 64)) (1 + 4 * (position % 64)) code.toNat (code.toNat / 256) t

/-- R200, R202: a RESYNC record. -/
def resyncUnit (x : StaleSet) (t : Word32) : List Byte := firstUnit 0 1 (staleCode x) 0 t

/-! ### Placing (R198) -/

/-- R198: (W − Rd) mod 128. -/
def occupancy (q : Queue) : Nat := (q.write + 128 - q.read) % 128

/-- R198: 127 minus the occupancy. -/
def room (q : Queue) : Nat := 127 - occupancy q

/-- R198: the offset of a unit. -/
def unitOffset (n : Nat) : Nat := 0x0110 + 8 * (n % 128)

/-- R198: write units from unit `n` on, modulo 128. -/
def storeUnits : Nat → List (List Byte) → State → State
  | _, [], s => s
  | n, u :: rest, s => storeUnits (n + 1) rest (storeBytes (unitOffset n) u s)

/-- R198: write the units, then move W, then set REPORT. -/
def place (units : List (List Byte)) (s : State) : State :=
  let s1 := storeUnits s.queue.write units s
  setCause causeReport { s1 with queue := { s1.queue with write := (s1.queue.write + units.length) % 128 } }

/-! ### Stale classes (R202) -/

def emptyStale : StaleSet := ⟨false, false, false, false⟩
def allStale : StaleSet := ⟨true, true, true, true⟩

def StaleSet.add (x : StaleSet) : StaleClass → StaleSet
  | .platform => { x with platform := true }
  | .battery => { x with battery := true }
  | .thermal => { x with thermal := true }
  | .bus => { x with bus := true }

/-- R202: each change of the set is one update of the platform record. -/
def setStale (x : StaleSet) (s : State) : State :=
  if s.queue.stale = x then s else publish .platform { s with queue := { s.queue with stale := x } }

/-- R202: a RESYNC carries the set, which is then cleared. -/
def placeResync (s : State) : State :=
  setStale emptyStale (place [resyncUnit s.queue.stale s.link.partTime] s)

/-- R201, R203: place a RESYNC where one is due. -/
def resyncIfDue (s : State) : State :=
  if s.queue.stale ≠ emptyStale ∧ s.kbd.owed = [] ∧ 1 ≤ room s.queue then placeResync s else s

/-! ### Offers (R201) -/

/-- R201: a notice is placed, or dropped with its class. -/
def offer (n : Notice) (s : State) : State :=
  let s1 := resyncIfDue s
  let units := n.units s1.link.partTime
  if units.length ≤ room s1.queue then place units s1 else setStale (s1.queue.stale.add n.staleClass) s1

/-- R201: a KEY DOWN; the Bool says whether it was placed. -/
def offerKeyDown (late : Bool) (position : Nat) (code : Word16) (s : State) : State × Bool :=
  let s1 := resyncIfDue s
  if s1.kbd.owed = [] ∧ 1 ≤ room s1.queue then
    (place [keyUnit (if late then .lateDown else .down) position code s1.link.partTime] s1, true)
  else (s1, false)

/-- R201: a KEY UP; the Bool says whether it was placed. -/
def offerKeyUp (sweep : Bool) (position : Nat) (code : Word16) (s : State) : State × Bool :=
  let s1 := resyncIfDue s
  if 1 ≤ room s1.queue then
    (place [keyUnit (if sweep then .sweepUp else .up) position code s1.link.partTime] s1, true)
  else (s1, false)

/-! ### Room events and emptying (R203, R204) -/

/-- R203, step 1: owed releases from the head of the list while there is room. -/
def placeOwed : List OwedRelease → State → State
  | [], s => s
  | r :: rest, s =>
    if 1 ≤ room s.queue then
      placeOwed rest
        (place [keyUnit (if r.sweep then .sweepUp else .up) r.position r.code s.link.partTime]
          { s with kbd := { s.kbd with owed := rest } })
    else s

/-- R36: the press count is 0 whenever the table and the owed list are both empty. -/
def resetPressCount (k : Keyboard) : Keyboard :=
  if k.table = [] ∧ k.owed = [] then { k with pressCount := 0 } else k

/-- R203: a room event; the releases it places are one update of the keyboard record. -/
def roomEvent (s : State) : State :=
  resyncIfDue (updating .keyboard (fun x =>
    let x1 := placeOwed x.kbd.owed x
    { x1 with kbd := resetPressCount x1.kbd }) s)

/-- R204: the queue is emptied; the body's units stay. -/
def emptyQueue (s : State) : State :=
  let s1 := updating .keyboard (fun x => { x with kbd := resetPressCount { x.kbd with owed := [] } }) s
  setStale emptyStale { s1 with queue := { s1.queue with write := 0, read := 0 } }

end Sys2Proof.Machine
end

