-- ==== Sys2Proof/Machine/Charge.lean ====
section
/-! DEFINITION. The charge controller (R123 to R146): selection, setpoint computation, write decision, evaluations and
what makes them run. -/
namespace Sys2Proof.Machine

/-! ### Selection (R127 to R130) -/

/-- R127: thresholds of the mode in force. -/
def startThreshold (c : Charge) : Nat :=
  match c.mode with
  | .full => c.profile.fullStart
  | .conserve => c.profile.conserveStart

def stopThreshold (c : Charge) : Nat :=
  match c.mode with
  | .full => c.profile.fullStop
  | .conserve => c.profile.conserveStop

/-- R128: eligible. -/
def eligible (s : State) (k : PackId) : Bool :=
  (s.pack k).state == .online && !overTemp (s.pack k).values.alarmWord &&
    !terminateCharge (s.pack k).values.alarmWord

/-- R128: a candidate. -/
def candidate (s : State) (k : PackId) : Bool :=
  eligible s k && (decide ((s.pack k).values.soc < startThreshold s.chg) ||
    (s.chg.selected == some k && !s.chg.latch && decide ((s.pack k).values.soc < stopThreshold s.chg)))

/-- R129: the desired selection. -/
def desiredSelection (s : State) : Option PackId :=
  match s.chg.selected with
  | some k =>
    if eligible s k then
      if s.chg.latch && candidate s (otherPack k) then some (otherPack k) else some k
    else none
  | none => if candidate s .pack0 then some .pack0 else if candidate s .pack1 then some .pack1 else none

/-- R128: the latch decided from the soc. -/
def decideLatch (c : Charge) (soc : Nat) : Bool :=
  if stopThreshold c ≤ soc then true else if soc < startThreshold c then false else c.latch

/-! ### Derate terms (R135) -/

/-- R135: the percent of the band that holds a temperature, 0 outside every band. -/
def bandPercent : List Band → Int → Nat
  | [], _ => 0
  | b :: rest, t => if b.low ≤ t ∧ t < b.high then b.percent else bandPercent rest t

def decideDpk (s : State) (sel : Option PackId) : Nat :=
  match sel with
  | none => 100
  | some k => bandPercent s.chg.profile.bands (s.pack k).values.temperature

def decideDcs (s : State) : Nat :=
  match s.chg.profile.chargerSensor with
  | none => 100
  | some n =>
    if effective s n < s.chg.profile.chargerHot then 100
    else if effective s n < s.chg.profile.chargerMax then 50
    else 0

def decideDfan (s : State) : Nat :=
  if s.th.fan0.state == .faulted || s.th.fan1.state == .faulted then 50 else 100

/-- R135: D. -/
def derate (c : Charge) : Nat := min c.dPk (min c.dCs c.dFan)

/-! ### Setpoint computation (R133 to R137) -/

/-- R133: the first hold that applies. -/
def holdReason (s : State) (k : PackId) : Option LimitReason :=
  let p := s.pack k
  if p.ages.any (fun a => match a with | none => true | some n => decide (3 < n)) then some .stale
  else if p.values.voltage < 4000 ∨ 20000 < p.values.voltage then some .implausible
  else if s.chg.latch then some .target
  else if s.chg.cap = some 0 then some .override
  else if p.values.reqCurrent = 0 ∨ p.values.reqVoltage = 0 then some .request
  else none

/-- R134, step 1: H. -/
def headroom (s : State) : Int :=
  (adapterLimit s : Int) - s.chg.profile.reserve - s.chg.systemCurrent

/-- R134, step 2: I_in. -/
def inputLimited (s : State) (k : PackId) : Nat :=
  if headroom s ≤ 0 then 0
  else (headroom s).toNat * s.chg.profile.adapterVoltage * 29 / ((s.pack k).values.voltage * 32)

/-- R134, step 3: I_th. -/
def thermalLimit (s : State) (k : PackId) : Nat := (s.pack k).values.reqCurrent * derate s.chg / 100

/-- R134, step 4: I_raw. -/
def rawCurrent (s : State) (k : PackId) : Nat :=
  min (min (thermalLimit s k) (inputLimited s k))
    (min (match s.chg.cap with | some c => min s.chg.profile.profileCap c | none => s.chg.profile.profileCap) 8128)

/-- R134, step 5: the binding term. -/
def bindingTerm (s : State) (k : PackId) : LimitReason :=
  if inputLimited s k = rawCurrent s k then .input
  else if thermalLimit s k = rawCurrent s k then (if derate s.chg < 100 then .thermal else .request)
  else if s.chg.profile.profileCap = rawCurrent s k then .profile
  else .override

/-- R134: I_prev. -/
def previousCurrent (c : Charge) : Nat := (c.written.map (·.current)).getD 0

/-- R136, R137: state, setpoint and limit_reason from the raw current; `starved` says that the previous evaluation
left HOLDING with reason INPUT. -/
def setpoint (starved : Bool) (raw prev : Nat) (binding : LimitReason) : ChargeState × Nat × LimitReason :=
  let q := raw / 64 * 64
  if q < 128 then (.holding, 0, binding)
  else if starved && decide (raw < 256) then (.holding, 0, .input)
  else if prev < q ∧ prev + 512 < q then (.charging, prev + 512, .slew)
  else (.charging, q, binding)

/-- R137: V_set. -/
def voltageSetpoint (request voltageMax : Nat) : Nat :=
  max 4096 (min 19200 (min request voltageMax / 16 * 16))

/-- R132, step 5: the voltage beside a current of 0. -/
def restVoltage (c : Charge) : Nat := (c.written.map (·.voltage)).getD 4096

/-- R132, steps 3 to 5, for the pack that CHG_SEL names. -/
def computeFor (s : State) (k : PackId) : Charge :=
  let starved := s.chg.state == .holding && s.chg.limit == .input
  let c := { s.chg with latch := decideLatch s.chg (s.pack k).values.soc, switchWaiting := false }
  let s1 := { s with chg := c }
  match holdReason s1 k with
  | some r => { c with state := .holding, limit := r, desired := ⟨0, restVoltage c⟩ }
  | none =>
    let r := setpoint starved (rawCurrent s1 k) (previousCurrent c) (bindingTerm s1 k)
    { c with
      state := r.1, limit := r.2.2
      desired := ⟨r.2.1, if r.2.1 = 0 then restVoltage c
        else voltageSetpoint (s.pack k).values.reqVoltage c.profile.voltageMax⟩
      iIn := inputLimited s1 k, iTh := thermalLimit s1 k, iRaw := rawCurrent s1 k }

/-- R130: CHG_SEL at another value: latch cleared, D_pk decided again (R135). -/
def select (s : State) (sel : Option PackId) : Charge :=
  if s.chg.selected = sel then s.chg
  else { s.chg with selected := sel, latch := false, dPk := decideDpk s sel }

/-- R130, R132: no pack selected. -/
def withoutPack (s : State) (state : ChargeState) : Charge :=
  let c := select s none
  { c with state := state, limit := .none, switchWaiting := false, desired := ⟨0, restVoltage c⟩ }

/-- R130: whether the charger is known to be at 0 current. -/
def atZero (c : Charge) : Bool :=
  match c.written with
  | some p => p.current == 0
  | none => false

/-- R130: a change of CHG_SEL that waits for zero current. -/
def waitingSwitch (s : State) : Charge :=
  let c := s.chg
  match c.selected with
  | some _ => { c with state := .holding, limit := .switch, switchWaiting := true, desired := ⟨0, restVoltage c⟩ }
  | none => { c with state := .ready, limit := .none, switchWaiting := true, desired := ⟨0, restVoltage c⟩ }

/-- R132, steps 1 to 5. -/
def evaluated (s : State) : Charge :=
  if inhibited s.chg.inhibit then withoutPack s .inhibited
  else if s.adapterIn = false then withoutPack s .idle
  else
    match desiredSelection s with
    | none => withoutPack s .ready
    | some k =>
      if s.chg.selected = some k then computeFor s k
      else if atZero s.chg then computeFor { s with chg := select s (some k) } k
      else waitingSwitch s

/-! ### Write groups (R138) -/

/-- R138: the expected pair; none while it is unknown. The pair of a group on the bus is expected after a change of charger_target
too (DESIGN CHOICE beside R144, log 74). -/
def expectedPair (s : State) : Option Pair :=
  match s.portA.charger with
  | some g => some ⟨g.current, g.voltage⟩
  | none =>
    match s.portA.granted with
    | some (.charger g) => some ⟨g.current, g.voltage⟩
    | _ => s.chg.written

/-- A target of a poll list. -/
def targetOf (l : PollList) (n : Nat) : Target := l.targets.getD n ⟨0, false, none⟩

/-- R138: the group that carries the desired pair. -/
def desiredGroup (s : State) : WriteGroup :=
  let t := targetOf s.engineA.list s.chg.profile.chargerTarget
  { current := s.chg.desired.current, voltage := s.chg.desired.voltage
    currentFirst := match s.chg.written with
      | some p => decide (s.chg.desired.current < p.current)
      | none => true
    address := t.address, pec := t.pec
    currentCommand := s.chg.profile.currentCommand, voltageCommand := s.chg.profile.voltageCommand }

/-- R71, R72: the group joins the port, in place of a waiting one; an IDLE port grants it at once. -/
def takeGroup (g : WriteGroup) (x : Port) : Port :=
  if x.state = .idle then putOnBus (.charger g) { x with charger := none } else joinList (.charger g) x

/-- R71, R72, R62, R69: a group offered to port A; a HALTED or DISABLED port refuses it. -/
def offerGroup (s : State) : State :=
  if s.portA.state == .halted || s.portA.state == .disabled then
    { s with chg := { s.chg with writeOutcome := .portHalted } }
  else updatingPort .a (takeGroup (desiredGroup s)) s

/-- R138: the write decision. -/
def writeDecision (s : State) : State :=
  if s.chg.inhibit.chargerLost || s.chg.inhibit.port || expectedPair s = some s.chg.desired then s
  else offerGroup s

/-! ### Evaluations (R131, R132) -/

/-- R142: a CHARGE record at a change of state, or of the hold reason within HOLDING. -/
def chargeNotice (old : Charge) (s : State) : State :=
  if old.state ≠ s.chg.state ∨ (s.chg.state = .holding ∧ old.limit ≠ s.chg.limit) then
    offer (.charge old.state s.chg.state s.chg.limit s.chg.desired.current) s
  else s

/-- R132: one evaluation after a change of the controller's own state; both are one update of the record (R141). -/
def evaluateOnce (change : Charge → Charge) (s : State) : State :=
  chargeNotice s.chg (updating .charger (fun x =>
    let x1 := { x with chg := change x.chg }
    writeDecision { x1 with chg := evaluated x1 }) s)

/-- R131, R135: a change of D_pk made by the change of CHG_SEL runs one more evaluation (log 35). -/
def evaluateAgain : Nat → Nat → State → State
  | 0, _, s => s
  | n + 1, before, s => if s.chg.dPk = before then s else evaluateAgain n s.chg.dPk (evaluateOnce id s)

/-- An event of the controller that runs an evaluation. -/
def evaluateWith (change : Charge → Charge) (s : State) : State :=
  evaluateAgain 4 (change s.chg).dPk (evaluateOnce change s)

/-- R131: an evaluation. -/
def evaluate (s : State) : State := evaluateWith id s

/-- R135: a derate term decided again; a different value runs an evaluation. -/
def redecideDpk (s : State) : State :=
  if decideDpk s s.chg.selected = s.chg.dPk then s
  else evaluateWith (fun c => { c with dPk := decideDpk s s.chg.selected }) s

def redecideDcs (s : State) : State :=
  if decideDcs s = s.chg.dCs then s else evaluateWith (fun c => { c with dCs := decideDcs s }) s

def redecideDfan (s : State) : State :=
  if decideDfan s = s.chg.dFan then s else evaluateWith (fun c => { c with dFan := decideDfan s }) s

/-! ### Inhibit set (R124) and charger loss (R125) -/

/-- R124: a join or a leave of one cause; one that finds nothing to change changes nothing. -/
def setInhibit (new : InhibitSet) (s : State) : State :=
  if s.chg.inhibit = new then s else evaluateWith (fun c => { c with inhibit := new }) s

def setPortCause (b : Bool) (s : State) : State := setInhibit { s.chg.inhibit with port := b } s
def setThermalCause (b : Bool) (s : State) : State := setInhibit { s.chg.inhibit with thermal := b } s

/-- R125: the charger is found lost when a count has reached its limit. -/
def loseCharger (s : State) : State :=
  if s.chg.inhibit.chargerLost = false ∧ (2 ≤ s.chg.writeFailures ∨ 3 ≤ s.chg.readFailures) then
    evaluateWith (fun c => { c with inhibit := { c.inhibit with chargerLost := true }, goodReads := 0 }) s
  else s

/-- R125: what finding the charger again changes. -/
def foundAgain (c : Charge) : Charge :=
  { c with
    inhibit := { c.inhibit with chargerLost := false }
    writeFailures := 0, readFailures := 0, written := none }

/-- R125: the charger is found again at the second good read in a row. -/
def findCharger (s : State) : State :=
  if s.chg.inhibit.chargerLost = true ∧ 2 ≤ s.chg.goodReads then
    evaluateWith foundAgain s
  else s

/-- R58, R125, R139: the outcomes that count as a failed transaction. -/
def transactionFailed : BusOutcome → Bool
  | .nackAddr | .nackData | .pecFail | .clockTimeout => true
  | .never | .ok | .badCount | .skipped | .portHalted | .busStuck | .short => false

/-- R125, R126: the counts of one SYSTEM_CURRENT outcome. -/
def countRead (o : BusOutcome) (c : Charge) : Charge :=
  if o = .ok then
    { c with readFailures := 0, goodReads := if c.inhibit.chargerLost then c.goodReads + 1 else c.goodReads }
  else if transactionFailed o then
    { c with readFailures := c.readFailures + 1, goodReads := if c.inhibit.chargerLost then 0 else c.goodReads }
  else c

/-- R126: the value stored for a field. -/
def storeReading (f : ChargerField) (v : Nat) (c : Charge) : Charge :=
  match f with
  | .inputCurrent => { c with inputCurrent := v }
  | .systemCurrent => { c with systemCurrent := min v 10000 }
  | .status => { c with chargerStatus := BitVec.ofNat 16 v }

/-- R125, R126: a CHARGER binding outcome. A storing is an update whether or not the value differs (log 9). -/
def chargerDelivery (f : ChargerField) (o : BusOutcome) (v : Nat) (s : State) : State :=
  let counted := if f = .systemCurrent then countRead o s.chg else s.chg
  if o = .ok then
    findCharger (publish .charger { s with chg := storeReading f v counted })
  else loseCharger (updating .charger (fun x => { x with chg := counted }) s)

/-- R139: what a group's outcome changes. -/
def groupOutcome (g : WriteGroup) (o : BusOutcome) (c : Charge) : Charge :=
  if o = .ok then { c with writeOutcome := o, written := some ⟨g.current, g.voltage⟩, writeFailures := 0 }
  else if transactionFailed o then { c with writeOutcome := o, writeFailures := c.writeFailures + 1 }
  else { c with writeOutcome := o }

/-- R139: the end of a write group with its outcome. -/
def groupEnd (g : WriteGroup) (o : BusOutcome) (s : State) : State :=
  let s1 := updating .charger (fun x => { x with chg := groupOutcome g o x.chg }) s
  if o = .ok ∧ s1.chg.switchWaiting = true ∧ g.current = 0 then evaluate s1 else loseCharger s1

/-! ### Mode, cap and profile (R127, R140, R144) -/

/-- R127: a mode named; an evaluation runs even when it is the mode in force. -/
def setChargeMode (m : ChargeMode) (s : State) : State := evaluateWith (fun c => { c with mode := m }) s

/-- R127: the CHARGE_MODE key. -/
def swapMode : ChargeMode → ChargeMode
  | .full => .conserve
  | .conserve => .full

/-- R140: the cap replaced by an accepted SET_OVERRIDE. -/
def setCap (cap : Option Nat) (s : State) : State := evaluateWith (fun c => { c with cap := cap }) s

/-- R144, steps 1 and 2. -/
def takeProfile (p : ChargeProfile) (c : Charge) : Charge :=
  if p.chargerTarget = c.profile.chargerTarget then { c with profile := p }
  else { c with profile := p, written := none, writeFailures := 0 }

/-- R144, step 3: D_pk and D_cs decided again by the new profile. -/
def decideTerms (s : State) : Charge :=
  { s.chg with dPk := decideDpk s s.chg.selected, dCs := decideDcs s }

/-- R144, steps 1 to 3. -/
def takeProfileTerms (p : ChargeProfile) (s : State) : State :=
  let s1 := { s with chg := takeProfile p s.chg }
  { s1 with chg := decideTerms s1 }

/-- R131: how many of D_pk and D_cs an event has changed. -/
def termsChanged (old new : Charge) : Nat :=
  (if new.dPk = old.dPk then 0 else 1) + (if new.dCs = old.dCs then 0 else 1)

/-- R131: evaluations, one after another. -/
def evaluateTimes : Nat → State → State
  | 0, s => s
  | n + 1, s => evaluateTimes n (evaluate s)

/-- R144: adoption: the profile and its terms in one update, then an evaluation for each changed term and the adoption's own
(R131; log 35). -/
def adoptProfile (p : ChargeProfile) (s : State) : State :=
  let s1 := updating .charger (takeProfileTerms p) s
  evaluateTimes (termsChanged s.chg s1.chg + 1) s1

/-! ### Resets (R145, R146) -/

/-- R145: the reset values, but for profile and mode. The derate and the state are decided from `s`. Write outcome and the
intermediate currents, which R145 and R146 do not list, are cleared (log 23; at a warm restart DESIGN CHOICE, log 79). -/
def resetCharge (s : State) (profile : ChargeProfile) (mode : ChargeMode) : Charge :=
  let c : Charge :=
    { state := if s.adapterIn then .ready else .idle, inhibit := ⟨false, false, false⟩, selected := none,
      latch := false, mode := mode, limit := .none, desired := ⟨0, 0⟩, written := none, switchWaiting := false,
      writeOutcome := .never, writeFailures := 0, readFailures := 0, goodReads := 0, inputCurrent := 0,
      systemCurrent := 10000, chargerStatus := 0#16, dPk := 100, dCs := 100, dFan := 100, iIn := 0, iTh := 0,
      iRaw := 0, cap := none, profile := profile }
  { c with dCs := decideDcs { s with chg := c } }

end Sys2Proof.Machine
end

