-- ==== Sys2Proof/Machine/Fans.lean ====
section
/-! DEFINITION. Fan control (R153 to R161): curves with hysteresis, boost, override, off-state rule, slew, floors, tach
windows and the fan states. -/
namespace Sys2Proof.Machine

/-! ### Control temperature and curve (R154, R155) -/

/-- The curve definition of a fan in the active table. -/
def curveOf (s : State) : FanId → FanCurve
  | .fan0 => s.th.curves.fan0
  | .fan1 => s.th.curves.fan1

/-- R154: the curve of the set named by the lid state. -/
def curveInUse (s : State) (f : FanId) : List CurvePoint :=
  if s.lidOpen then (curveOf s f).opened else (curveOf s f).closed

/-- The highest of some temperatures. -/
def hottest : List Int → Int
  | [] => 0
  | [t] => t
  | t :: u :: rest => max t (hottest (u :: rest))

/-- R154: T, in whole degrees, rounded down. -/
def controlTemperature (s : State) (f : FanId) : Int :=
  let bound := (curveOf s f).bound
  let on := bound.filter fun n => (slotConfig s n).enable
  (if on = [] then hottest (bound.map fun n => (slotConfig s n).fallback) else hottest (on.map (effective s))) / 10

/-- R154: f at a temperature above the point `p`. -/
def curveFrom (p : CurvePoint) : List CurvePoint → Int → Nat
  | [], _ => p.duty
  | q :: rest, x =>
    if x < q.temp then
      p.duty + ((x - p.temp) * ((q.duty : Int) - p.duty) / (q.temp - p.temp)).toNat
    else curveFrom q rest x

/-- R154: the curve value f(x). -/
def curveValue : List CurvePoint → Int → Nat
  | [], _ => 0
  | p :: rest, x => if x ≤ p.temp then p.duty else curveFrom p rest x

/-- R154: the last point of a curve. -/
def lastPoint (c : List CurvePoint) : CurvePoint := c.getLastD ⟨0, 0⟩

/-- R155: hysteresis. -/
def hysteresisDuty (held up down : Nat) : Nat := if held < up then up else if down < held then down else held

/-! ### Target, slew, floors (R156 to R158) -/

/-- R156, R157: the target before the off-state rule. -/
def targetDuty (boost : Bool) (override curveDuty : Nat) (atTop : Bool) (value : Nat) : Nat :=
  if override ≠ 0 then (if atTop then max override value else override)
  else if boost then min 100 (curveDuty + 30)
  else curveDuty

/-- R158, step 1: the off-state running flag. -/
def offRunning (held : Bool) (t threshold : Int) (h : Nat) : Bool :=
  if threshold ≤ t then true else if t < threshold - h then false else held

/-- R158, step 2. -/
def slewDuty (p target : Nat) : Nat :=
  if target ≤ p + 8 ∧ p ≤ target + 8 then target else if p < target then p + 8 else p - 8

/-- R158, R161: whether a fan has the floor of the other fan's fault. -/
def otherFaulted (s : State) (f : FanId) : Bool := s.fanPresent (otherFan f) && (s.fan (otherFan f)).state == .faulted

/-- R158, step 3: the highest floor in force for a fan in state `st`; `faulted` says that the other fan's fault gives one. -/
def floorDuty (s : State) (f : FanId) (st : FanState) (faulted : Bool) : Nat :=
  max (if faulted then (lastPoint (curveInUse s f)).duty else 0)
    (max (if st = .kicking then 100 else 0) (if s.tripActive then 100 else 0))

/-- R158, steps 3 and 4. -/
def commandedDuty (slewed floor target startMin : Nat) : Nat :=
  if slewed < floor then (if 0 < floor ∧ floor < startMin then startMin else floor)
  else if slewed < startMin then (if target = 0 then 0 else if 0 < slewed then startMin else slewed)
  else slewed

/-- R154 to R158: one computation of a fan; `fresh` is the computation made at a reset, without hysteresis and slew
(R167); `faulted` as for `floorDuty`. -/
def computeFan (fresh : Bool) (s : State) (f : FanId) (faulted : Bool) : Fan :=
  let x := s.fan f
  let t := controlTemperature s f
  let c := curveInUse s f
  let h := s.th.table.hysteresis
  let cd := if fresh then curveValue c t else hysteresisDuty x.curveDuty (curveValue c t) (curveValue c (t + h))
  let run := offRunning x.offRun t s.th.table.offThreshold h
  let wanted := targetDuty s.th.boostMs.isSome x.override cd (decide ((lastPoint c).temp ≤ t)) (curveValue c t)
  let target := if (s.power.state == .sleep || s.power.state == .off) && !run then 0 else wanted
  let slewed := if fresh then target else slewDuty x.duty target
  { x with
    controlTemp := t, curveClosed := !s.lidOpen, curveDuty := cd, offRun := run, target := target
    duty := commandedDuty slewed (floorDuty s f x.state faulted) target s.th.table.startMin }

/-- R158: a floor that comes into force outside the computation acts at once. -/
def raiseToFloor (f : FanId) (s : State) : State :=
  let x := s.fan f
  let floor := floorDuty s f x.state (otherFaulted s f)
  if s.fanPresent f ∧ x.duty < floor then
    s.setFan f { x with duty := commandedDuty x.duty floor x.target s.th.table.startMin }
  else s

/-- R160: the state brought into line with the duty just computed. -/
def alignState (x : Fan) : Fan :=
  match x.state with
  | .off => if 0 < x.duty then { x with state := .running, low := 0 } else x
  | .running | .stalled => if x.duty = 0 then { x with state := .off, low := 0, kick := 0 } else x
  | .kicking | .faulted => x

/-- R153, step 4, for one fan; `before` is the state at the start of the update. The floor of a fault that this update's step 2
has ended still holds: the other fan descends from the next update (R161). -/
def driveFan (before : State) (f : FanId) (s : State) : State :=
  if s.fanPresent f then s.setFan f (alignState (computeFan false s f (otherFaulted before f || otherFaulted s f))) else s

/-! ### Boost and override (R156, R157) -/

/-- R156: the seconds left, as published (log 13). -/
def boostSeconds (t : Option Nat) : Nat :=
  match t with
  | none => 0
  | some ms => (Config.boostMs - ms) / 1000

/-- R156: boost on or off. -/
def setBoost (t : Option Nat) (s : State) : State :=
  updatingFans (fun x => { x with th := { x.th with boostMs := t, boostLeft := boostSeconds t } }) s

/-- R156: a FAN_BOOST action. -/
def toggleBoost (s : State) : State := setBoost (if s.th.boostMs.isSome then none else some 0) s

/-- R156: boost ends. -/
def endBoost (s : State) : State := if s.th.boostMs.isSome then setBoost none s else s

/-- R157: the overrides of the present fans. -/
def setOverrides (d0 d1 : Nat) (s : State) : State :=
  updatingFans (fun x =>
    let x1 := x.setFan .fan0 { x.th.fan0 with override := d0 }
    if x.fanPresent .fan1 then x1.setFan .fan1 { x1.th.fan1 with override := d1 } else x1) s

/-- R157: both overrides become none. -/
def clearOverrides (s : State) : State :=
  updatingFans (fun x => { x with th := { x.th with
    fan0 := { x.th.fan0 with override := 0 }
    fan1 := { x.th.fan1 with override := 0 } } }) s

/-! ### Tach windows and fan states (R159 to R161) -/

/-- The tach parameters of a fan in the active THERMAL table. -/
def tachOf (s : State) : FanId → TachConfig
  | .fan0 => s.th.table.tach0
  | .fan1 => s.th.table.tach1

/-- R159: one low period of a tach input. -/
def tachCounted (x : Fan) (width : Nat) : Fan :=
  if width < (if x.wide then Config.wideMicros else Config.narrowMicros) then x else { x with count := x.count + 1 }

/-- R159: the window's count, RPM and duty as published. -/
def closeWindow (x : Fan) : Fan :=
  { x with tachCount := min x.count 1023, rpm := min x.count 1023 * 60 / x.ppr, windowDuty := x.openDuty }

/-- R153, step 5: the next window begins. -/
def openWindow (f : FanId) (s : State) : State :=
  if s.fanPresent f then
    s.setFan f { s.fan f with
      count := 0, openDuty := (s.fan f).duty, ppr := (tachOf s f).ppr, wide := (tachOf s f).wide }
  else s

/-- R160, R161: the fan state decided from a closed window. -/
def decideFan (stall : Nat) (x : Fan) : Fan :=
  match x.state with
  | .off => x
  | .running =>
    if 0 < x.windowDuty ∧ x.rpm < stall then
      (if x.low + 1 = 3 then { x with state := .stalled, low := 3 } else { x with low := x.low + 1 })
    else { x with low := 0 }
  | .stalled => { x with state := .kicking, kickWindow := 0 }
  | .kicking =>
    if x.kickWindow + 1 < 2 then { x with kickWindow := x.kickWindow + 1 }
    else if stall ≤ x.rpm then { x with state := .running, kickWindow := 2, low := 0, kick := 0 }
    else if x.kick + 1 = 3 then { x with state := .faulted, kickWindow := 2, kick := 3, recovery := 0 }
    else { x with kick := x.kick + 1, kickWindow := 0 }
  | .faulted =>
    if 0 < x.windowDuty ∧ stall ≤ x.rpm then
      (if x.recovery + 1 = 3 then
        { x with state := if x.duty = 0 then .off else .running, kick := 0, low := 0, recovery := 0 }
      else { x with recovery := x.recovery + 1 })
    else { x with recovery := 0 }

/-- R160, R161: the FAN record of a change of fan state. -/
def fanEvent (old new : FanState) : Option FanEvent :=
  match old, new with
  | .running, .stalled => some .stalled
  | .kicking, .running => some .recovered
  | .kicking, .faulted => some .faulted
  | .faulted, .running => some .recovered
  | .faulted, .off => some .recovered
  | _, _ => none

/-- The notice of a fan event. -/
def fanNotice (f : FanId) (e : Option FanEvent) (s : State) : State :=
  match e with
  | some what => offer (.fan f what) s
  | none => s

/-- R153, step 2, for one fan: window, state, and what an entry to or exit from FAULTED hands on (R161). -/
def closeFan (f : FanId) (s : State) : State :=
  if s.fanPresent f then
    let x := decideFan s.th.table.stallRpm (closeWindow (s.fan f))
    let s1 := fanNotice f (fanEvent (s.fan f).state x.state) (s.setFan f x)
    redecideDfan (if x.state = .faulted ∧ (s.fan f).state ≠ .faulted then raiseToFloor (otherFan f) s1 else s1)
  else s

/-! ### Resets (R167) -/

/-- A fan before its first computation. -/
def freshFan (cfg : TachConfig) : Fan :=
  { state := .off, duty := 0, curveDuty := 0, target := 0, controlTemp := 0, curveClosed := false, offRun := false,
    count := 0, openDuty := 0, ppr := cfg.ppr, wide := cfg.wide, tachCount := 0, rpm := 0, windowDuty := 0, low := 0,
    kick := 0, kickWindow := 0, recovery := 0, override := 0 }

/-- R167: the duty computed at once, without slew, and the state that goes with it. -/
def startFan (f : FanId) (s : State) : State :=
  if s.fanPresent f then
    let x := computeFan true s f false
    s.setFan f { x with state := if 0 < x.duty then .running else .off, openDuty := x.duty }
  else s

end Sys2Proof.Machine
end

