-- ==== Sys2Proof/Machine/Keyboard.lean ====
section
/-! DEFINITION. The keyboard scanner (R30 to R56): scan modes, debounce, presses, ghosts, releases, promotion, the sweep
and owed releases. -/
namespace Sys2Proof.Machine

/-! ### Positions (R34) -/

/-- R32: every position up, every counter at 0. -/
def positionsUp : List KeyPosition := List.replicate 144 ⟨false, 0⟩

/-- R34: one position in one pass. -/
def debounce (passes : Nat) (raw : Bool) (p : KeyPosition) : KeyPosition :=
  if raw = p.down then { p with counter := 0 }
  else if passes ≤ p.counter + 1 then ⟨raw, 0⟩
  else { p with counter := p.counter + 1 }

/-- R30, R34: the positions after a pass; those beyond the matrix are not scanned. -/
def passFrom (columns : List Byte) (passes limit : Nat) : Nat → List KeyPosition → List KeyPosition
  | _, [] => []
  | n, p :: rest =>
    (if n < limit then debounce passes (rawDown columns n) p else p) :: passFrom columns passes limit (n + 1) rest

/-- R34, R35: the debounced changes of a pass in ascending position order; `true` is a press. -/
def changesFrom : Nat → List KeyPosition → List KeyPosition → List (Nat × Bool)
  | n, p :: ps, q :: qs =>
    if p.down = q.down then changesFrom (n + 1) ps qs else (n, q.down) :: changesFrom (n + 1) ps qs
  | _, [], _ => []
  | _, _ :: _, [] => []

/-! ### Owed releases (R47) -/

/-- R47: the list is ordered by press rank. -/
def insertOwed (r : OwedRelease) : List OwedRelease → List OwedRelease
  | [] => [r]
  | x :: rest => if r.rank < x.rank then r :: x :: rest else x :: insertOwed r rest

/-- R42, R46: a release that joins the list. -/
def owe (e : DownKey) (sweep : Bool) (s : State) : State :=
  { s with kbd := { s.kbd with owed := insertOwed ⟨e.position, e.code, e.rank, sweep⟩ s.kbd.owed } }

/-- R42, R46, R47: the release of a reported entry. -/
def releaseReported (e : DownKey) (sweep : Bool) (s : State) : State :=
  if s.kbd.owed = [] then
    let r := offerKeyUp sweep e.position e.code s
    if r.2 then r.1 else owe e sweep r.1
  else owe e sweep s

/-! ### The table (R36, R45) -/

/-- R45: what happens each time the table becomes empty. -/
def tableEmptied (k : Keyboard) : Keyboard :=
  if k.table = [] then { k with arming := true, overflow := false, rollover := false } else k

/-- R36: the local action of a code. -/
def actionOf (c : Word16) : LocalAction :=
  if c = codeFn then .fn else if c = codeFanBoost then .fanBoost
  else if c = codeChargeMode then .chargeMode else .none

/-- R36: a new entry, not yet reported. -/
def newEntry (position : Nat) (code : Word16) (fnLayer confirmed : Bool) (rank : Nat) : DownKey where
  position := position
  code := code
  fnLayer := fnLayer
  confirmed := confirmed
  reported := false
  action := actionOf code
  rank := rank

/-- R36: an entry joins at the end with the next press rank. -/
def addEntry (position : Nat) (code : Word16) (fnLayer confirmed : Bool) (k : Keyboard) : Keyboard :=
  { k with
    pressCount := k.pressCount + 1
    table := k.table ++ [newEntry position code fnLayer confirmed (k.pressCount + 1)] }

/-- One entry changed, in its place. -/
def changeEntry (position : Nat) (f : DownKey → DownKey) (k : Keyboard) : Keyboard :=
  { k with table := k.table.map fun e => if e.position = position then f e else e }

/-- R39: the positions of the CONFIRMED entries. -/
def confirmedPositions (k : Keyboard) : List Nat := (k.table.filter (·.confirmed)).map (·.position)

/-- R39: a rectangle of three CONFIRMED entries with the position at its fourth corner. -/
def rectangle (conf : List Nat) (n : Nat) : Bool :=
  conf.any fun a => a % 8 == n % 8 && a / 8 != n / 8 &&
    conf.any fun b => b / 8 == n / 8 && b % 8 != n % 8 && conf.contains (a / 8 * 8 + b % 8)

/-- R39, R44: whether a position is suspected (log 14). -/
def suspected (k : Keyboard) (n : Nat) : Bool :=
  !(k.keymap.diode.getD n false) && rectangle (confirmedPositions k) n

/-! ### Presses (R37 to R41) -/

/-- R40: what a local action does. -/
def performAction (a : LocalAction) (s : State) : State :=
  match a with
  | .none | .fn => s
  | .fanBoost =>
    let s1 := toggleBoost s
    offer (.fanBoost s1.th.boostMs.isSome) s1
  | .chargeMode =>
    let s1 := setChargeMode (swapMode s.chg.mode) s
    offer (.chargeMode s1.chg.mode) s1

/-- R41, R44: KEY DOWN offered for an entry of the table. -/
def reportDown (late : Bool) (position : Nat) (code : Word16) (s : State) : State :=
  let r := offerKeyDown late position code s
  if r.2 then { r.1 with kbd := changeEntry position (fun e => { e with reported := true }) r.1.kbd }
  else { r.1 with kbd := { r.1.kbd with overflow := true } }

/-- R40, R41, R44: a CONFIRMED entry acts or is reported. -/
def actOrReport (late : Bool) (position : Nat) (code : Word16) (s : State) : State :=
  if actionOf code = .none then reportDown late position code s else performAction (actionOf code) s

/-- R37: a press ignored for a full table. -/
def ignoreForRoom (s : State) : State :=
  if s.kbd.arming then
    let s1 := offer .rollover s
    { s1 with kbd := { s1.kbd with arming := false, rollover := true } }
  else s

/-- R38: the code a press looks up. -/
def lookupCode (k : Keyboard) (position : Nat) : Word16 :=
  (if fnInForce k then k.keymap.fn else k.keymap.base).getD position 0#16

/-- R37 to R41: a debounced press. -/
def press (position : Nat) (s : State) : State :=
  let code := lookupCode s.kbd position
  if Config.tableSize ≤ s.kbd.table.length then ignoreForRoom s
  else if code = 0#16 then s
  else if suspected s.kbd position then
    { s with kbd := addEntry position code (fnInForce s.kbd) false s.kbd }
  else
    actOrReport false position code { s with kbd := addEntry position code (fnInForce s.kbd) true s.kbd }

/-! ### Releases and promotion (R42 to R44) -/

/-- R42: an entry leaves the table. -/
def removeEntry (position : Nat) (k : Keyboard) : Keyboard :=
  tableEmptied { k with table := k.table.filter fun e => e.position != position }

/-- R36, R42: a debounced release; the Bool says whether a CONFIRMED entry left. -/
def release (position : Nat) (s : State) : State × Bool :=
  match s.kbd.table.find? (fun e => e.position == position) with
  | none => (s, false)
  | some e =>
    let s1 := if e.reported then releaseReported e false s else s
    ({ s1 with kbd := resetPressCount (removeEntry position s1.kbd) }, e.confirmed)

/-- R44: the check of the SUSPECT entries at the given positions, in table order. -/
def promote : List Nat → State → State
  | [], s => s
  | n :: rest, s =>
    if suspected s.kbd n then promote rest s
    else
      match s.kbd.table.find? (fun e => e.position == n) with
      | none => promote rest s
      | some e =>
        promote rest (actOrReport true n e.code
          { s with kbd := changeEntry n (fun x => { x with confirmed := true }) s.kbd })

/-- R44: the promotion check. -/
def promotionCheck (s : State) : State :=
  promote ((s.kbd.table.filter fun e => !e.confirmed).map (·.position)) s

/-- R35: the changes of a pass, one after another; the Bool says whether a CONFIRMED entry was removed. -/
def handleChanges : List (Nat × Bool) → State → Bool → State × Bool
  | [], s, removed => (s, removed)
  | (n, true) :: rest, s, removed => handleChanges rest (press n s) removed
  | (n, false) :: rest, s, removed =>
    let r := release n s
    handleChanges rest r.1 (removed || r.2)

/-- R34, R35: one completed pass. -/
def scanPass (columns : List Byte) (s : State) : State :=
  updating .keyboard (fun x =>
    let new := passFrom columns x.kbd.keymap.debouncePasses (8 * x.power.straps.columns) 0 x.kbd.positions
    let r := handleChanges (changesFrom 0 x.kbd.positions new)
      { x with kbd := { x.kbd with positions := new, passMs := 0 } } false
    if r.2 then promotionCheck r.1 else r.1) s

/-! ### Scan modes (R31 to R33, R46) -/

/-- R31. -/
def decideMode (s : State) : ScanMode :=
  if s.lidOpen then
    match s.power.state with
    | .run => .full
    | .sleep => if s.power.table.keySleep then .wakeScan else .idle
    | .off => if s.power.table.keyOff then .wakeScan else .idle
    | .waking | .suspending | .shuttingDown => .idle
  else .idle

/-- R46: the sweep's action on the entries in table order. -/
def sweepEntries : List DownKey → State → State
  | [], s => s
  | e :: rest, s => sweepEntries rest (if e.reported then releaseReported e true s else s)

/-- R46: the release sweep. -/
def releaseSweep (s : State) : State :=
  let s1 := sweepEntries s.kbd.table s
  { s1 with kbd := resetPressCount (tableEmptied { s1.kbd with table := [] }) }

/-- R32, R33: the present mode is left. -/
def leaveMode (s : State) : State :=
  match s.kbd.mode with
  | .idle => s
  | .full =>
    let s1 := releaseSweep s
    { s1 with kbd := { s1.kbd with positions := positionsUp } }
  | .wakeScan => { s with kbd := { s.kbd with rowActive := false, rowCount := none } }

/-- R33: counting begins while the raw level differs. -/
def startCount (differs : Bool) : Option Nat := if differs then some 0 else none

/-- R32, R33: a mode is entered. -/
def enterMode (m : ScanMode) (s : State) : State :=
  match m with
  | .idle => { s with kbd := { s.kbd with mode := .idle } }
  | .full => { s with kbd := { s.kbd with mode := .full, positions := positionsUp, passMs := 0 } }
  | .wakeScan =>
    { s with kbd := { s.kbd with mode := .wakeScan, rowActive := false, rowCount := startCount s.pins.rowActive } }

/-- R31: the mode is decided again. -/
def scanModeDecision (s : State) : State :=
  if decideMode s = s.kbd.mode then s
  else updating .keyboard (fun x => enterMode (decideMode x) (leaveMode x)) s

/-! ### Row filter (R33) -/

/-- R1, R33: a stability count after the raw level has moved: it goes on while the raw level differs. -/
def countAfter (raw filtered : Bool) (count : Option Nat) : Option Nat :=
  if raw = filtered then none else some (count.getD 0)

/-- R33: the raw row-active level moves. -/
def rawRow (active : Bool) (s : State) : State :=
  let s1 := { s with pins := { s.pins with rowActive := active } }
  if s.kbd.mode = .wakeScan then
    { s1 with kbd := { s1.kbd with rowCount := countAfter active s1.kbd.rowActive s1.kbd.rowCount } }
  else s1

/-- R33: the filter count completes. -/
def rowFilterDone (s : State) : State :=
  if s.kbd.mode = .wakeScan ∧ s.kbd.rowCount.isSome then
    updating .keyboard (fun x => { x with kbd := { x.kbd with rowActive := !x.kbd.rowActive, rowCount := none } }) s
  else s

/-! ### Keymap and resets (R54 to R56) -/

/-- R54: adoption. -/
def adoptKeymap (m : Keymap) (s : State) : State :=
  updating .keyboard (fun x => { x with kbd := { x.kbd with keymap := m } }) s

/-- R55, R56: the scanner's reset values, but for the keymap; the mode is decided afterwards. -/
def resetKeyboard (m : Keymap) : Keyboard :=
  { mode := .idle, positions := positionsUp, passMs := 0, table := [], pressCount := 0, arming := true,
    overflow := false, rollover := false, owed := [], rowActive := false, rowCount := none, keymap := m }

end Sys2Proof.Machine
end

