-- ==== Sys2Proof/Machine/Power.lean ====
section
/-! DEFINITION. The platform power controller (R1 to R25): power state changes and what they start in other units, rail
sequences, wakes, power button, heartbeat and critical battery. -/
namespace Sys2Proof.Machine

/-! ### Orders the spec leaves open (log 8) -/

/-- Two reactions to one event, in the order the next choice gives; 0 keeps the written order. -/
def eitherOrder (f g : State → State) (s : State) : State :=
  if s.turn 2 = 0 then g (f (useTurn s)) else f (g (useTurn s))

/-- Three reactions to one event, in the order the next choice gives; 0 keeps the written order. -/
def anyOrder (f g h : State → State) (s : State) : State :=
  let x := useTurn s
  match s.turn 6 with
  | 0 => h (g (f x))
  | 1 => g (h (f x))
  | 2 => h (f (g x))
  | 3 => f (h (g x))
  | 4 => g (f (h x))
  | _ => f (g (h x))

/-! ### Changes of power state (R4, R6, R22) -/

/-- R22: what the withdrawal of override validity does to the charge controller and the thermal unit. -/
def withdrawOverrides (s : State) : State := clearOverrides (setCap none s)

/-- R6, R21: what this unit itself ends on leaving RUN. -/
def leaveRun (p : Power) : Power :=
  { p with heartbeat := .disarmed, heartbeatMs := 0, delay := none, graceMs := none, pulseMs := none }

/-- R4, R6: the power fields after a change of state. -/
def powerAfter (new : PowerState) (cause : Cause) (f : Power → Power) (p : Power) : Power :=
  let q := if p.state = .run ∧ new ≠ .run then leaveRun p else p
  { f q with state := new, cause := cause }

/-- R4: a change of power state, its effects on the other units and its POWER record. -/
def changePower (new : PowerState) (cause : Cause) (f : Power → Power) (s : State) : State :=
  let s1 := updatingPower (fun x => { x with power := powerAfter new cause f x.power }) s
  let left := s.power.state == .run && new != .run
  anyOrder (fun x => if left then endBoost (scanModeDecision x) else scanModeDecision x)
    (fun x => if s.overrideValid && left then withdrawOverrides x else x)
    (offer (.power new cause)) s1

/-! ### Shutting down (R8, R9) -/

/-- R4: the cause of a completed sequence. -/
def completionCause (p : Power) : Cause := if p.timedOut then .railTimeout else p.seqCause

/-- R12: the ON_CHANGE snapshot. -/
def takeSnapshot (p : Power) : Power :=
  { p with snapshot := ⟨p.levels.lid, p.levels.acp, p.levels.wakeAux⟩ }

/-- R8, step 4: OFF is reached: the queue is emptied, the OFF record placed, the snapshot taken. -/
def reachOff (s : State) : State :=
  let cause := completionCause s.power
  let s1 := updatingPower (fun x => { x with power :=
    { x.power with state := .off, cause := cause, step := .none, stepMs := 0 } }) s
  let s2 := offer (.power .off cause) (emptyQueue (scanModeDecision s1))
  { s2 with power := takeSnapshot s2.power }

/-- R8, step 3. -/
def dropStandby (s : State) : State :=
  let s1 := { s with power := { s.power with enStby := false, step := .stbyLow, stepMs := 0 } }
  if s1.pins.pgStby then s1 else reachOff s1

/-- R8: the fields of an entry to SHUTTING_DOWN, with steps 1 and 2 up to the wait. -/
def shutdownFields (cause : Cause) (p : Power) : Power :=
  { p with
    shutdownCause := cause, seqCause := cause, timedOut := false, hrstAsserted := true, enMain := false
    step := .mainLow, stepMs := 0, pendingWake := [], graceMs := none }

/-- R9: the states from which SHUTTING_DOWN is entered. -/
def canShutDown : PowerState → Bool
  | .run | .waking | .suspending | .sleep => true
  | .off | .shuttingDown => false

/-- R8, R9: SHUTTING_DOWN is entered with its cause; in OFF and SHUTTING_DOWN nothing changes. Every entry waits for PG_MAIN low,
from SLEEP and early WAKING too where PG_MAIN still stands high (DESIGN CHOICE, log 56). -/
def enterShutdown (cause : Cause) (s : State) : State :=
  if canShutDown s.power.state then
    let s1 := changePower .shuttingDown cause (shutdownFields cause) s
    if s1.pins.pgMain then s1 else dropStandby s1
  else s

/-! ### Waking (R5) -/

/-- R5, step 3: the reset hold begins. -/
def beginHold (s : State) : State :=
  { s with power := { s.power with seenMain := true, step := .resetHold, stepMs := 0 } }

/-- R5, step 2. -/
def raiseMain (s : State) : State :=
  let s1 := { s with power := { s.power with enMain := true, step := .mainHigh, stepMs := 0 } }
  if s1.pins.pgMain then beginHold s1 else s1

/-- R5, step 1 done. -/
def standbyUp (s : State) : State := raiseMain { s with power := { s.power with seenStby := true } }

/-- R5: WAKING from OFF or SLEEP, with the wake record replaced (R13). -/
def enterWaking (factors : List Factor) (first : Option Factor) (s : State) : State :=
  let fromOff := s.power.state == .off
  let s1 := changePower .waking .wake (fun p => { p with
    wakeFactors := factors, wakeFirst := first, pendingWake := [], seqCause := .wake, timedOut := false
    seenStby := !fromOff && s.pins.pgStby, seenMain := false
    enStby := true, step := if fromOff then .stbyHigh else .mainHigh, stepMs := 0 }) s
  if fromOff then (if s1.pins.pgStby then standbyUp s1 else s1) else raiseMain s1

/-! ### Wake conditions (R11 to R13) -/

/-- R11: whether an input's level differs from its expected level. -/
def differs (c : WakeConfig) (level recorded : Bool) : Bool :=
  level != (if c.onLevel then c.expected else recorded)

/-- R12: the wake conditions for a target state; `c` selects the enable. -/
def conditions (s : State) (enabled : WakeConfig → Bool) (key : Bool) : List Factor :=
  let t := s.power.table
  let l := s.power.levels
  (if enabled t.lid && differs t.lid l.lid s.power.snapshot.lid then [Factor.lid] else []) ++
  (if enabled t.acp && differs t.acp l.acp s.power.snapshot.acp then [Factor.acp] else []) ++
  (if enabled t.wakeAux && differs t.wakeAux l.wakeAux s.power.snapshot.wakeAux then [Factor.wakeAux] else []) ++
  (if key && s.kbd.rowActive then [Factor.key] else [])

def sleepConditions (s : State) : List Factor := conditions s (·.sleep) s.power.table.keySleep
def offConditions (s : State) : List Factor := conditions s (·.off) s.power.table.keyOff

/-- A list with the element of the given place moved to its head. -/
def toFront (l : List Factor) (n : Nat) : List Factor :=
  match l[n]? with
  | some x => x :: l.eraseIdx n
  | none => l

/-- R12: new factors join the pending set; where several are the first together, the choice says which is (DESIGN CHOICE,
log 32). -/
def latch (fs : List Factor) (s : State) : State :=
  let new := fs.filter fun f => !s.power.pendingWake.contains f
  if s.power.pendingWake = [] ∧ 2 ≤ new.length then
    let s1 := useTurn s
    { s1 with power := { s1.power with pendingWake := toFront new (s.turn new.length) } }
  else { s with power := { s.power with pendingWake := s.power.pendingWake ++ new } }

/-- R13: a wake is taken: the pending set, the factors that arrive and the conditions true at that moment. -/
def takeWake (arriving : List Factor) (s : State) : State :=
  let true_ := if s.power.state = .sleep then sleepConditions s else offConditions s
  let s1 := latch (arriving ++ true_) s
  enterWaking s1.power.pendingWake s1.power.pendingWake.head? s1

/-- R10: a power-on cause in OFF; a trip blocks it. -/
def powerOn (factor : Factor) (s : State) : State := if s.tripActive then s else takeWake [factor] s

/-- R12: whether a suspend delay of a SLEEP request runs. -/
def sleepDelay (p : Power) : Bool :=
  match p.delay with
  | some d => d.target == .sleep
  | none => false

/-- R12: whether wake factors are latched now. -/
def latching (p : Power) : Bool := (p.state == .run && sleepDelay p) || p.state == .suspending

/-- R7, step 3: SLEEP is reached; a pending wake is taken at once. -/
def reachSleep (s : State) : State :=
  let s1 := changePower .sleep (completionCause s.power) (fun p => { p with step := .none, stepMs := 0 }) s
  if s1.power.pendingWake = [] then s1 else takeWake [] s1

/-- R7: SUSPENDING is entered when the delay of a SLEEP request expires. -/
def enterSuspending (s : State) : State :=
  let s1 := changePower .suspending .request (fun p => { p with
    seqCause := .request, timedOut := false, hrstAsserted := true, enMain := false, step := .mainLow, stepMs := 0 }) s
  if s1.pins.pgMain then s1 else reachSleep s1

/-- R14: the suspend delay expires. -/
def delayExpires (s : State) : State :=
  match s.power.delay with
  | none => s
  | some d =>
    match d.target with
    | .sleep => enterSuspending s
    | .off => enterShutdown .request s

/-! ### Critical battery (R23, R24) -/

/-- R23: the notice in RUN and the grace. -/
def criticalNotice (s : State) : State :=
  offer (.power .run .critical) (updatingPower (fun x => { x with power := { x.power with graceMs := some 0 } }) s)

/-- R12: critical battery is latched, with the wake conditions true at its rise (ACP after an adapter removal); which is the first
factor, R12 does not say and `latch` chooses (DESIGN CHOICE, log 32). -/
def latchCritical (s : State) : State := latch (.batteryCritical :: sleepConditions s) s

/-- R23, R24: a rise of critical battery. -/
def criticalRise (s : State) : State :=
  let raise : State → State := fun x => { x with dsg := { x.dsg with critical := true } }
  let s1 := updatingPower raise s
  match s.power.state with
  | .run =>
    if sleepDelay s.power then latchCritical s1
    else
      offer (.power .run .critical)
        (updatingPower (fun x => { raise x with power := { x.power with graceMs := some 0 } }) s)
  | .suspending => latchCritical s1
  | .sleep => takeWake [.batteryCritical] s1
  | .waking | .off | .shuttingDown => s1

/-- R23: a withdrawal of critical battery ends the grace. -/
def criticalWithdrawal (s : State) : State :=
  updatingPower (fun x =>
    { x with dsg := { x.dsg with critical := false }, power := { x.power with graceMs := none } }) s

/-- R118: critical battery as decided; only a change acts. -/
def setCritical (b : Bool) (s : State) : State :=
  if s.dsg.critical = b then s else if b then criticalRise s else criticalWithdrawal s

/-! ### Reaching RUN (R5) -/

/-- R5, step 4, and R23: the CRITICAL record of R23 comes after the two records of R5 (DESIGN CHOICE, log 68). -/
def reachRun (s : State) : State :=
  let s1 := changePower .run (completionCause s.power)
    (fun p => { p with hrstAsserted := false, step := .none, stepMs := 0 }) s
  let s2 := offer (.wake s1.power.wakeFactors s1.power.wakeFirst) s1
  if s2.dsg.critical then criticalNotice s2 else s2

/-! ### Power-good levels and waits (R5 to R8) -/

/-- R5: a rise while a wait for it runs. -/
def powerGoodUp (rail : Rail) (s : State) : State :=
  match s.power.step, rail with
  | .stbyHigh, .stby => standbyUp s
  | .mainHigh, .main => beginHold s
  | _, _ => s

/-- R5 to R8: a fall. -/
def powerGoodDown (rail : Rail) (s : State) : State :=
  match s.power.state, rail with
  | .waking, .stby => if s.power.seenStby then enterShutdown .railFault s else s
  | .waking, .main => if s.power.seenMain then enterShutdown .railFault s else s
  | .run, _ => enterShutdown .railFault s
  | .suspending, .stby => enterShutdown .railFault s
  | .suspending, .main => reachSleep s
  | .sleep, .stby => enterShutdown .railFault s
  | .sleep, .main => s
  | .shuttingDown, .main => if s.power.step = .mainLow then dropStandby s else s
  | .shuttingDown, .stby => if s.power.step = .stbyLow then reachOff s else s
  | .off, _ => s

/-- A power-good input at a new level. -/
def setPowerGood (rail : Rail) (b : Bool) (s : State) : State :=
  match rail with
  | .stby => { s with pins := { s.pins with pgStby := b } }
  | .main => { s with pins := { s.pins with pgMain := b } }

def powerGood (s : State) : Rail → Bool
  | .stby => s.pins.pgStby
  | .main => s.pins.pgMain

/-- R5, R7, R8: the limit of the wait in progress runs out. -/
def waitRunsOut (s : State) : State :=
  let late : State := { s with power := { s.power with timedOut := true } }
  match s.power.step with
  | .stbyHigh | .mainHigh => enterShutdown .railTimeout s
  | .mainLow => if s.power.state = .suspending then reachSleep late else dropStandby late
  | .stbyLow => reachOff late
  | .none | .resetHold => s

/-! ### Power button (R16 to R18) -/

/-- R17: the long press acts. -/
def longPress (s : State) : State :=
  let act := canShutDown s.power.state
  let s1 := enterShutdown .longPress s
  { s1 with power := { s1.power with ignore := true, reported := if act then false else s1.power.reported } }

/-- R16: a press, its level already published. -/
def buttonPress (s : State) : State :=
  if s.power.ignore then s
  else
    let s1 := { s with power := { s.power with heldMs := some 0 } }
    match s.power.state with
    | .run =>
      if sleepDelay s.power then latch [.pwrbtn] s1
      else offer (.button true) { s1 with power := { s1.power with reported := true } }
    | .suspending => latch [.pwrbtn] s1
    | .sleep => takeWake [.pwrbtn] s1
    | .off => powerOn .pwrbtn s1
    | .waking | .shuttingDown => s1

/-- R16: a release, its level already published. -/
def buttonRelease (s : State) : State :=
  let s1 := { s with power := { s.power with heldMs := none, comboMs := none, ignore := false, reported := false } }
  if s.power.reported ∧ s.power.state = .run then offer (.button false) s1 else s1

/-- R18: the combination timer started or stopped by its conditions; a held-back long press acts at the stop. -/
def comboSettle (s : State) : State :=
  if comboHolds s then
    (if s.power.comboMs.isSome then s else { s with power := { s.power with comboMs := some 0 } })
  else if s.power.comboMs.isSome then
    let s1 := { s with power := { s.power with comboMs := none } }
    if s1.buttonPressed && !s1.power.ignore && longPressMet s1 then longPress s1 else s1
  else s

/-- R18: the combination timer reaches 10 s. -/
def comboExpires (s : State) : State :=
  enterShutdown .combination { s with power := { s.power with comboMs := none, ignore := true } }

/-! ### Wakes by level (R12, R13) -/

/-- R12, R13: conditions that have become true are latched, or taken as a wake. -/
def wakeSettle (s : State) : State :=
  if latching s.power then latch (sleepConditions s) s
  else
    match s.power.state with
    | .sleep => if sleepConditions s = [] then s else takeWake [] s
    | .off => if offConditions s = [] ∨ s.tripActive then s else takeWake [] s
    | .run | .waking | .suspending | .shuttingDown => s

/-- What this unit decides from levels at the end of a command (log 10). -/
def powerSettle (s : State) : State := wakeSettle (comboSettle s)

/-! ### Heartbeat (R20, R21) -/

/-- R20: a heartbeat write. -/
def heartbeatEvent (s : State) : State :=
  if s.power.state = .run then
    match s.power.heartbeat with
    | .disarmed | .watching =>
      updatingPower (fun x => { x with power := { x.power with heartbeat := .watching, heartbeatMs := 0 } }) s
    | .silent =>
      if s.power.pulseMs.isSome then s
      else offer (.heartbeat true)
        (updatingPower (fun x => { x with power := { x.power with heartbeat := .watching, heartbeatMs := 0 } }) s)
  else s

/-- R12, R15: an abandoned suspend delay clears the pending wake set. -/
def abandonDelay (p : Power) : Power :=
  if p.delay.isSome then { p with delay := none, pendingWake := [] } else p

/-- R21, step 4. -/
def heartbeatAct (s : State) : State :=
  match s.power.table.heartbeatAction with
  | .none => s
  | .resetHost => { s with power := { abandonDelay s.power with hrstAsserted := true, pulseMs := some 0 } }
  | .forceOff => enterShutdown .heartbeat s

/-- R21: the watch timer expires in WATCHING. -/
def heartbeatExpires (s : State) : State :=
  heartbeatAct (offer (.heartbeat false) (withdrawOverrides
    (updatingPower (fun x => { x with power := { x.power with heartbeat := .silent, heartbeatMs := 0 } }) s)))

/-- R21: the RESET_HOST pulse ends. Where a warm restart inside the pulse has let the watch be armed again, the pulse's end takes
WATCHING to DISARMED, and override validity is withdrawn with it (R22, R140; DEDUCED, log 57). -/
def pulseEnds (s : State) : State :=
  let s1 := updatingPower (fun x => { x with power :=
    { x.power with pulseMs := none, hrstAsserted := false, heartbeat := .disarmed, heartbeatMs := 0 } }) s
  if s.overrideValid then withdrawOverrides s1 else s1

/-! ### Requested sleep and off (R14) -/

/-- R14, check 3: the ON_LEVEL inputs enabled for the target. -/
def levelPending (s : State) (enabled : WakeConfig → Bool) : Bool :=
  let t := s.power.table
  let l := s.power.levels
  (enabled t.lid && t.lid.onLevel && l.lid != t.lid.expected) ||
    (enabled t.acp && t.acp.onLevel && l.acp != t.acp.expected) ||
    (enabled t.wakeAux && t.wakeAux.onLevel && l.wakeAux != t.wakeAux.expected)

/-- R14, check 3; a button that R17 has ignored for every purpose is not counted (log 40). -/
def wakePending (s : State) (target : SleepTarget) : Bool :=
  (s.buttonPressed && !s.power.ignore) ||
    match target with
    | .sleep => levelPending s (·.sleep) || s.dsg.critical
    | .off => levelPending s (·.off)

/-- R14: an accepted request: the delay starts and, for SLEEP, the snapshot is taken. -/
def startDelay (target : SleepTarget) (length : Nat) (s : State) : State :=
  let p := { s.power with delay := some ⟨target, length, 0⟩ }
  { s with power := if target = .sleep then takeSnapshot p else p }

/-! ### PLATFORM adoption (R195) -/

/-- R20, R195: the new values; the watch timer restarts when its length changes in WATCHING. -/
def takePlatform (t : PlatformTable) (p : Power) : Power :=
  { p with
    table := t
    heartbeatMs := if p.heartbeat = .watching ∧ t.heartbeatTimeout ≠ p.table.heartbeatTimeout then 0
      else p.heartbeatMs }

/-- R17, R195: adoption; a long press already met acts, unless the combination timer holds it back. -/
def adoptPlatform (t : PlatformTable) (s : State) : State :=
  let s1 := scanModeDecision { s with power := takePlatform t s.power }
  if t.longPress ≠ s.power.table.longPress ∧ s1.buttonPressed ∧ s1.power.ignore = false ∧ longPressMet s1 = true ∧
      s1.power.comboMs = none then
    longPress s1
  else s1

end Sys2Proof.Machine
end

