-- ==== Sys2Proof/Machine/Slots.lean ====
section
/-! DEFINITION. The request slots in the exchange memory (R184), the posting order list (R187) and completion (R188). -/
namespace Sys2Proof.Machine

/-- R184: the offset of a slot. -/
def slotBase (n : Nat) : Nat := 0x0600 + 64 * n

/-- R184: state words. -/
def slotFree : Nat := 0
def slotPosted : Nat := 1
def slotActive : Nat := 2
def slotDone : Nat := 3
def slotCancel : Nat := 4

/-- R184: the state word and the kind of a slot. -/
def slotState (s : State) (n : Nat) : Nat := Memory.read16 s.mem (slotBase n)
def slotKind (s : State) (n : Nat) : Nat := Memory.read16 s.mem (slotBase n + 2)

/-- R190: parameter byte `o` of a slot. -/
def slotParam (s : State) (n o : Nat) : Nat := (Memory.read s.mem (slotBase n + 16 + o)).toNat
def slotParam16 (s : State) (n o : Nat) : Nat := Memory.read16 s.mem (slotBase n + 16 + o)

/-- The part's own writes of the state word. -/
def setSlotState (n v : Nat) (s : State) : State := storeBytes (slotBase n) (bytes16 v) s

/-- R184: result codes. -/
inductive Result where
  | ok | unknownKind | badParam | busy | wrongState | wakePending | tableInvalid | cancelled | nackAddr | nackData
  | pecFail | clockTimeout | badCount | portHalted | busStuck | noPack | probeFailed | badIdentity
deriving DecidableEq, Repr

def Result.code : Result → Nat
  | .ok => 1 | .unknownKind => 2 | .badParam => 3 | .busy => 4 | .wrongState => 5 | .wakePending => 6
  | .tableInvalid => 7 | .cancelled => 8 | .nackAddr => 9 | .nackData => 10 | .pecFail => 11 | .clockTimeout => 12
  | .badCount => 13 | .portHalted => 14 | .busStuck => 15 | .noPack => 16 | .probeFailed => 17 | .badIdentity => 18

/-- One run of reply bytes, at an offset of the parameter area (R190). -/
abbrev ReplyBytes := Nat × List Byte

def storeReply (n : Nat) : List ReplyBytes → State → State
  | [], s => s
  | (o, bytes) :: rest, s => storeReply n rest (storeBytes (slotBase n + 16 + o) bytes s)

/-- R188: CANCEL_TOO_LATE, set when the slot was in CANCEL (log 11). -/
def tooLate (s : State) (n : Nat) : Bool := slotState s n == slotCancel

/-- R188: reply, detail and flags, then the result, then DONE; the slot leaves the list and SLOT_DONE is set. -/
def completeSlot (n : Nat) (r : Result) (detail : Nat) (reply : List ReplyBytes) (s : State) : State :=
  let late := tooLate s n
  let s1 := storeReply n reply s
  let s2 := storeBytes (slotBase n + 6) (bytes16 detail ++ [BitVec.ofNat 8 (bit late 0)]) s1
  let s3 := setSlotState n slotDone (storeBytes (slotBase n + 4) (bytes16 r.code) s2)
  setCause causeSlotDone { s3 with posted := s3.posted.filter fun h => h.slot != n }

/-- R187: a slot becomes ACTIVE and joins the list with its work. -/
def holdSlot (n : Nat) (work : HeldWork) (s : State) : State :=
  { s with posted := s.posted ++ [⟨n, work⟩] }

/-- R187: the work a slot holds. -/
def heldWork (s : State) (n : Nat) : Option HeldWork :=
  (s.posted.find? fun h => h.slot == n).map (·.work)

/-- R187: whether a slot stands in the list. -/
def isHeld (s : State) (n : Nat) : Bool := s.posted.any fun h => h.slot == n

/-- R192: the slot that holds the staging area of a table. -/
def loadSlot (s : State) (t : TableId) : Option Nat :=
  (s.posted.find? fun h => h.work == .load t).map (·.slot)

/-- R192: table ids and staging areas. -/
def tableOf : Nat → Option TableId
  | 1 => some .keymap
  | 2 => some .pollA
  | 3 => some .pollB
  | 4 => some .chargeProfile
  | 5 => some .thermal
  | 6 => some .fanCurves
  | 7 => some .platform
  | _ => none

def stagingBase : TableId → Nat
  | .keymap => 0x1000
  | .pollA => 0x1500
  | .pollB => 0x1900
  | .chargeProfile => 0x1D00
  | .thermal => 0x1E00
  | .fanCurves => 0x1F00
  | .platform => 0x1F80

/-- The table whose staging area a window offset lies in (R169). -/
def stagingOf (o : Nat) : Option TableId :=
  if o < 0x1000 then none
  else if o < 0x1500 then some .keymap
  else if o < 0x1900 then some .pollA
  else if o < 0x1D00 then some .pollB
  else if o < 0x1E00 then some .chargeProfile
  else if o < 0x1F00 then some .thermal
  else if o < 0x1F80 then some .fanCurves
  else if o < 0x2000 then some .platform
  else none

/-- Reading a staging copy. -/
def stagingByte (m : Memory) (t : TableId) (o : Nat) : Nat := (Memory.read m (stagingBase t + o)).toNat
def stagingWord (m : Memory) (t : TableId) (o : Nat) : Nat := Memory.read16 m (stagingBase t + o)
def stagingSigned (m : Memory) (t : TableId) (o : Nat) : Int := signed16 (stagingWord m t o)

end Sys2Proof.Machine
end

