-- ==== Sys2Proof/Machine/Packs.lean ====
section
/-! DEFINITION. The pack monitor (R101 to R122): pack states, deliveries, fault window, probes, discharge selection,
critical battery. -/
namespace Sys2Proof.Machine

/-! ### Discharge selection and critical battery (R117, R118) -/

/-- R117: a pack qualifies. -/
def qualifies (s : State) (k : PackId) : Bool :=
  let p := s.pack k
  p.state == .online && !terminateDischarge p.values.alarmWord &&
    match k with
    | .pack0 => decide (0 < p.values.soc)
    | .pack1 => decide (5 < p.values.soc)

/-- R117: the value DSG_SEL takes. -/
def decideDischarge (s : State) : Option PackId :=
  if s.adapterIn then none
  else if qualifies s .pack1 then some .pack1
  else if qualifies s .pack0 then some .pack0
  else
    let fallback : Option PackId :=
      if s.seated .pack0 then some .pack0 else if s.seated .pack1 then some .pack1 else none
    match s.dsg.selected with
    | some k => if s.seated k then some k else fallback
    | none => fallback

/-- R118: the age of soc, as the core field 2 of the ages. -/
def socAge (p : Pack) : Option Nat := p.ages.getD 2 none

/-- R118: whether critical battery holds. -/
def criticalHolds (s : State) : Bool :=
  !s.adapterIn &&
    match s.dsg.selected with
    | none => false
    | some k =>
      (socAge (s.pack k)).isSome && decide ((s.pack k).values.soc ≤ s.chg.profile.criticalSoc) &&
        !qualifies s (otherPack k)

/-- R118: critical battery decided again. -/
def criticalDecision (s : State) : State := setCritical (criticalHolds s) s

/-- R117, R119: DSG_SEL at a new value, with the settle timer started. -/
def setDischarge (sel : Option PackId) (s : State) : State :=
  if s.dsg.selected = sel then s
  else updatingPacks (fun x => { x with dsg := { x.dsg with selected := sel, settleMs := some 0 } }) s

/-- R117, R118: both decisions. -/
def dischargeDecision (s : State) : State := criticalDecision (setDischarge (decideDischarge s) s)

/-! ### Pack states (R105 to R108) -/

/-- R105, R106: what entry to ABSENT or ONLINE clears. -/
def clearFaults (p : Pack) : Pack := { p with window := [], implausibleRun := 0, failures := 0 }

/-- R108: a change of a pack's state. The failure count it may clear stands in both records (R115): that failure_count of the probe
record shows the pack's count at once, without a probe in progress too, is a DESIGN CHOICE (log 82). -/
def setPackState (k : PackId) (new : PackState) (reason : PackReason) (change : Pack → Pack) (s : State) : State :=
  let s1 := commit (.probe k) s (updating (.pack k)
    (fun x => x.setPack k { change (x.pack k) with state := new, reason := reason }) s)
  let s2 := offer (.pack k reason (s.pack k).state new (s1.pack k).values.soc) s1
  evaluate (dischargeDecision s2)

/-! ### Requests (R116) -/

/-- R116: the request attached to a pack's probe completes. -/
def completeProbeRequest (k : PackId) (r : Result) (detail : Nat) (s : State) : State :=
  match (s.pack k).request with
  | none => s
  | some n => completeSlot n r detail [] (s.setPack k { s.pack k with request := none })

/-! ### Probes (R111 to R115) -/

/-- R111: the target index the profile names for a pack. -/
def packTarget (c : ChargeProfile) : PackId → Nat
  | .pack0 => c.pack0Target
  | .pack1 => c.pack1Target

/-- R115: one step outcome of the probe record. -/
def setStep (r : ProbeRecord) (step : Nat) (o : BusOutcome) : ProbeRecord :=
  match step with
  | 1 => { r with step1 := o }
  | 2 => { r with step2 := o }
  | 3 => { r with step3 := o }
  | _ => { r with step4 := o }

/-- R115: the end of a probe in its record. -/
def endRecord (s : State) (result : ProbeResult) (r : ProbeRecord) : ProbeRecord :=
  { r with state := .done, result := result, completedAt := s.link.partTime }

/-- R106: the first step of its probe has been granted or handed back. -/
def probeBegun (k : PackId) (s : State) : State :=
  if (s.pack k).state = .detected then setPackState k .probing .probeStart id s else s

/-- A failed probe as an update of the probe record and of the failure count (R113, R115). -/
def recordFailure (k : PackId) (step : Nat) (o : BusOutcome) (s : State) : State :=
  commit (.pack k) s (updating (.probe k) (fun x => x.setPack k { x.pack k with
    probe := none, failures := (x.pack k).failures + 1
    record := endRecord x .probeFailed (setStep (x.pack k).record step o) }) s)

/-- R113: a probe fails at a step. -/
def probeFails (k : PackId) (step : Nat) (o : BusOutcome) (s : State) : State :=
  let s1 := recordFailure k step o s
  let s2 := if 3 ≤ (s1.pack k).failures then setPackState k .faulted .probeFailed id s1 else s1
  completeProbeRequest k .probeFailed step s2

/-- R112: the command byte of a step. -/
def stepCommand (l : PollList) (k : PackId) (step : Nat) : Byte :=
  match step with
  | 3 => l.identityCommand
  | 4 =>
    match l.entries.find? (fun e => e.binding == .pack k .alarm) with
    | some e => e.command
    | none => 0#8
  | _ => 0#8

/-- R71, R112: a step as offered. -/
def stepUnit (s : State) (k : PackId) (run : ProbeRun) : ProbeUnit :=
  { pack := k, step := run.step, address := run.address, pec := run.pec,
    command := stepCommand s.engineA.list k run.step, orphan := false }

/-- R106, R115: a probe step is granted. -/
def probeGranted (u : ProbeUnit) (s : State) : State :=
  probeBegun u.pack (updating (.probe u.pack) (fun x => x.setPack u.pack { x.pack u.pack with
    record := { (x.pack u.pack).record with state := .running } }) s)

/-- R106, R115: a granted probe step is handed its grant. -/
def grantNotice (w : Work) (s : State) : State :=
  match w with
  | .probe u => probeGranted u s
  | .charger _ | .poll _ | .host _ => s

/-- R72: work offered to a port. An IDLE port with empty lists grants it at once; else it waits for the arbiter's choice. -/
def offerWork (p : PortId) (w : Work) (s : State) : State :=
  if (s.port p).state = .idle ∧ nothingWaits (s.port p) = true then grantNotice w (updatingPort p (putOnBus w) s)
  else updatingPort p (joinList w) s

/-- R111, R72, R69, R62: a step is offered; a HALTED or DISABLED port hands it back at once. -/
def offerStep (k : PackId) (run : ProbeRun) (s : State) : State :=
  let s1 := updating (.probe k) (fun x => x.setPack k { x.pack k with
    probe := some run, record := { (x.pack k).record with state := .waiting } }) s
  if s1.portA.state = .halted ∨ s1.portA.state = .disabled then
    probeFails k run.step .portHalted (probeBegun k s1)
  else
    offerWork .a (.probe (stepUnit s1 k run)) s1

/-- R115: a probe record at the start of a probe. -/
def newRecord (index address : Nat) : ProbeRecord :=
  { state := .waiting, result := .none, targetIndex := index, targetAddress := address, step1 := .never,
    step2 := .never, step3 := .never, step4 := .never, identity := none, completedAt := 0#32 }

/-- R111: a probe starts; its record and step 1 are one update. -/
def startProbe (k : PackId) (s : State) : State :=
  let index := packTarget s.chg.profile k
  let t := targetOf s.engineA.list index
  offerStep k ⟨1, t.address, t.pec⟩
    (updating (.probe k) (fun x => x.setPack k { x.pack k with record := newRecord index t.address }) s)

/-- R112: the identity in the 10 bytes of step 3. -/
def identityOf (d : List Byte) : Identity :=
  { designVoltage := value16 (d.getD 0 0#8) (d.getD 1 0#8)
    designCapacity := value16 (d.getD 2 0#8) (d.getD 3 0#8)
    chemistry := d.getD 4 0#8
    serial := value16 (d.getD 5 0#8) (d.getD 6 0#8) + 65536 * (d.getD 7 0#8).toNat
    manufactureDate := BitVec.ofNat 16 (value16 (d.getD 8 0#8) (d.getD 9 0#8)) }

/-- R103, R117: what a change of the alarm flags starts: the discharge selection before the charge evaluation (DESIGN CHOICE,
log 65). R131 gives each trigger its own evaluation; a word that changes both OVER_TEMP and TERMINATE_CHARGE is taken as one trigger
and runs one evaluation (DESIGN CHOICE, log 80). -/
def flagReactions (old new : Word16) (s : State) : State :=
  let s1 := if terminateDischarge old = terminateDischarge new then s else dischargeDecision s
  if overTemp old = overTemp new ∧ terminateCharge old = terminateCharge new then s1 else evaluate s1

/-- R113, steps 1 to 3: history cleared for a new pack. -/
def isNewPack (p : Pack) (i : Identity) : Bool :=
  match p.identity with
  | none => true
  | some old => old.serial != i.serial

def clearedValues : PackValues := ⟨0, 0, 0, 0, 0, 0, 0#16, 0, 0, 0⟩

/-- R113, steps 1 to 4: what a probe's success stores. -/
def storeProbe (i : Identity) (alarm : Word16) (p : Pack) : Pack :=
  let fresh := isNewPack p i
  { p with
    values := { (if fresh then clearedValues else p.values) with alarmWord := alarm }
    ages := (if fresh then List.replicate 7 none else p.ages).set 6 (some 0)
    stored := p.stored.set 6 true
    identity := some i }

/-- R113: a probe succeeds with step 4's word. -/
def probeSucceeds (k : PackId) (i : Identity) (word : Nat) (s : State) : State :=
  let alarm := BitVec.ofNat 16 word
  let p := s.pack k
  let fresh := isNewPack p i
  let s1 := updating (.probe k) (fun x => x.setPack k { x.pack k with
    probe := none, record := endRecord x .ok (setStep (x.pack k).record 4 .ok) }) s
  let s2 := updating (.pack k) (fun x => x.setPack k (storeProbe i alarm (x.pack k))) s1
  let s3 := flagReactions (if fresh then 0#16 else p.values.alarmWord) alarm s2
  completeProbeRequest k .ok 0
    (setPackState k .online (if fresh then .newPack else .probeOk) clearFaults s3)

/-- R112: an identity whose design voltage is out of range. -/
def badIdentity (i : Identity) : Bool := decide (i.designVoltage < 4000) || decide (20000 < i.designVoltage)

/-- R106, R112, R116: a probe ends with BAD_IDENTITY. -/
def probeBadIdentity (k : PackId) (i : Identity) (s : State) : State :=
  let s1 := updating (.probe k) (fun x => x.setPack k { x.pack k with
    probe := none
    record := endRecord x .badIdentity { setStep (x.pack k).record 3 .ok with identity := some i } }) s
  completeProbeRequest k .badIdentity i.designVoltage (setPackState k .faulted .badIdentity id s1)

/-- R111: the next step after one that ended with OK. -/
def nextStep (k : PackId) (run : ProbeRun) (change : ProbeRecord → ProbeRecord) (s : State) : State :=
  offerStep k { run with step := run.step + 1 }
    (updating (.probe k) (fun x => x.setPack k { x.pack k with
      record := { change (setStep (x.pack k).record run.step .ok) with state := .waiting } }) s)

/-- R112, R113: a probe step ends. An outcome of an abandoned probe is disregarded (R114; log 30). -/
def probeStepEnd (u : ProbeUnit) (o : BusOutcome) (data : List Byte) (s : State) : State :=
  let k := u.pack
  match (s.pack k).probe with
  | none => s
  | some run =>
    if u.orphan then s
    else if o ≠ .ok then probeFails k run.step o s
    else
      match run.step with
      | 1 | 2 => nextStep k run id s
      | 3 =>
        if data.length ≠ 10 then probeFails k 3 .short s
        else if badIdentity (identityOf data) then probeBadIdentity k (identityOf data) s
        else nextStep k run (fun r => { r with identity := some (identityOf data) }) s
      | _ =>
        match (s.pack k).record.identity with
        | some i => probeSucceeds k i (wordOf data) s
        | none => probeFails k 4 o s

/-- R65, R115: a probe step that stuck data sends back waits again. -/
def probeSentBack (u : ProbeUnit) (s : State) : State :=
  if u.orphan then s
  else updating (.probe u.pack) (fun x => x.setPack u.pack { x.pack u.pack with
    record := { (x.pack u.pack).record with state := .waiting } }) s

/-- R114: whether a granted work unit is a step of a pack's probe, and that step disregarded from now on. -/
def orphanWork (k : PackId) : Option Work → Option Work
  | some (.probe u) => some (.probe (if u.pack = k then { u with orphan := true } else u))
  | w => w

/-- R114: the probe in progress is abandoned. -/
def abandonProbe (k : PackId) (s : State) : State :=
  match (s.pack k).probe with
  | none => s
  | some _ =>
    let s1 := updating (.probe k) (fun x => x.setPack k { x.pack k with
      probe := none, record := endRecord x .abandoned (x.pack k).record }) s
    updating (.port .a) (fun x => { x with portA := { x.portA with
      probes := x.portA.probes.filter (fun u => u.pack != k)
      granted := orphanWork k x.portA.granted } }) s1

/-! ### Presence (R105) -/

/-- R105: a rise of the presence level. -/
def presenceRise (k : PackId) (s : State) : State :=
  if (s.pack k).state = .absent then startProbe k (setPackState k .detected .present id s) else s

/-- R105: a fall of the presence level. -/
def presenceFall (k : PackId) (s : State) : State :=
  if (s.pack k).state = .absent then s
  else completeProbeRequest k .noPack 0 (setPackState k .absent .removed clearFaults (abandonProbe k s))

/-! ### Deliveries (R101 to R103, R109, R110) -/

/-- R104, R109: the number of a core field. -/
def coreNumber : PackField → Option Nat
  | .voltage => some 0
  | .current => some 1
  | .soc => some 2
  | .temperature => some 3
  | .reqCurrent => some 4
  | .reqVoltage => some 5
  | .alarm => some 6
  | .remaining | .fullCap | .cycles => none

/-- R102: the word converted and stored. -/
def storeField (f : PackField) (w : Nat) (v : PackValues) : PackValues :=
  match f with
  | .voltage => { v with voltage := w }
  | .current => { v with current := signed16 w }
  | .soc => { v with soc := min w 100 }
  | .temperature => { v with temperature := clampInt (-400) 1500 ((w : Int) - 2731) }
  | .reqCurrent => { v with reqCurrent := w }
  | .reqVoltage => { v with reqVoltage := w }
  | .alarm => { v with alarmWord := BitVec.ofNat 16 w }
  | .remaining => { v with remaining := w }
  | .fullCap => { v with fullCap := w }
  | .cycles => { v with cycles := w }

/-- R109: the outcome of a delivery as the window holds it. -/
def windowOutcome (o : BusOutcome) (implausible : Bool) : Option WindowOutcome :=
  match o with
  | .ok => some (if implausible then .implausible else .ok)
  | .nackAddr | .nackData => some .nack
  | .pecFail => some .pecFail
  | .never | .clockTimeout | .badCount | .skipped | .portHalted | .busStuck | .short => none

/-- R109: one outcome at the end of the window. -/
def enterWindow (o : Option WindowOutcome) (w : List WindowOutcome) : List WindowOutcome :=
  match o with
  | none => w
  | some x => (if w.length < 8 then w else w.drop 1) ++ [x]

/-- R110: a VOLTAGE reading outside the design voltage ±40%. -/
def implausibleVoltage (p : Pack) (w : Nat) : Bool :=
  match p.identity with
  | none => false
  | some i => decide (w * 100 < i.designVoltage * 60) || decide (i.designVoltage * 140 < w * 100)

/-- R101, R104, R109, R110: the pack after one delivery; `settling` is the settle timer of R119. -/
def delivered (settling : Bool) (f : PackField) (o : BusOutcome) (w : Nat) (p : Pack) : Pack :=
  let bad := o == .ok && f == .voltage && implausibleVoltage p w
  let keep := o == .ok && !bad
  let q := if keep then { p with values := storeField f w p.values } else p
  match coreNumber f with
  | none => q
  | some n =>
    { q with
      ages := if keep then q.ages.set n (some 0) else q.ages
      stored := if keep then q.stored.set n true else q.stored
      implausibleRun := if f = .voltage ∧ o = .ok then (if bad then min 3 (q.implausibleRun + 1) else 0)
        else q.implausibleRun
      window := if f = .current ∧ settling = true then q.window else enterWindow (windowOutcome o bad) q.window }

/-- R110: the first criterion met. -/
def criterionMet (c : ChargeProfile) (p : Pack) : Option PackReason :=
  if c.nackEnable = true ∧ c.nackLimit ≤ windowCount .nack p.window then some .nackLimit
  else if c.pecEnable = true ∧ c.pecLimit ≤ windowCount .pecFail p.window then some .pecLimit
  else if c.implausibleEnable = true ∧ 3 ≤ p.implausibleRun then some .implausibleVoltage
  else none

/-- R107, R110: an ONLINE pack whose window meets a criterion is LOST and probed. -/
def criteriaCheck (k : PackId) (s : State) : State :=
  if (s.pack k).state = .online then
    match criterionMet s.chg.profile (s.pack k) with
    | some r => startProbe k (setPackState k .lost r id s)
    | none => s
  else s

/-- R103, R117, R135: what a stored value starts in this unit and in the charge controller. -/
def storedReactions (k : PackId) (f : PackField) (old : Pack) (s : State) : State :=
  match f with
  | .soc => if (s.pack k).values.soc ≠ old.values.soc ∨ socAge old = none then dischargeDecision s else s
  | .alarm => flagReactions old.values.alarmWord (s.pack k).values.alarmWord s
  | .temperature => if s.chg.selected = some k then redecideDpk s else s
  | .voltage | .current | .reqCurrent | .reqVoltage | .remaining | .fullCap | .cycles => s

/-- R101: a PACK delivery; only an ONLINE pack takes it. -/
def packDelivery (k : PackId) (f : PackField) (o : BusOutcome) (w : Nat) (s : State) : State :=
  if (s.pack k).state = .online then
    let old := s.pack k
    let s1 := updating (.pack k) (fun x => x.setPack k (delivered x.dsg.settleMs.isSome f o w (x.pack k))) s
    criteriaCheck k (if o = .ok then storedReactions k f old s1 else s1)
  else s

/-! ### Rounds (R104, R111) -/

/-- R104: one age at a round end. -/
def ageField (stored : Bool) (age : Option Nat) : Option Nat :=
  if stored then age else age.map fun n => min 254 (n + 1)

/-- R104: the core fields not stored since the previous round end grow older. -/
def agePack (p : Pack) : Pack :=
  { p with ages := List.zipWith ageField p.stored p.ages, stored := List.replicate 7 false }

/-- R104: a round end of poll engine A. -/
def packRoundEnd (s : State) : State :=
  let one : PackId → State → State := fun k => updating (.pack k) (fun x => x.setPack k (agePack (x.pack k)))
  one .pack1 (one .pack0 s)

/-- R111: whether a pack's next probe is due at a round start. -/
def retryDue (p : Pack) : Bool :=
  (p.state == .probing || p.state == .lost) && p.probe.isNone && (p.failures == 1 || p.failures == 2)

/-- R111: a round start of poll engine A; where both packs' probes are due, pack 0's starts first (DESIGN CHOICE, log 62). -/
def packRoundStart (s : State) : State :=
  let one : PackId → State → State := fun k x => if retryDue (x.pack k) then startProbe k x else x
  one .pack1 (one .pack0 s)

/-- R110, R118: what the adoption of a CHARGE_PROFILE makes the monitor check, after the controller's evaluation: pack 0, then
pack 1 (DESIGN CHOICE, log 64). -/
def profileReactions (s : State) : State :=
  criticalDecision (criteriaCheck .pack1 (criteriaCheck .pack0 s))

/-! ### PROBE_PACK (R116) -/

/-- The pack a request byte names. -/
def packOfNat (s : State) (n : Nat) : Option PackId :=
  match n with
  | 0 => some .pack0
  | 1 => if s.packFitted .pack1 then some .pack1 else none
  | _ => none

/-- R116: the request attached to a pack's probe. -/
def attachRequest (k : PackId) (slot : Nat) (s : State) : State :=
  s.setPack k { s.pack k with request := some slot }

/-- R116: a PROBE_PACK request, its slot ACTIVE and held. -/
def probeRequest (slot : Nat) (s : State) : State :=
  match packOfNat s (slotParam s slot 0) with
  | none => completeSlot slot .badParam 1 [] s
  | some k =>
    if (s.pack k).request.isSome then completeSlot slot .busy 0 [] s
    else
      match (s.pack k).state with
      | .absent => completeSlot slot .noPack 0 [] s
      | .online | .faulted =>
        startProbe k (setPackState k .probing .request (fun p => { p with failures := 0 }) (attachRequest k slot s))
      | .detected | .probing | .lost =>
        if (s.pack k).probe.isSome then attachRequest k slot s else startProbe k (attachRequest k slot s)

/-! ### Resets (R121, R122) -/

/-- R115, R121: no probe yet. -/
def noRecord : ProbeRecord :=
  { state := .none, result := .none, targetIndex := 0, targetAddress := 0, step1 := .never, step2 := .never,
    step3 := .never, step4 := .never, identity := none, completedAt := 0#32 }

/-- R121: a pack at cold start, pin reset and combination restart. -/
def resetPack : Pack :=
  { state := .absent, reason := .none, values := clearedValues, ages := List.replicate 7 none,
    stored := List.replicate 7 false, window := [], implausibleRun := 0, failures := 0, identity := none,
    probe := none, record := noRecord, request := none }

/-- R122: a pack at warm restart; what R104 counts since the previous round end goes on with the ages (log 46). Of the probe record
the other fields are cleared too (DESIGN CHOICE, log 73). -/
def restartPack (p : Pack) : Pack :=
  { resetPack with
    values := p.values, ages := p.ages, stored := p.stored, identity := p.identity, reason := p.reason }

end Sys2Proof.Machine
end

