-- ==== Sys2Proof/Machine/Validate.lean ====
section
/-! DEFINITION. Validation and reading of the seven staging copies (R53, R85, R86, R143, R163, R165, R194). A check is a
failure condition with its reason and detail; the first that holds, in the order of the rules, decides. -/
namespace Sys2Proof.Machine

/-- R192: reason codes of TABLE_INVALID. -/
inductive Reason where
  | badHeader | badPosition | badCode | fnCount | comboCount | badTarget | badEntry | badBinding | badWatch
  | missingBinding | targetMissing | badField | badThreshold | badBand | badSlot | noSlots | badCurve
deriving DecidableEq, Repr

def Reason.code : Reason → Nat
  | .badHeader => 1 | .badPosition => 2 | .badCode => 3 | .fnCount => 4 | .comboCount => 5 | .badTarget => 6
  | .badEntry => 7 | .badBinding => 8 | .badWatch => 9 | .missingBinding => 10 | .targetMissing => 11 | .badField => 12
  | .badThreshold => 13 | .badBand => 14 | .badSlot => 15 | .noSlots => 16 | .badCurve => 17

/-- One check: whether it fails, the reason, the detail. -/
abbrev Check := Bool × Reason × Nat

/-- The first failure. -/
def firstFailure : List Check → Option (Reason × Nat)
  | [] => none
  | (true, r, d) :: _ => some (r, d)
  | (false, _, _) :: rest => firstFailure rest

/-- A value outside a range. -/
def outside (lo hi n : Nat) : Bool := decide (n < lo) || decide (hi < n)
def outsideInt (lo hi n : Int) : Bool := decide (n < lo) || decide (hi < n)

/-! ### KEYMAP (R52, R53) -/

def keyBase (m : Memory) (n : Nat) : Nat := stagingWord m .keymap (16 + 2 * n)
def keyFn (m : Memory) (n : Nat) : Nat := stagingWord m .keymap (304 + 2 * n)

/-- R52: the two attribute bits that are read. -/
def keyAttributes (m : Memory) (n : Nat) : Nat := stagingByte m .keymap (592 + n) % 4
def keyCombo (m : Memory) (n : Nat) : Bool := decide (2 ≤ keyAttributes m n)

/-- R52: an invalid code. -/
def invalidCode (c : Nat) : Bool := c == 0xF000 || decide (0xF004 ≤ c)

/-- R53: one position in the BASE layer pass, its checks in the order of the rule's table rows (DESIGN CHOICE, log 69). -/
def baseChecks (m : Memory) (limit n : Nat) : List Check :=
  [ (decide (limit ≤ n) && keyBase m n != 0, .badPosition, n),
    (invalidCode (keyBase m n), .badCode, n),
    (keyBase m n == 0xF001 && (List.range n).any (fun k => keyBase m k == 0xF001), .fnCount, n) ]

/-- R53: one position in the FN layer pass, its checks in the order of the rule's table rows (DESIGN CHOICE, log 69). -/
def fnChecks (m : Memory) (limit n : Nat) : List Check :=
  [ (decide (limit ≤ n) && (keyFn m n != 0 || keyAttributes m n != 0), .badPosition, 0x0100 + n),
    (invalidCode (keyFn m n) || keyFn m n == 0xF001, .badCode, 0x0100 + n),
    (keyCombo m n && (List.range n).any (keyCombo m), .comboCount, 0x0100 + n) ]

/-- R53; `limit` is the number of scanned positions. The missing FN code is found when the BASE pass is complete
(log 41). -/
def checkKeymap (m : Memory) (limit : Nat) : Option (Reason × Nat) :=
  firstFailure
    ([(outside 1 15 (stagingByte m .keymap 0), .badHeader, 0xFFFE)] ++
      (List.range 144).flatMap (baseChecks m limit) ++
      [(!(List.range 144).any (fun k => keyBase m k == 0xF001), .fnCount, 0xFFFF)] ++
      (List.range 144).flatMap (fnChecks m limit))

def readKeymap (m : Memory) : Keymap where
  debouncePasses := stagingByte m .keymap 0
  base := (List.range 144).map fun n => BitVec.ofNat 16 (keyBase m n)
  fn := (List.range 144).map fun n => BitVec.ofNat 16 (keyFn m n)
  diode := (List.range 144).map fun n => keyAttributes m n % 2 == 1
  combo := (List.range 144).map (keyCombo m)

/-! ### POLL_A and POLL_B (R81 to R86) -/

/-- R82: the pack field; a byte beyond its codes names no pack (log 18). -/
def packCode : Nat → Option PackId
  | 1 => some .pack0
  | 2 => some .pack1
  | _ => none

/-- R83: the kinds of a poll list; code 4, WRITE_BLOCK, is none of them. -/
def pollKind : Nat → TxKind
  | 0 => .quick
  | 1 => .readWord
  | 2 => .writeWord
  | _ => .readBlock

def fieldOf : Nat → PackField
  | 0 => .voltage | 1 => .current | 2 => .soc | 3 => .temperature | 4 => .reqCurrent | 5 => .reqVoltage | 6 => .alarm
  | 7 => .remaining | 8 => .fullCap | _ => .cycles

def chargerFieldOf : Nat → ChargerField
  | 0 => .inputCurrent | 1 => .systemCurrent | _ => .status

def periodOf : Nat → Period
  | 0 => .every | 1 => .fourth | _ => .sixteenth

/-- The offset of byte `o` of entry `n`, and of a target. -/
def entryAt (n o : Nat) : Nat := 64 + 16 * n + o
def targetAt (n o : Nat) : Nat := 32 + 4 * n + o

def readTarget (m : Memory) (t : TableId) (n : Nat) : Target where
  address := stagingByte m t (targetAt n 0)
  pec := stagingByte m t (targetAt n 1) != 0
  pack := packCode (stagingByte m t (targetAt n 2))

def readBinding (m : Memory) (t : TableId) (n : Nat) : Binding :=
  let b9 := stagingByte m t (entryAt n 9)
  let b10 := stagingByte m t (entryAt n 10)
  match stagingByte m t (entryAt n 8) with
  | 0 => .none
  | 1 => .raw (b9 + 256 * b10)
  | 2 => .pack (if b9 = 0 then .pack0 else .pack1) (fieldOf b10)
  | 3 => .charger (chargerFieldOf b10)
  | _ => .sensor b9

def readWatch (m : Memory) (t : TableId) (n : Nat) : Option Watch :=
  let w := stagingByte m t (entryAt n 11)
  if w % 2 = 1 then
    some ⟨BitVec.ofNat 16 (stagingWord m t (entryAt n 12)), BitVec.ofNat 16 (stagingWord m t (entryAt n 14)),
      w / 2 % 2 == 1, w / 4 % 2 == 1⟩
  else none

def readEntry (m : Memory) (t : TableId) (n : Nat) : PollEntry where
  target := stagingByte m t (entryAt n 0)
  kind := pollKind (stagingByte m t (entryAt n 1))
  command := BitVec.ofNat 8 (stagingByte m t (entryAt n 2))
  length := stagingByte m t (entryAt n 3)
  writeValue := BitVec.ofNat 16 (stagingWord m t (entryAt n 4))
  period := periodOf (stagingByte m t (entryAt n 6))
  skipTarget := stagingByte m t (entryAt n 7) == 1
  binding := readBinding m t n
  watch := readWatch m t n

def readPollList (m : Memory) (t : TableId) : PollList where
  enable := stagingByte m t 0 == 1
  fast := stagingByte m t 1 == 1
  clockLow := stagingByte m t 2
  runMs := stagingWord m t 6
  sleepMs := stagingWord m t 8
  offMs := stagingWord m t 10
  chargingMs := stagingWord m t 12
  identityCommand := BitVec.ofNat 8 (stagingByte m t 5)
  targets := (List.range (stagingByte m t 3)).map (readTarget m t)
  entries := (List.range (stagingByte m t 4)).map (readEntry m t)

/-- R81: an interval. -/
def badInterval (n : Nat) : Bool := outside 50 60000 n || n % 50 != 0

/-- R85: the header. -/
def badHeader (m : Memory) (t : TableId) : Bool :=
  decide (1 < stagingByte m t 0) || decide (1 < stagingByte m t 1) || outside 5 50 (stagingByte m t 2) ||
    decide (8 < stagingByte m t 3) || decide (32 < stagingByte m t 4) || badInterval (stagingWord m t 6) ||
    badInterval (stagingWord m t 8) || badInterval (stagingWord m t 10) || badInterval (stagingWord m t 12)

/-- R85: a target. -/
def badTarget (m : Memory) (t : TableId) (n : Nat) : Bool :=
  outside 1 127 (stagingByte m t (targetAt n 0)) ||
    (List.range n).any (fun k => stagingByte m t (targetAt k 0) == stagingByte m t (targetAt n 0)) ||
    (t == .pollB && stagingByte m t (targetAt n 2) != 0)

/-- R83: whether a length fits its kind. -/
def lengthFits (k : TxKind) (n : Nat) : Bool :=
  match k with
  | .quick => n == 0
  | .readWord | .writeWord => n == 2
  | .readBlock | .writeBlock => !outside 1 32 n

/-- R85: BAD_ENTRY. -/
def badEntry (m : Memory) (t : TableId) (n : Nat) : Bool :=
  decide (stagingByte m t 3 ≤ stagingByte m t (entryAt n 0)) || decide (3 < stagingByte m t (entryAt n 1)) ||
    !lengthFits (pollKind (stagingByte m t (entryAt n 1))) (stagingByte m t (entryAt n 3)) ||
    decide (2 < stagingByte m t (entryAt n 6)) || decide (1 < stagingByte m t (entryAt n 7))

/-- R85: whether two entries bind the same field or slot. -/
def sameField (a b : Binding) : Bool :=
  match a with
  | .pack _ _ | .charger _ | .sensor _ => a == b
  | .none | .raw _ => false

/-- R85: BAD_BINDING. -/
def badBinding (m : Memory) (t : TableId) (n : Nat) : Bool :=
  let e := readEntry m t n
  let b9 := stagingByte m t (entryAt n 9)
  let b10 := stagingByte m t (entryAt n 10)
  decide (4 < stagingByte m t (entryAt n 8)) ||
  (match e.binding with
    | .none => false
    | .raw o =>
      !(e.kind == .readWord || e.kind == .readBlock) ||
        decide (512 < o + (if e.kind = .readWord then 2 else 1 + e.length))
    | .pack k _ =>
      e.kind != .readWord || t == .pollB || decide (1 < b9) || (readTarget m t e.target).pack != some k ||
        decide (9 < b10)
    | .charger _ => e.kind != .readWord || t == .pollB || decide (2 < b10)
    | .sensor _ => e.kind != .readWord || t == .pollA || outside 2 5 b9) ||
  (List.range n).any (fun k => sameField e.binding (readBinding m t k))

/-- R85: BAD_WATCH. -/
def badWatch (m : Memory) (t : TableId) (n : Nat) : Bool :=
  let e := readEntry m t n
  decide (7 < stagingByte m t (entryAt n 11)) ||
    match e.watch with
    | none => false
    | some w => e.kind == .quick || e.kind == .writeWord || (w.value &&& ~~~w.mask) != 0#16

/-- R85: the checks of one entry, in the order of the rule's table rows (DESIGN CHOICE, log 61). -/
def entryChecks (m : Memory) (t : TableId) (n : Nat) : List Check :=
  [(badEntry m t n, .badEntry, n), (badBinding m t n, .badBinding, n), (badWatch m t n, .badWatch, n)]

/-- R86: the completeness check of one pack. -/
def missingChecks (l : PollList) (k : PackId) (p : Nat) : List Check :=
  (List.range 7).map fun f =>
    (!l.entries.any (fun e => e.binding == .pack k (fieldOf f)), .missingBinding, 0x0200 + 16 * p + f)

/-- R86: whether a role of the charge profile disagrees with a list. -/
def chargerRoleFails (l : PollList) (c : ChargeProfile) : Bool :=
  decide (l.targets.length ≤ c.chargerTarget) ||
    (match l.targets[c.chargerTarget]? with | some t => t.pack.isSome | none => false) ||
    l.entries.any (fun e => match e.binding with | .charger _ => e.target != c.chargerTarget | _ => false)

def packRoleFails (l : PollList) (k : PackId) (index : Nat) : Bool :=
  match l.targets[index]? with
  | none => true
  | some t => t.pack != some k

/-- R86: the cross-check, roles in order. -/
def crossChecks (l : PollList) (c : ChargeProfile) (packCount : Nat) : List Check :=
  [ (chargerRoleFails l c, .targetMissing, 0x0300), (packRoleFails l .pack0 c.pack0Target, .targetMissing, 0x0301),
    (packCount == 2 && packRoleFails l .pack1 c.pack1Target, .targetMissing, 0x0302) ]

/-- R86: the cross-check made again at adoption. -/
def crossCheck (l : PollList) (c : ChargeProfile) (packCount : Nat) : Option (Reason × Nat) :=
  firstFailure (crossChecks l c packCount)

/-- R85, for either table. -/
def checkPollList (m : Memory) (t : TableId) (c : ChargeProfile) (packCount : Nat) : Option (Reason × Nat) :=
  let l := readPollList m t
  firstFailure
    ([(badHeader m t, .badHeader, 0xFFFE)] ++
      (List.range (stagingByte m t 3)).map (fun n => (badTarget m t n, .badTarget, 0x0100 + n)) ++
      (List.range (stagingByte m t 4)).flatMap (entryChecks m t) ++
      (if t = .pollA then
        missingChecks l .pack0 0 ++ (if packCount = 2 then missingChecks l .pack1 1 else []) ++ crossChecks l c packCount
      else []))

/-! ### CHARGE_PROFILE (R143) -/

def readBand (m : Memory) (n : Nat) : Band where
  low := stagingSigned m .chargeProfile (32 + 8 * n)
  high := stagingSigned m .chargeProfile (34 + 8 * n)
  percent := stagingByte m .chargeProfile (36 + 8 * n)

def readProfile (m : Memory) : ChargeProfile :=
  let b := stagingByte m .chargeProfile
  let w := stagingWord m .chargeProfile
  { adapterLimit := w 0, adapterVoltage := w 2, reserve := w 4, profileCap := w 6, voltageMax := w 8
    fullStart := b 10, fullStop := b 11, conserveStart := b 12, conserveStop := b 13
    chargerSensor := if b 14 = 0xFF then none else some (b 14)
    chargerHot := stagingSigned m .chargeProfile 16, chargerMax := stagingSigned m .chargeProfile 18
    bands := (List.range (b 15)).map (readBand m)
    chargerTarget := b 20, pack0Target := b 21, pack1Target := b 22
    currentCommand := BitVec.ofNat 8 (b 23), voltageCommand := BitVec.ofNat 8 (b 24)
    nackEnable := b 25 == 1, nackLimit := b 26, pecEnable := b 27 == 1, pecLimit := b 28
    implausibleEnable := b 29 == 1, criticalSoc := b 30 }

/-- R143: fields 1 to 12 and 14 to 19 in number order. -/
def profileFieldChecks (m : Memory) : List Check :=
  let b := stagingByte m .chargeProfile
  let w := stagingWord m .chargeProfile
  [ (w 0 != 0 && outside 500 10000 (w 0), .badField, 1), (outside 5000 20000 (w 2), .badField, 2),
    (outside 0 2000 (w 4), .badField, 3), (outside 128 8128 (w 6), .badField, 4),
    (outside 4096 19200 (w 8), .badField, 5), (outside 0 99 (b 10), .badField, 6),
    (outside 1 100 (b 11), .badField, 7), (outside 0 99 (b 12), .badField, 8),
    (outside 1 100 (b 13), .badField, 9), (b 14 != 0xFF && outside 0 5 (b 14), .badField, 10),
    (outsideInt (-400) 1500 (stagingSigned m .chargeProfile 16), .badField, 11),
    (outsideInt (-400) 1500 (stagingSigned m .chargeProfile 18), .badField, 12),
    (outside 0 7 (b 20) || outside 0 7 (b 21) || outside 0 7 (b 22), .badField, 14),
    (decide (1 < b 25) || outside 2 8 (b 26), .badField, 16), (decide (1 < b 27) || outside 2 8 (b 28), .badField, 17),
    (decide (1 < b 29), .badField, 18), (outside 0 20 (b 30), .badField, 19) ]

/-- R143: a band. -/
def badBand (m : Memory) (n : Nat) : Bool :=
  let x := readBand m n
  outsideInt (-400) 1500 x.low || outsideInt (-400) 1500 x.high || decide (x.high ≤ x.low) ||
    decide (100 < x.percent) || (n != 0 && decide (x.low < (readBand m (n - 1)).high))

/-- R143; `l` is the active POLL_A. -/
def checkProfile (m : Memory) (l : PollList) (packCount : Nat) : Option (Reason × Nat) :=
  let c := readProfile m
  firstFailure
    (profileFieldChecks m ++
      [ (decide (c.fullStop ≤ c.fullStart), .badThreshold, 0),
        (decide (c.conserveStop ≤ c.conserveStart), .badThreshold, 1),
        (decide (c.chargerMax ≤ c.chargerHot), .badField, 11),
        (outside 1 6 (stagingByte m .chargeProfile 15), .badField, 13) ] ++
      (List.range (stagingByte m .chargeProfile 15)).map (fun n => (badBand m n, .badBand, 0x0100 + n)) ++
      crossChecks l c packCount)

/-! ### THERMAL (R163) -/

def readSlot (m : Memory) (n : Nat) : SlotConfig where
  enable := stagingByte m .thermal (16 + 8 * n) == 1
  kelvin := decide (2 ≤ n) && stagingByte m .thermal (17 + 8 * n) == 1
  critical := stagingSigned m .thermal (18 + 8 * n)
  fallback := stagingSigned m .thermal (20 + 8 * n)

def readThermal (m : Memory) : ThermalTable :=
  let b := stagingByte m .thermal
  { hysteresis := b 0, startMin := b 1, stallRpm := stagingWord m .thermal 2
    offThreshold := stagingSigned m .thermal 4
    tach0 := ⟨b 6, b 7 == 1⟩, tach1 := ⟨b 8, b 9 == 1⟩
    slots := (List.range 6).map (readSlot m) }

/-- R163: a slot. -/
def badSlot (m : Memory) (n : Nat) : Bool :=
  decide (1 < stagingByte m .thermal (16 + 8 * n)) ||
    (decide (2 ≤ n) && decide (1 < stagingByte m .thermal (17 + 8 * n))) ||
    outsideInt (-300) 1500 (readSlot m n).critical || outsideInt (-400) 1500 (readSlot m n).fallback

/-- R163. -/
def checkThermal (m : Memory) : Option (Reason × Nat) :=
  let b := stagingByte m .thermal
  firstFailure
    ([ (outside 0 10 (b 0), .badField, 1), (outside 1 50 (b 1), .badField, 2),
       (outside 60 3000 (stagingWord m .thermal 2), .badField, 3),
       (outsideInt (-40) 150 (stagingSigned m .thermal 4), .badField, 4), (outside 1 4 (b 6), .badField, 5),
       (decide (1 < b 7), .badField, 6), (outside 1 4 (b 8), .badField, 7), (decide (1 < b 9), .badField, 8) ] ++
      (List.range 6).map (fun n => (badSlot m n, .badSlot, 0x0100 + n)))

/-! ### FAN_CURVES (R165) -/

/-- R165: where a curve of a fan begins and where its point count stands; set 0 is OPEN, 1 CLOSED. -/
def curveCount (m : Memory) (f set : Nat) : Nat := stagingByte m .fanCurves (64 * f + 1 + set)
def curvePoint (m : Memory) (f set n : Nat) : CurvePoint where
  temp := stagingSigned m .fanCurves (64 * f + 4 + 24 * set + 3 * n)
  duty := stagingByte m .fanCurves (64 * f + 6 + 24 * set + 3 * n)

def readCurve (m : Memory) (f set : Nat) : List CurvePoint :=
  (List.range (min 8 (curveCount m f set))).map (curvePoint m f set)

def boundSlots (m : Memory) (f : Nat) : List Nat :=
  (List.range 6).filter fun n => stagingByte m .fanCurves (64 * f) / 2 ^ n % 2 == 1

def readFanCurve (m : Memory) (f : Nat) : FanCurve := ⟨boundSlots m f, readCurve m f 0, readCurve m f 1⟩
def readFanCurves (m : Memory) : FanCurves := ⟨readFanCurve m 0, readFanCurve m 1⟩

/-- R165: a failing point. -/
def badPoint (m : Memory) (f set n : Nat) : Bool :=
  let p := curvePoint m f set n
  outsideInt (-40) 150 p.temp || decide (100 < p.duty) ||
    (n != 0 && (decide (p.temp ≤ (curvePoint m f set (n - 1)).temp) ||
      decide (p.duty < (curvePoint m f set (n - 1)).duty)))

def curveChecks (m : Memory) (f set : Nat) : List Check :=
  (outside 2 8 (curveCount m f set), .badCurve, 0x0100 * f + 0x0010 * set + 0x000F) ::
    (List.range (curveCount m f set)).map
      (fun n => (badPoint m f set n, .badCurve, 0x0100 * f + 0x0010 * set + n))

def fanChecks (m : Memory) (f : Nat) : List Check :=
  (boundSlots m f == [], .noSlots, f) :: (curveChecks m f 0 ++ curveChecks m f 1)

/-- R165. -/
def checkFanCurves (m : Memory) (fanCount : Nat) : Option (Reason × Nat) :=
  firstFailure (fanChecks m 0 ++ (if fanCount = 2 then fanChecks m 1 else []))

/-! ### PLATFORM (R194) -/

def readWake (b : Nat) : WakeConfig where
  sleep := b % 2 == 1
  off := b / 2 % 2 == 1
  onLevel := b / 4 % 2 == 1
  expected := b / 8 % 2 == 1

def readPlatform (m : Memory) : PlatformTable :=
  let b := stagingByte m .platform
  { autoPowerOn := match b 0 with | 0 => .off | 1 => .on | _ => .strap
    longPress := b 1, heartbeatTimeout := b 2
    heartbeatAction := match b 3 with | 0 => .none | 1 => .resetHost | _ => .forceOff
    lid := readWake (b 4), acp := readWake (b 5), wakeAux := readWake (b 6)
    keySleep := b 7 % 2 == 1, keyOff := b 7 / 2 % 2 == 1 }

/-- R194. -/
def checkPlatform (m : Memory) : Option (Reason × Nat) :=
  let b := stagingByte m .platform
  firstFailure
    [ (outside 0 2 (b 0), .badField, 1), (outside 4 16 (b 1), .badField, 2), (outside 4 120 (b 2), .badField, 3),
      (outside 0 2 (b 3), .badField, 4), (outside 0 15 (b 4), .badField, 5), (outside 0 15 (b 5), .badField, 6),
      (outside 0 15 (b 6), .badField, 7), (outside 0 3 (b 7), .badField, 8) ]

/-! ### All tables (R192) -/

/-- R192, step 4: the validation of a staging copy by its owner. -/
def validate (t : TableId) (s : State) : Option (Reason × Nat) :=
  match t with
  | .keymap => checkKeymap s.mem (8 * s.power.straps.columns)
  | .pollA => checkPollList s.mem .pollA s.chg.profile s.power.straps.packCount
  | .pollB => checkPollList s.mem .pollB s.chg.profile s.power.straps.packCount
  | .chargeProfile => checkProfile s.mem s.engineA.list s.power.straps.packCount
  | .thermal => checkThermal s.mem
  | .fanCurves => checkFanCurves s.mem s.power.straps.fanCount
  | .platform => checkPlatform s.mem

end Sys2Proof.Machine
end

