-- ==== Sys2Proof/Machine/Thermal.lean ====
section
/-! DEFINITION. The thermal unit's slots, trips, adoption and update (R147 to R153, R162 to R168). -/
namespace Sys2Proof.Machine

/-! ### Slots (R148 to R151) -/

/-- One slot changed. -/
def setSlot (n : Nat) (x : Slot) (s : State) : State := { s with th := { s.th with slots := s.th.slots.set n x } }

/-- R151: the trip state and count after a stored reading. -/
def tripAfter (critical : Int) (x : Slot) : Slot :=
  if x.tripped then { x with tripped := decide (critical - 100 ≤ x.reading) }
  else if critical ≤ x.reading then
    (if 2 ≤ x.tripCount + 1 then { x with tripped := true, tripCount := 0 } else { x with tripCount := x.tripCount + 1 })
  else { x with tripCount := 0 }

/-- R148, R149: the slot after a good reading. -/
def slotRead (critical : Int) (t : Int) (x : Slot) : Slot :=
  tripAfter critical { x with state := .valid, reading := clampInt (-400) 1500 t, missCount := 0 }

/-- R148: the slot after OPEN or SHORT. -/
def slotFailed (x : Slot) : Slot := if x.state = .failed then x else { x with state := .failed, tripCount := 0 }

/-- R149: the slot after a miss. -/
def slotMissed (x : Slot) : Slot :=
  let m := min 3 (x.missCount + 1)
  if m = 3 ∧ (x.state = .valid ∨ x.state = .unknown) then { x with missCount := m, state := .stale, tripCount := 0 }
  else { x with missCount := m }

/-- R149: the slot that a new POLL_B list binds by no entry. -/
def slotUnbound (x : Slot) : Slot :=
  if x.state = .valid ∨ x.state = .unknown then { x with missCount := 3, state := .stale, tripCount := 0 }
  else { x with missCount := 3 }

/-- R150: the record of a change of slot state. -/
def slotEvent (old new : SlotState) : Option ThermalEvent :=
  match old, new with
  | .valid, .stale | .unknown, .stale => some .stale
  | .valid, .failed | .unknown, .failed => some .failed
  | .stale, .valid | .failed, .valid | .unknown, .valid => some .recovered
  | _, _ => none

/-- R151: the record of a change of trip state. -/
def tripEvent (old new : Bool) : Option ThermalEvent :=
  match old, new with
  | false, true => some .trip
  | true, false => some .clear
  | _, _ => none

def thermalNotice (n : Nat) (e : Option ThermalEvent) (s : State) : State :=
  match e with
  | some what => offer (.thermal n what) s
  | none => s

/-! ### Trips (R152) -/

/-- R152, step 1: the fans go to 100% when the trip becomes active; `before` is the condition before the event. -/
def raiseFans (before : Bool) (s : State) : State :=
  if s.tripActive && !before then raiseToFloor .fan1 (raiseToFloor .fan0 s) else s

/-- R152, steps 2 and 3: what the trip's becoming active hands on. -/
def tripBegins (s : State) : State := enterShutdown .thermal (setThermalCause true s)

/-- R10: a wake condition for OFF that is still true when the trip clears is taken at that moment. -/
def wakeAfterTrip (s : State) : State :=
  if s.power.state = .off ∧ offConditions s ≠ [] then takeWake [] s else s

/-- R152: the trip's end handed to the charge controller and then to the power controller. The flag stands in both fan records. -/
def tripEnds (s : State) : State := wakeAfterTrip (setThermalCause false s)

/-- R152: only a change of the condition acts; `before` is the condition before the event. -/
def tripChange (before : Bool) (s : State) : State :=
  if before = s.tripActive then s else if s.tripActive then tripBegins s else tripEnds s

/-- One event of a slot: its change, its records, the trip, and the update handed to the charge controller (log 42). A
stored reading is an update of the sensor record whether or not a field differs (R150). -/
def slotChange (n : Nat) (stored : Bool) (x : Slot) (s : State) : State :=
  let old := slotOf s n
  let s1 := updatingFans (fun y => raiseFans s.tripActive
    (if stored then publish (.sensor n) (setSlot n x y) else updating (.sensor n) (setSlot n x) y)) s
  let s2 := thermalNotice n (tripEvent old.tripped x.tripped) (thermalNotice n (slotEvent old.state x.state) s1)
  let s3 := tripChange s.tripActive s2
  if s.chg.profile.chargerSensor = some n then redecideDcs s3 else s3

/-- R148: a measurement of an enabled local slot. -/
def measureLocal (n : Nat) (m : Measurement) (s : State) : State :=
  if (slotConfig s n).enable then
    match m with
    | .temperature t => slotChange n true (slotRead (slotConfig s n).critical t (slotOf s n)) s
    | .openElement | .shortElement => slotChange n false (slotFailed (slotOf s n)) s
  else s

/-- R149: the conversion of a remote word. -/
def convertRemote (kelvin : Bool) (w : Nat) : Int :=
  if kelvin then (w : Int) - 2731 else signed16 w * 10 / 256

/-- R149: a SENSOR binding outcome; only an enabled slot takes it. -/
def sensorDelivery (n : Nat) (o : BusOutcome) (reason : SkipReason) (w : Nat) (s : State) : State :=
  let c := slotConfig s n
  if c.enable then
    match o with
    | .ok => slotChange n true (slotRead c.critical (convertRemote c.kelvin w) (slotOf s n)) s
    | .nackAddr | .nackData | .pecFail | .clockTimeout => slotChange n false (slotMissed (slotOf s n)) s
    | .skipped =>
      if reason = .sensorOff then s else slotChange n false (slotMissed (slotOf s n)) s
    | .never | .badCount | .portHalted | .busStuck | .short => s
  else s

/-- R149: the remote slots at an adoption of POLL_B. -/
def unbindSlots (l : PollList) : List Nat → State → State
  | [], s => s
  | n :: rest, s =>
    let bound := l.enable && l.entries.any (fun e => e.binding == .sensor n)
    unbindSlots l rest
      (if (slotConfig s n).enable && !bound then slotChange n false (slotUnbound (slotOf s n)) s else s)

/-! ### THERMAL adoption (R164) -/

/-- R164, steps 2 to 4: a slot under the new table. -/
def adoptSlot (wasOn on : Bool) (x : Slot) : Slot :=
  if on then
    (if wasOn then { x with tripCount := 0 } else { x with tripCount := 0, state := .unknown, missCount := 0 })
  else { x with tripCount := 0, state := .unknown, missCount := 0, tripped := false }

/-- R164, step 6. -/
def raiseToStart (startMin : Nat) (x : Fan) : Fan :=
  if 0 < x.duty ∧ x.duty < startMin then { x with duty := startMin } else x

/-- Whether a table enables a slot. -/
def slotOn (t : ThermalTable) (n : Nat) : Bool := (t.slots.getD n ⟨false, false, 0, 0⟩).enable

/-- R164: the fields an adoption changes. -/
def takeThermal (t : ThermalTable) (th : Thermal) : Thermal :=
  { th with
    table := t
    slots := th.slots.mapIdx fun n x => adoptSlot (slotOn th.table n) (slotOn t n) x
    fan0 := raiseToStart t.startMin th.fan0
    fan1 := raiseToStart t.startMin th.fan1 }

/-- An event that changes the sensor records. -/
def commitSensors (before : State) : List Nat → State → State
  | [], s => s
  | n :: rest, s => commitSensors before rest (commit (.sensor n) before s)

/-- R164, step 3: the CLEAR records of slots that the table disables while tripped, in slot order (DESIGN CHOICE, log 77). -/
def clearNotices (before : State) : List Nat → State → State
  | [], s => s
  | n :: rest, s =>
    clearNotices before rest (thermalNotice n (tripEvent (slotOf before n).tripped (slotOf s n).tripped) s)

def allSlots : List Nat := [0, 1, 2, 3, 4, 5]

/-- R164: adoption. -/
def adoptThermal (t : ThermalTable) (s : State) : State :=
  let s1 := commitSensors s allSlots (updatingFans (fun x => { x with th := takeThermal t x.th }) s)
  redecideDcs (tripChange s.tripActive (clearNotices s allSlots s1))

/-! ### The thermal update (R153, R166) -/

/-- R166, R193: at step 3 a waiting FAN_CURVES copy is adopted. -/
def adoptCurves (s : State) : State :=
  match loadSlot s .fanCurves with
  | none => s
  | some n =>
    completeSlot n .ok 0 [(1, [0#8])] { s with th := { s.th with curves := readFanCurves s.mem } }

/-- R156, R162: the seconds left as this update publishes them. -/
def refreshBoost (s : State) : State := { s with th := { s.th with boostLeft := boostSeconds s.th.boostMs } }

/-- R153, steps 2 to 5, in each step fan 0 before fan 1 (DESIGN CHOICE, log 76). -/
def fanUpdate (s : State) : State :=
  let s1 := adoptCurves (closeFan .fan1 (closeFan .fan0 s))
  let s2 := refreshBoost (driveFan s .fan1 (driveFan s .fan0 s1))
  openWindow .fan1 (openWindow .fan0 s2)

/-- R153: the thermal update, slot 0 measured before slot 1 (DESIGN CHOICE, log 75). -/
def thermalUpdate (m0 m1 : Measurement) (s : State) : State :=
  let s1 := measureLocal 1 m1 (measureLocal 0 m0 { s with th := { s.th with updateMs := 0 } })
  updatingFans fanUpdate s1

/-! ### Resets (R167, R168) -/

/-- R167, R168: the unit before the fans' first computation. Fan fields that R167 does not list are 0 (log 23; at a warm restart
DESIGN CHOICE, log 79). -/
def resetThermal (t : ThermalTable) (c : FanCurves) : Thermal :=
  { slots := List.replicate 6 ⟨.unknown, 0, false, 0, 0⟩
    fan0 := freshFan t.tach0, fan1 := freshFan t.tach1, boostMs := none, boostLeft := 0, updateMs := 0
    table := t, curves := c }

/-- R167: both duties computed from the fallback temperatures. -/
def startFans (s : State) : State := startFan .fan1 (startFan .fan0 s)

end Sys2Proof.Machine
end

