-- ==== Sys2Proof/Machine/Ports.lean ====
section
/-! DEFINITION. The side-bus ports (R57 to R80): port states, refusals, recovery, disabling, BUS_RESET, and the
transaction of each work unit. The poll engines and the arbiter's grants stand in Rounds.lean. -/
namespace Sys2Proof.Machine

/-- R124: the PORT cause follows port A. -/
def portCause (p : PortId) (b : Bool) (s : State) : State :=
  match p with
  | .a => setPortCause b s
  | .b => s

/-! ### Transactions of work units (R57, R74, R75, R76) -/

/-- R112: whether a work unit is a recovery step. -/
def isRecoveryStep : Work → Bool
  | .probe u => u.step == 1
  | .charger _ | .poll _ | .host _ => false

/-- R138: the transaction of a group; `second` is the later one. -/
def groupTransaction (g : WriteGroup) (second : Bool) : Transaction :=
  let currentNow := g.currentFirst != second
  { address := g.address, kind := .writeWord
    command := if currentNow then g.currentCommand else g.voltageCommand
    data := bytes16 (if currentNow then g.current else g.voltage), readLength := 0, pec := g.pec }

/-- R112: the transaction of a probe step. -/
def probeTransaction (u : ProbeUnit) : Transaction :=
  match u.step with
  | 2 => { address := u.address, kind := .quick, command := 0#8, data := [], readLength := 0, pec := u.pec }
  | 3 => { address := u.address, kind := .readBlock, command := u.command, data := [], readLength := 10, pec := u.pec }
  | _ => { address := u.address, kind := .readWord, command := u.command, data := [], readLength := 2, pec := u.pec }

/-- An entry of a poll list. -/
def entryOf (l : PollList) (n : Nat) : PollEntry :=
  l.entries.getD n ⟨0, .quick, 0#8, 0, 0#16, .every, false, .none, none⟩

/-- R83: the transaction of a poll entry. -/
def entryTransaction (l : PollList) (n : Nat) : Transaction :=
  let e := entryOf l n
  let t := targetOf l e.target
  { address := t.address, kind := e.kind, command := e.command, data := bytes16 e.writeValue.toNat,
    readLength := e.length, pec := t.pec }

/-- R57: the transaction kind codes of R181. -/
def kindOf : Nat → Option TxKind
  | 0 => some .quick
  | 1 => some .readWord
  | 2 => some .writeWord
  | 3 => some .readBlock
  | 4 => some .writeBlock
  | _ => none

/-- R76: the transaction a BUS_TRANSFER slot asks for. -/
def hostTransaction (s : State) (slot : Nat) : Transaction :=
  { address := slotParam s slot 1, kind := (kindOf (slotParam s slot 2)).getD .quick,
    command := BitVec.ofNat 8 (slotParam s slot 3)
    data := Memory.readList s.mem (slotBase slot + 32) (slotParam s slot 4)
    readLength := slotParam s slot 5, pec := slotParam s slot 6 != 0 }

/-- The transaction on the bus. -/
def workTransaction (s : State) (p : PortId) (w : Work) (second : Bool) : Transaction :=
  match w with
  | .charger g => groupTransaction g second
  | .probe u => probeTransaction u
  | .poll n => entryTransaction (s.engine p).list n
  | .host n => hostTransaction s n

/-! ### Host transfers (R76, R77) -/

/-- R76: the result of a transaction's outcome. -/
def resultOf : BusOutcome → Result
  | .ok => .ok
  | .nackAddr => .nackAddr
  | .nackData => .nackData
  | .pecFail => .pecFail
  | .clockTimeout => .clockTimeout
  | .badCount => .badCount
  | .never | .skipped | .portHalted | .busStuck | .short => .portHalted

/-- R76: a host transfer completes with its outcome and the bytes read. -/
def transferEnds (slot : Nat) (o : BusOutcome) (data : List Byte) (s : State) : State :=
  completeSlot slot (resultOf o) 0 [(8, [BitVec.ofNat 8 data.length]), (16, data)] s

/-- R62, R69: waiting host transfers refused, in posting order. -/
def refuseHosts (detail : Nat) : List Nat → State → State
  | [], s => s
  | n :: rest, s => refuseHosts detail rest (completeSlot n .portHalted detail [(8, [0#8])] s)

/-- R76: the checks of a BUS_TRANSFER, in order; the first that fails gives the detail. -/
def transferFault (s : State) (slot : Nat) : Option Nat :=
  let b := slotParam s slot
  if 1 < b 0 then some 1
  else if b 1 = 0 ∨ 127 < b 1 then some 2
  else
    match kindOf (b 2) with
    | none => some 3
    | some k =>
      let writeFits := match k with
        | .quick | .readWord | .readBlock => b 4 == 0
        | .writeWord => b 4 == 2
        | .writeBlock => !outside 1 32 (b 4)
      let readFits := match k with
        | .quick | .writeWord | .writeBlock => b 5 == 0
        | .readWord => b 5 == 2
        | .readBlock => !outside 1 32 (b 5)
      if writeFits = false then some 4
      else if readFits = false then some 5
      else if k = .quick ∧ b 6 ≠ 0 then some 6
      else none

/-- The port a request byte names. -/
def portOfNat (n : Nat) : PortId := if n = 0 then .a else .b

/-- R62, R69: the detail of PORT_HALTED. -/
def haltDetail : PortState → Nat
  | .disabled => 2
  | .idle | .busy | .recovering | .halted => 1

/-- R72, R76: a host transfer that passes its checks, its slot ACTIVE and held. -/
def offerTransfer (slot : Nat) (s : State) : State :=
  let p := portOfNat (slotParam s slot 0)
  match (s.port p).state with
  | .halted | .disabled => completeSlot slot .portHalted (haltDetail (s.port p).state) [(8, [0#8])] s
  | .idle | .busy | .recovering => offerWork p (.host slot) s

/-- R77: a waiting transfer withdrawn by a cancel; an emptied list clears the fairness count (R73). -/
def withdrawTransfer (p : PortId) (slot : Nat) (s : State) : State :=
  completeSlot slot .cancelled 0 [] (updatingPort p (fun x =>
    let rest := x.hosts.filter (· != slot)
    { x with hosts := rest, fairness := if rest = [] then 0 else x.fairness }) s)

/-! ### Refusing what waits (R62, R69) -/

/-- A waiting probe step handed back with PORT_HALTED. -/
def refuseProbes : List ProbeUnit → State → State
  | [], s => s
  | u :: rest, s => refuseProbes rest (probeStepEnd u .portHalted [] (probeBegun u.pack s))

/-- A waiting charger write group handed back with PORT_HALTED. -/
def refuseGroup : Option WriteGroup → State → State
  | none, s => s
  | some g, s => groupEnd g .portHalted s

/-- R70: a BUS_RESET under way completes. -/
def endBusReset (p : PortId) (r : Result) (detail : Nat) (s : State) : State :=
  match (s.port p).busReset with
  | none => s
  | some n => completeSlot n r detail [] (s.setPort p { s.port p with busReset := none })

/-- R62, R69, R73: the waiting lists emptied, with the fairness count. A waiting poll entry is handed back by the
arbiter (Rounds.lean). -/
def emptyLists (x : Port) : Port :=
  { x with charger := none, probes := [], hosts := [], fairness := if x.hosts = [] then x.fairness else 0 }

/-- R62, R69: everything that waits is refused; `old` is the port before the lists were emptied. -/
def refuseWaiting (p : PortId) (old : Port) (detail : Nat) (s : State) : State :=
  endBusReset p .busStuck detail
    (refuseProbes old.probes (refuseGroup old.charger (refuseHosts detail old.hosts s)))

/-- R62: entry to DISABLED. The waiting units are refused before PORT joins the inhibit set (DESIGN CHOICE, log 66). -/
def enterDisabled (p : PortId) (s : State) : State :=
  let old := s.port p
  portCause p true (refuseWaiting p old 2 (updatingPort p (fun x => { emptyLists x with
    state := .disabled, attempts := 0, retryMs := none, running := false, disableDue := false, granted := none
    starting := false, second := false }) s))

/-- R69: entry to HALTED after the third failed attempt, recorded by `f`. The waiting units are refused before PORT joins the
inhibit set (DESIGN CHOICE, log 66). -/
def enterHalted (p : PortId) (f : Port → Port) (s : State) : State :=
  let old := s.port p
  let s1 := updatingPort p (fun x => { emptyLists (f x) with
    state := .halted, attempts := 3, retryMs := some 0, running := false }) s
  portCause p true (refuseWaiting p old 1 (offer (.port p .halted) s1))

/-! ### Stuck buses (R64, R65, R67) -/

/-- R67: RECOVERING entered from IDLE or BUSY with the first attempt begun, and its STUCK record. -/
def enterRecovering (p : PortId) (cause : StuckCause) (f : Port → Port) (s : State) : State :=
  offer (.port p .stuck) (updatingPort p (fun x => { f x with
    state := .recovering, attempts := 0, running := true, stuck := cause, granted := none, starting := false
    second := false }) s)

/-- R65: a work unit that stuck data sends back to the head of its list. A newer group that waits replaces an older
one (R71), and a step of an abandoned probe is dropped (R114). -/
def sendBack (w : Work) (x : Port) : Port :=
  match w with
  | .charger g => { x with charger := some (x.charger.getD g) }
  | .probe u => if u.orphan then x else { x with probes := u :: x.probes }
  | .poll n => { x with poll := some n }
  | .host n => { x with hosts := n :: x.hosts }

/-- R65, R115: the record of a probe step that waits again. -/
def sentBack (w : Work) (s : State) : State :=
  match w with
  | .probe u => probeSentBack u s
  | .charger _ | .poll _ | .host _ => s

/-- R65: the data line found low before a transaction. A disable that waits for the unit then waits for the recovery attempt
(DESIGN CHOICE, log 59). -/
def stuckData (p : PortId) (w : Work) (s : State) : State :=
  enterRecovering p .dataLow (sendBack w) (sentBack w s)

/-- R63: whether the check of the lines finds the data line low while the clock is high. -/
def dataStuck (l : BusLine) : Bool := l.clock && !l.data

/-! ### Recovery attempts (R66 to R69, R75) -/

/-- R66: the pulses and the outcome of an attempt in the port record. -/
def noteAttempt (r : Nat × Bool) (x : Port) : Port :=
  { x with
    running := false, pulses := r.1, lastRecovery := if r.2 then .succeeded else .failed
    stuck := if r.2 then .none else x.stuck }

/-- R67, R69: a successful attempt. -/
def attemptSucceeds (p : PortId) (r : Nat × Bool) (s : State) : State :=
  let s1 := offer (.port p .recovered) (updatingPort p (fun x => { noteAttempt r x with
    state := .idle, attempts := 0, retryMs := none }) s)
  portCause p false (endBusReset p .ok 0 s1)

/-- R67: a failed attempt in RECOVERING. -/
def attemptFails (p : PortId) (r : Nat × Bool) (s : State) : State :=
  if 3 ≤ (s.port p).attempts + 1 then enterHalted p (noteAttempt r) s
  else updatingPort p (fun x => { noteAttempt r x with attempts := x.attempts + 1 }) s

/-- R69: a failed self-retry in HALTED. -/
def retryFails (p : PortId) (r : Nat × Bool) (s : State) : State :=
  updatingPort p (fun x => { noteAttempt r x with retryMs := some 0 }) s

/-- R62: the attempt is recorded without a PORT record and the port enters DISABLED. -/
def attemptThenDisabled (p : PortId) (r : Nat × Bool) (s : State) : State :=
  enterDisabled p (updatingPort p (noteAttempt r) s)

/-- R62, R72: the outcome of a work unit has been handed back: the port is IDLE, or DISABLED where that was due. -/
def unitDone (p : PortId) (s : State) : State :=
  if (s.port p).disableDue then enterDisabled p s else updatingPort p (fun x => { x with state := .idle }) s

/-- R75: the attempt of a recovery step ends; the port then is IDLE, RECOVERING with one failure, or DISABLED. A failed one on a port
about to be disabled gives DISABLED without a STUCK record and without DATA_LOW (DESIGN CHOICE, log 71). -/
def recoveryStepEnds (p : PortId) (u : ProbeUnit) (r : Nat × Bool) (s : State) : State :=
  let s1 := updatingPort p (fun x => { noteAttempt r x with granted := none }) s
  if r.2 then unitDone p (probeStepEnd u .ok [] s1)
  else
    let s2 := probeStepEnd u .busStuck [] s1
    if (s2.port p).disableDue then enterDisabled p s2
    else offer (.port p .stuck) (updatingPort p (fun x => { x with
      state := .recovering, attempts := 1, running := false, stuck := .dataLow }) s2)

/-- R66 to R69, R75: the end of the attempt in progress. -/
def attemptEnds (p : PortId) (r : Nat × Bool) (s : State) : State :=
  let x := s.port p
  match x.state, x.granted with
  | .recovering, _ =>
    if x.running then
      (if x.disableDue then attemptThenDisabled p r s
      else if r.2 then attemptSucceeds p r s else attemptFails p r s)
    else s
  | .halted, _ =>
    if x.running then
      (if x.disableDue then attemptThenDisabled p r s
      else if r.2 then attemptSucceeds p r s else retryFails p r s)
    else s
  | .busy, some (.probe u) => if x.running then recoveryStepEnds p u r s else s
  | _, _ => s

/-- R69: the retry timer of a HALTED port expires. -/
def retryBegins (p : PortId) (s : State) : State :=
  updatingPort p (fun x => { x with running := true, retryMs := none }) s

/-- R67, R87: the round start handed to the port. -/
def portRoundStart (p : PortId) (s : State) : State :=
  if (s.port p).state = .recovering ∧ (s.port p).running = false then
    updatingPort p (fun x => { x with running := true }) s
  else s

/-- R70: a BUS_RESET, its slot ACTIVE and held. -/
def busResetRequest (slot : Nat) (p : PortId) (s : State) : State :=
  if (s.port p).state = .halted then
    portCause p false (updatingPort p (fun x => { x with
      state := .recovering, attempts := 0, retryMs := none, running := true, busReset := some slot }) s)
  else completeSlot slot .ok 0 [] s

/-! ### The header of an adopted list (R57, R62) -/

/-- R62: what an adopted list with the port off does. -/
def disablePort (p : PortId) (s : State) : State :=
  let x := s.port p
  let later := s.setPort p { x with disableDue := true }
  match x.state with
  | .disabled => s
  | .idle => enterDisabled p s
  | .busy => later
  | .recovering | .halted => if x.running then later else enterDisabled p s

/-- R62: what an adopted list with the port on does. A disable that still waits for the unit or attempt in progress is cancelled
(DESIGN CHOICE, log 58). -/
def enablePort (p : PortId) (s : State) : State :=
  if (s.port p).state = .disabled then
    portCause p false (updatingPort p (fun x => { x with state := .idle, attempts := 0 }) s)
  else s.setPort p { s.port p with disableDue := false }

/-- R97, step 4: the port takes the new header. -/
def takeHeader (p : PortId) (l : PollList) (s : State) : State :=
  let s1 := updatingPort p (fun x => { x with fast := l.fast, clockLow := l.clockLow }) s
  if l.enable then enablePort p s1 else disablePort p s1

/-! ### Resets (R79, R80) -/

/-- R79, R80: a port with its state from the active list. Neither rule says what a warm restart does to last_target, last_kind and
last_outcome: cleared there too (DESIGN CHOICE, log 79; at the other resets R182 zeroes them, log 23). -/
def resetPort (l : PollList) : Port :=
  { state := if l.enable then .idle else .disabled, attempts := 0, running := false, stuck := .none,
    lastRecovery := .none, pulses := 0, charger := none, probes := [], poll := none, hosts := [], granted := none,
    starting := false, second := false, fairness := 0, retryMs := none, fast := l.fast, clockLow := l.clockLow
    disableDue := false, busReset := none, lastTarget := 0, lastKind := .quick, lastOutcome := .never }

end Sys2Proof.Machine
end

