-- ==== Sys2Proof/Machine/Rounds.lean ====
section
/-! DEFINITION. The poll engines (R81 to R100) and the arbiters (R71 to R74): rounds, entries, watches, adoption of a
poll list, the end of a work unit, the begin of its work on the bus, the end of a command. -/
namespace Sys2Proof.Machine

/-! ### Intervals and due entries (R87, R88, R91) -/

/-- R91: the interval for the present power and charge state. -/
def intervalFor (s : State) (l : PollList) : Nat :=
  let charging := s.chg.state == .charging || s.chg.state == .holding
  match s.power.state with
  | .run | .waking => l.runMs
  | .suspending | .sleep => if charging then l.chargingMs else l.sleepMs
  | .shuttingDown | .off => if charging then l.chargingMs else l.offMs

/-- R87: whether an entry is due in a round. -/
def isDue (e : PollEntry) (round : Nat) : Bool :=
  match e.period with
  | .every => true
  | .fourth => round % 4 == 0
  | .sixteenth => round % 16 == 0

/-- R88: why the engine itself skips an entry. -/
def skipReason (s : State) (p : PortId) (e : PollEntry) : SkipReason :=
  let x := s.engine p
  let off : Bool := match (targetOf x.list e.target).pack with
    | some k => (s.pack k).state != .online
    | none => false
  let dark : Bool := match e.binding with
    | .sensor n => !(slotConfig s n).enable
    | .none | .raw _ | .pack _ _ | .charger _ => false
  if off then .packState else if dark then .sensorOff
  else if x.skipTargets.contains e.target then .target else .none

/-! ### Deliveries, rows and watches (R84, R89, R93 to R96) -/

/-- R93: the first 16 bits of a read. -/
def firstBits (data : List Byte) : Nat := wordOf data

/-- R94: the bytes a RAW delivery writes. -/
def rawBytes (e : PollEntry) (data : List Byte) : List Byte :=
  match e.kind with
  | .readBlock => BitVec.ofNat 8 data.length :: (data ++ List.replicate (e.length - data.length) 0#8)
  | .quick | .readWord | .writeWord | .writeBlock => data

/-- R84: whether a kind reads. -/
def isRead : TxKind → Bool
  | .readWord | .readBlock => true
  | .quick | .writeWord | .writeBlock => false

/-- R89, step 1. -/
def deliver (e : PollEntry) (o : BusOutcome) (reason : SkipReason) (data : List Byte) (s : State) : State :=
  match e.binding with
  | .none => s
  | .raw offset => if o = .ok then storeBytes (0x0E00 + offset) (rawBytes e data) s else s
  | .pack k f => packDelivery k f o (wordOf data) s
  | .charger f => chargerDelivery f o (wordOf data) s
  | .sensor n => sensorDelivery n o reason (wordOf data) s

/-- R90: the fields delivered with OK in the round. -/
def refresh (e : PollEntry) (o : BusOutcome) (r : Refreshed) : Refreshed :=
  if o = .ok then
    match e.binding with
    | .pack k f => { r with packs := r.packs ++ [(k, f)] }
    | .charger f => { r with charger := r.charger ++ [f] }
    | .none | .raw _ | .sensor _ => r
  else r

/-- R93: the value a row keeps. -/
def rowValue (e : PollEntry) (o : BusOutcome) (data : List Byte) (old : Nat) : Nat :=
  if o = .ok then
    match e.kind with
    | .readWord | .readBlock => firstBits data
    | .writeWord => e.writeValue.toNat
    | .quick | .writeBlock => old
  else old

/-- R89, step 2, with the refreshed fields of step 1. -/
def writeRow (n : Nat) (e : PollEntry) (o : BusOutcome) (reason : SkipReason) (data : List Byte) (x : Engine) : Engine :=
  let old := x.rows.getD n neverRow
  { x with
    refreshed := refresh e o x.refreshed
    rows := x.rows.set n { old with
      outcome := o, skip := reason, round := x.number, lastValue := rowValue e o data old.lastValue } }

/-- R95: whether a watch's condition holds of a value. -/
def watchHolds (w : Watch) (v : Nat) : Bool :=
  let same := (BitVec.ofNat 16 v &&& w.mask) == w.value
  if w.notEqual then !same else same

/-- The watch result of a row. -/
def setWatchResult (n : Nat) (r : WatchResult) (x : Engine) : Engine :=
  { x with rows := x.rows.set n { x.rows.getD n neverRow with watch := r } }

/-- R95, R96, at step 3 of R89. -/
def evaluateWatch (p : PortId) (n : Nat) (w : Watch) (v : Nat) (s : State) : State :=
  let old := ((s.engine p).rows.getD n neverRow).watch
  if watchHolds w v then
    let s1 := s.setEngine p (setWatchResult n .isTrue (s.engine p))
    if old = .isTrue then s1
    else
      let s2 := offer (.watch p n v) s1
      if w.evaluate then evaluate s2 else s2
  else s.setEngine p (setWatchResult n .isFalse (s.engine p))

/-- R89, step 3. -/
def watchStep (p : PortId) (n : Nat) (e : PollEntry) (o : BusOutcome) (data : List Byte) (s : State) : State :=
  match e.watch with
  | none => s
  | some w => if o = .ok ∧ isRead e.kind = true then evaluateWatch p n w (firstBits data) s else s

/-- R89, step 4. -/
def errorPolicy (e : PollEntry) (o : BusOutcome) (x : Engine) : Engine :=
  if (o = .nackAddr ∨ o = .nackData) ∧ e.skipTarget = true then { x with skipTargets := e.target :: x.skipTargets } else x

/-- R89, steps 1 to 4: an entry ends. -/
def entryEnd (p : PortId) (n : Nat) (o : BusOutcome) (reason : SkipReason) (data : List Byte) (s : State) : State :=
  let e := entryOf (s.engine p).list n
  let s1 := deliver e o reason data s
  let s2 := s1.setEngine p (writeRow n e o reason data (s1.engine p))
  let s3 := watchStep p n e o data s2
  s3.setEngine p (errorPolicy e o (s3.engine p))

/-! ### Adoption (R97) -/

/-- The poll table of a port. -/
def pollTable : PortId → TableId
  | .a => .pollA
  | .b => .pollB

/-- R97, steps 2, 5 and 6: list and rows. -/
def takeList (l : PollList) (x : Engine) : Engine :=
  { x with list := l, rows := List.replicate 32 neverRow }

/-- R97, last table, row OFF: STOPPED. The interval and the overrun flag keep their last values (DESIGN CHOICE, log 60). -/
def stopEngine (x : Engine) : Engine := { x with round := .stopped, timerMs := none, held := false }

/-- R97, R149: what an adoption of POLL_B means to the remote slots, taken in slot order (DESIGN CHOICE, log 72). -/
def unboundSlots (p : PortId) (l : PollList) (s : State) : State :=
  match p with
  | .a => s
  | .b => unbindSlots l [2, 3, 4, 5] s

/-- R86, R97: a waiting or just validated copy reaches its adoption point; the Bool says whether it was adopted. -/
def adoptList (p : PortId) (slot : Nat) (s : State) : State × Bool :=
  let l := readPollList s.mem (pollTable p)
  match (if p = .a then crossCheck l s.chg.profile s.power.straps.packCount else none) with
  | some (r, d) => (completeSlot slot .tableInvalid d [(1, [BitVec.ofNat 8 r.code])] s, false)
  | none =>
    let s1 := completeSlot slot .ok 0 [(1, [0#8])] (s.setEngine p (takeList l (s.engine p)))
    let s2 := unboundSlots p l (takeHeader p l s1)
    (if l.enable then s2 else updating (.port p) (fun x => x.setEngine p (stopEngine (x.engine p))) s2, true)

/-- R91, R97: the round timer restarted with the active list's interval; the engine is WAITING. -/
def restartInterval (p : PortId) (s : State) : State :=
  updating (.port p) (fun x => x.setEngine p { x.engine p with
    round := .waiting, timerMs := some 0, interval := intervalFor x (x.engine p).list }) s

/-! ### Rounds (R87, R88, R90) -/

/-- R131: whether a round end runs an evaluation. -/
def evaluationDue (c : Charge) (r : Refreshed) : Bool :=
  r.charger.contains .systemCurrent ||
    match c.selected with
    | some k => r.packs.contains (k, .reqCurrent)
    | none => false

/-- R90, step 1: the round end of POLL_A, to the pack monitor first (R131). -/
def handRoundEnd (p : PortId) (s : State) : State :=
  match p with
  | .b => s
  | .a =>
    let s1 := packRoundEnd s
    if evaluationDue s1.chg s1.engineA.refreshed then evaluate s1 else s1

/-- R90, steps 3 and 4: the flag of the round before, then the held start or WAITING; `adopted` restarts the timer. -/
def afterBoundary (p : PortId) (adopted : Bool) (start : State → State) (s : State) : State :=
  let s1 := s.setEngine p { s.engine p with prevOverrun := (s.engine p).overrun }
  let x := s1.engine p
  if x.round = .stopped then s1
  else if x.held then start s1
  else if adopted then restartInterval p s1
  else updating (.port p) (fun y => y.setEngine p { y.engine p with round := .waiting }) s1

/-- R90: the round boundary; `start` takes a held start. -/
def boundary (start : State → State) (p : PortId) (s : State) : State :=
  let s1 := handRoundEnd p s
  match loadSlot s1 (pollTable p) with
  | none => afterBoundary p false start s1
  | some slot => afterBoundary p (adoptList p slot s1).2 start (adoptList p slot s1).1

/-- R72, R88: an entry offered to the arbiter. -/
def offerEntry (p : PortId) (n : Nat) (s : State) : State :=
  offerWork p (.poll n) (s.setEngine p { s.engine p with position := n, offered := true })

/-- R68, R69: whether the port takes poll entries. -/
def takesPoll : PortState → Bool
  | .idle | .busy => true
  | .disabled | .recovering | .halted => false

/-- R88, R89: the entries from number `n` on; `finish` is the boundary. -/
def takeEntries (p : PortId) (finish : State → State) : Nat → List PollEntry → State → State
  | _, [], s => finish s
  | n, e :: rest, s =>
    if isDue e (s.engine p).number then
      if skipReason s p e ≠ .none then
        takeEntries p finish (n + 1) rest (entryEnd p n .skipped (skipReason s p e) [] s)
      else if takesPoll (s.port p).state then offerEntry p n s
      else takeEntries p finish (n + 1) rest (entryEnd p n .skipped .port [] s)
    else takeEntries p finish (n + 1) rest s

/-- R87, steps 1 to 3; `number` is the round's number. -/
def beginRound (number : Nat) (s : State) (x : Engine) : Engine :=
  { x with
    round := .running, number := number, interval := intervalFor s x.list, timerMs := some 0, held := false
    overrun := false, position := 0, offered := false, skipTargets := [], refreshed := ⟨[], []⟩ }

/-- R87: a round starts; `finish` is its boundary when no entry is offered. R72, R87 and R111 do not order a retry probe that is due
and the first poll entry: on port A the probe is offered first (DESIGN CHOICE, log 81). -/
def startRound (finish : State → State) (p : PortId) (number : Nat) (s : State) : State :=
  let s1 := updating (.port p) (fun x => x.setEngine p (beginRound number x (x.engine p))) s
  let s2 := portRoundStart p s1
  let s3 := match p with
    | .a => packRoundStart s2
    | .b => s2
  takeEntries p finish 0 (s3.engine p).list.entries s3

/-- R87: the next round number. -/
def nextNumber (s : State) (p : PortId) : Nat := ((s.engine p).number + 1) % 65536

/-- R90: the boundary of a round that holds no start. -/
def lastBoundary (p : PortId) (s : State) : State := boundary id p s

/-- R90, R92: a boundary that takes a held start; the round it starts holds none. -/
def roundBoundary (p : PortId) (s : State) : State :=
  boundary (fun x => startRound (lastBoundary p) p (nextNumber x p) x) p s

/-- R87: a round started by the timer or by an adoption. -/
def nextRound (p : PortId) (s : State) : State := startRound (lastBoundary p) p (nextNumber s p) s

/-- R99, R100: round 0 after a reset, when the list enables the port. -/
def firstRound (p : PortId) (s : State) : State :=
  if (s.engine p).list.enable then startRound (lastBoundary p) p 0 s else s

/-- R89, step 5: the entries after the one that has ended. -/
def nextEntries (p : PortId) (n : Nat) (s : State) : State :=
  let s1 := s.setEngine p { s.engine p with offered := false, position := n + 1 }
  takeEntries p (roundBoundary p) (n + 1) ((s1.engine p).list.entries.drop (n + 1)) s1

/-- R89: an offered entry ends. -/
def offeredEnds (p : PortId) (n : Nat) (o : BusOutcome) (reason : SkipReason) (data : List Byte) (s : State) : State :=
  nextEntries p n (entryEnd p n o reason data s)

/-- R92: the round timer expires while the round runs. -/
def overrun (p : PortId) (s : State) : State :=
  let s1 := updating (.port p) (fun x => x.setEngine p { x.engine p with
    held := true, overrun := true, timerMs := none }) s
  if (s.engine p).prevOverrun then s1 else offer (.port p .overrun) s1

/-- R97: adoption at once, in WAITING or STOPPED. -/
def adoptNow (p : PortId) (slot : Nat) (s : State) : State :=
  let stopped := (s.engine p).round == .stopped
  let r := adoptList p slot s
  if r.2 ∧ (r.1.engine p).list.enable then
    (if stopped then nextRound p r.1 else restartInterval p r.1)
  else r.1

/-- R97: a validated poll list: adopted at once, or held until the boundary. -/
def loadList (p : PortId) (slot : Nat) (s : State) : State :=
  if (s.engine p).round = .running then s else adoptNow p slot s

/-! ### The end of a work unit (R63, R72, R74) -/

/-- R72, steps 1 and 2: the outcome handed to the unit that offered the work. -/
def handOutcome (p : PortId) (w : Work) (o : BusOutcome) (data : List Byte) (s : State) : State :=
  match w with
  | .charger g => groupEnd g o s
  | .probe u => probeStepEnd u o data s
  | .poll n => offeredEnds p n o .none data s
  | .host n => transferEnds n o data s

/-- R78: the last transaction in the port record. -/
def noteTransaction (t : Transaction) (o : BusOutcome) (x : Port) : Port :=
  { x with lastTarget := t.address, lastKind := t.kind, lastOutcome := o }

/-- R62, R63, R64: what follows the handed outcome. -/
def afterUnit (p : PortId) (o : BusOutcome) (s : State) : State :=
  if o = .clockTimeout ∧ (s.port p).disableDue = false then enterRecovering p .clockLow id s else unitDone p s

/-- R72: a work unit ends with its transaction's outcome. The port stays BUSY while the outcome is handed over, so that the work
offered in reply waits for the grant made from all that waits then. -/
def unitEnds (p : PortId) (w : Work) (t : Transaction) (o : BusOutcome) (data : List Byte) (s : State) : State :=
  let s1 := updatingPort p (fun x => { noteTransaction t o x with
    state := .busy, granted := none, starting := false, second := false }) s
  afterUnit p o (handOutcome p w o data s1)

/-- R63, R74: the second transaction of a group begins after its check of the lines. -/
def secondBegins (p : PortId) (w : Work) (t : Transaction) (s : State) : State :=
  let s1 := updatingPort p (fun x => { noteTransaction t .ok x with second := true }) s
  if dataStuck (s1.line p) then stuckData p w s1 else s1

/-- R74: whether a group still has its second transaction to make. -/
def groupGoesOn (w : Work) (second : Bool) (o : BusOutcome) : Bool :=
  match w with
  | .charger _ => !second && o == .ok
  | .probe _ | .poll _ | .host _ => false

/-- R58, R63, R72: a transaction ends. -/
def transactionEnds (p : PortId) (w : Work) (r : TransactionResult) (s : State) : State :=
  match r with
  | .dataFoundLow => stuckData p w s
  | .ran reply =>
    let t := workTransaction s p w (s.port p).second
    let x := transactionOutcome t reply
    if groupGoesOn w (s.port p).second x.1 then secondBegins p w t s else unitEnds p w t x.1 x.2 s

/-- R64: the transaction in progress ends with CLOCK_TIMEOUT. -/
def clockTimesOut (p : PortId) (w : Work) (s : State) : State :=
  unitEnds p w (workTransaction s p w (s.port p).second) .clockTimeout [] s

/-! ### The begin of a unit's work, and the arbiter at the end of a command (R63, R72, R75) -/

/-- R75: the recovery step of a probe: done at once while both lines are high, otherwise an attempt begins (log 43). -/
def recoveryStep (p : PortId) (u : ProbeUnit) (s : State) : State :=
  if (s.line p).clock && (s.line p).data then
    unitDone p (probeStepEnd u .ok [] (updatingPort p (fun x => { x with granted := none }) s))
  else updatingPort p (fun x => { x with running := true }) s

/-- R63, R75: the work of a granted unit begins on the bus, with the check of the lines. -/
def beginWork (p : PortId) (s : State) : State :=
  let s1 := s.setPort p { s.port p with starting := false }
  match (s.port p).granted with
  | none => s1
  | some w =>
    match w with
    | .probe u =>
      if u.step = 1 then recoveryStep p u s1
      else if dataStuck (s1.line p) then stuckData p w s1 else s1
    | .charger _ | .poll _ | .host _ => if dataStuck (s1.line p) then stuckData p w s1 else s1

/-- R65, R68, R69: a waiting poll entry is handed back while the port takes none. -/
def handBack (p : PortId) (n : Nat) (s : State) : State :=
  offeredEnds p n .skipped .port [] (s.setPort p { s.port p with poll := none })

/-- R72: a grant, made while the port is IDLE and something waits. -/
def grantNow (p : PortId) (s : State) : State :=
  if (s.port p).state = .idle then
    match chooseWork (s.port p) with
    | some (w, x) => grantNotice w (updatingPort p (fun _ => putOnBus w x) s)
    | none => s
  else s

/-- R72: one action of the arbiter at the end of a command: the work granted begins, a poll entry is handed back, or a grant is
made. -/
def arbiterStep (p : PortId) (s : State) : State :=
  let x := s.port p
  if x.starting then beginWork p s
  else
    match x.poll with
    | some n => if takesPoll x.state then grantNow p s else handBack p n s
    | none => grantNow p s

/-- R72: the arbiter acts until the work of a unit is on the bus or nothing waits. Eight actions are enough: three grants, the
three begins, two of them of recovery steps done at once, a begin that finds stuck data, and a hand-back (log 10). -/
def service (p : PortId) (s : State) : State :=
  let two : State → State := fun x => arbiterStep p (arbiterStep p x)
  two (two (two (two s)))

/-! ### The end of a command (log 10) -/

/-- Both arbiters. -/
def servicePorts (s : State) : State := service .b (service .a s)

/-- The grants, the conditions the power controller decides from levels, the grants that follow from them, and the updates of the
keyboard and port records that the event owes (R50, R78). -/
def settle (s : State) : State := publishDue (servicePorts (powerSettle (servicePorts s)))

/-! ### Resets (R99, R100) -/

/-- R99: an engine before round 0. The interval is 0 and the overrun flag clear until a round starts (DESIGN CHOICE, log 60). -/
def resetEngine (l : PollList) : Engine :=
  { list := l, round := .stopped, number := 0, timerMs := none, interval := 0, held := false, overrun := false,
    prevOverrun := false, position := 0, offered := false, skipTargets := [], refreshed := ⟨[], []⟩,
    rows := List.replicate 32 neverRow }

end Sys2Proof.Machine
end

