-- ==== Sys2Proof/Machine/Restart.lean ====
section
/-! DEFINITION. The four ways of starting again (R27 to R29, R55, R56, R79, R80, R99, R100, R121, R122, R145, R146, R167,
R168, R182, R183, R196, R197, R204, R205): cold start, pin reset, combination restart and warm restart. -/
namespace Sys2Proof.Machine

/-! ### Cold start, pin reset and combination restart -/

/-- R27: the power controller at cold start, pin reset and combination restart; what these differ in is given. -/
def resetPower (levels : InputLevels) (image : StrapImage) (shutdownCause : Cause) : Power :=
  { levels := levels, counts := ⟨none, none, none, none, none, none⟩, state := .off, step := .none, stepMs := 0,
    seenStby := false, seenMain := false, timedOut := false, seqCause := .none, enStby := false, enMain := false,
    hrstAsserted := true, cause := .none, shutdownCause := shutdownCause, delay := none,
    snapshot := ⟨levels.lid, levels.acp, levels.wakeAux⟩, pendingWake := [], wakeFactors := [], wakeFirst := none,
    heldMs := none, reported := false, comboMs := none, ignore := false, heartbeat := .disarmed, heartbeatMs := 0,
    pulseMs := none, graceMs := none, straps := image, table := romPlatform }

/-- R182: the window logic. -/
def resetLink : Link :=
  { windowCtrl := 0#32, alertCause := 0#32, alertEnable := 0#32, partTime := 0#32, lastProtocol := 0xFFFF#16,
    gens := List.replicate 17 0#16 }

/-- R205. -/
def resetQueue : Queue := { write := 0, read := 0, stale := emptyStale }

/-- R121: the two pack selections' state; DSG_SEL keeps its value but at cold start. -/
def resetDischarge (selected : Option PackId) : Discharge :=
  { selected := selected, settleMs := none, critical := false }

/-- R167, R145: the fans' first duties, then the charge controller, whose D_cs looks at the sensor slots. -/
def startUnits (profile : ChargeProfile) (mode : ChargeMode) (s : State) : State :=
  let s1 := startFans s
  { s1 with chg := resetCharge s1 profile mode }

/-- The reset values of every unit, from the levels, the strap image, the kept shutdown_cause and DSG_SEL. The choices
of order and the queue of commands are the model's own and stay. -/
def resetValues (image : StrapImage) (shutdownCause : Cause) (selected : Option PackId) (s : State) : State :=
  startUnits romChargeProfile .full
    { s with
      inReset := false, mem := [], link := resetLink, queue := resetQueue, posted := []
      power := resetPower (seedLevels s.pins.inputs image) image shutdownCause
      kbd := resetKeyboard romKeymap
      portA := resetPort romPollA, portB := resetPort romPollB
      engineA := resetEngine romPollA, engineB := resetEngine romPollB
      pack0 := resetPack, pack1 := resetPack, dsg := resetDischarge selected
      th := resetThermal romThermal romFanCurves, due := noneDue }

/-- R121, R122: the presence levels handed over as the initial levels, pack 0 first (DESIGN CHOICE, log 63). -/
def handPresence (s : State) : State :=
  let one : PackId → State → State := fun k x => if x.seated k then presenceRise k x else x
  one .pack1 (one .pack0 s)

/-- What every unit does once it holds its reset values: scan mode, evaluation, presence, discharge selection, round 0
(the order among units is the model's, log 44). -/
def beginAgain (s : State) : State :=
  firstRound .b (firstRound .a (dischargeDecision (handPresence (evaluate (scanModeDecision s)))))

/-- R27: auto power-on at cold start. -/
def autoPowerOn (s : State) : State :=
  if autoPowerOnInEffect s && s.adapterIn then powerOn .autoOn s else s

/-- R27, R121: cold start with the given levels. DSG_SEL is NONE before its first decision, so the selection of a pack there is a
change that starts the settle timer (DESIGN CHOICE, log 84). -/
def coldStart (pins : PinLevels) (s : State) : State :=
  autoPowerOn (beginAgain (resetValues (sampleStraps pins.straps) .none none { s with pins := pins }))

/-- R28, R19: pin reset and combination restart, from the levels standing on the pins. -/
def restartFromPins (s : State) : State :=
  beginAgain (resetValues (resampleStraps s.power.straps s.pins.straps) s.power.shutdownCause s.dsg.selected s)

/-- R28: RESET_N is driven low. -/
def assertReset (s : State) : State :=
  { s with
    inReset := true
    power := { s.power with enStby := false, enMain := false, hrstAsserted := true } }

/-- R28: RESET_N rises, with the strap and line levels then standing. -/
def releaseReset (straps : StrapPins) (lineA lineB : BusLine) (s : State) : State :=
  restartFromPins { s with pins := { s.pins with straps := straps, lineA := lineA, lineB := lineB } }

/-- R19: whether a combination shutdown has just reached OFF; `before` is the power state before the event. -/
def combinationOff (before : PowerState) (s : State) : Bool :=
  before != .off && s.power.state == .off && s.power.seqCause == .combination

/-- R19: an event that may end a combination shutdown, with the restart that then follows. -/
def withCombinationRestart (f : State → State) (s : State) : State :=
  let s1 := f s
  if combinationOff s.power.state s1 then restartFromPins s1 else s1

/-! ### Warm restart -/

/-- R29: the power controller at warm restart; every running timer begins again. -/
def restartPower (p : Power) : Power :=
  { p with
    stepMs := 0, delay := p.delay.map fun d => { d with elapsed := 0 }
    heldMs := restartTimer p.heldMs, comboMs := restartTimer p.comboMs, graceMs := restartTimer p.graceMs
    pulseMs := restartTimer p.pulseMs, heartbeat := .disarmed, heartbeatMs := 0, reported := false }

/-- R196, step 1: a slot other than the restart slot. -/
def freeSlot (restart n : Nat) (s : State) : State :=
  if n ≠ restart ∧ (slotState s n = slotPosted ∨ slotState s n = slotActive ∨ slotState s n = slotCancel) then
    setSlotState n slotFree s
  else s

/-- R196, step 1, over slots 0 to `n` − 1. -/
def freeSlots (restart : Nat) : Nat → State → State
  | 0, s => s
  | n + 1, s => freeSlot restart n (freeSlots restart n s)

/-- R183: the window logic at warm restart. -/
def restartLink (l : Link) : Link := { l with alertCause := 0#32, partTime := 0#32 }

/-- R29, R56, R80, R100, R122, R146, R168: every unit's values at warm restart. -/
def warmValues (s : State) : State :=
  startUnits s.chg.profile s.chg.mode
    { s with
      power := restartPower s.power, kbd := resetKeyboard s.kbd.keymap
      portA := resetPort s.engineA.list, portB := resetPort s.engineB.list
      engineA := resetEngine s.engineA.list, engineB := resetEngine s.engineB.list
      pack0 := restartPack s.pack0, pack1 := restartPack s.pack1
      dsg := { s.dsg with settleMs := none }
      th := resetThermal s.th.table s.th.curves }

/-- R162: the records that a warm restart rewrites; an absent fan's record is not updated. -/
def rewrittenRecords (s : State) : List Rec :=
  [.platform, .pack .pack0, .pack .pack1, .charger, .sensor 0, .sensor 1, .sensor 2, .sensor 3, .sensor 4, .sensor 5,
    .fan .fan0] ++ (if s.fanPresent .fan1 then [.fan .fan1] else []) ++
  [.keyboard, .port .a, .port .b, .probe .pack0, .probe .pack1]

/-- R183: updates of several records; those of the keyboard and port records are made with the restart's other changes of them. -/
def publishAll : List Rec → State → State
  | [], s => s
  | r :: rest, s => publishAll rest (announce r s)

/-- R183, R204: the queue emptied, then the RESYNC of all four classes. -/
def restartQueue (s : State) : State := placeResync (setStale allStale (emptyQueue s))

/-- R146, R124: the port hands its state to the charge controller afresh (log 25). -/
def handPortState (s : State) : State := if s.portA.state = .disabled then setPortCause true s else s

/-- R196, R183: the warm restart taken with the post of a slot. -/
def warmRestart (slot : Nat) (s : State) : State :=
  let s1 := freeSlots slot 16 { s with link := restartLink s.link, posted := [] }
  let s2 := restartQueue (publishAll (rewrittenRecords s1) (warmValues s1))
  let s3 := handPortState (evaluate (scanModeDecision (completeSlot slot .ok 0 [] s2)))
  firstRound .b (firstRound .a (dischargeDecision (handPresence s3)))

end Sys2Proof.Machine
end

