-- ==== Sys2Proof/Machine/ResetCommands.lean ====
section
/-! DEFINITION. The meanings of COLD_START, PIN_RESET_ASSERT and PIN_RESET_RELEASE, and the two shapes that every other
meaning has: an event of the running part, with or without the settling that follows it. -/
namespace Sys2Proof.Machine

/-- The answer of every meaning. -/
abbrev Answer := Host.Outcome State Fault Refusal

/-- An event of the running part; while RESET_N is low there is none (R28; log 7). -/
def quiet (f : State → State) (s : State) : Answer := .next (if s.inReset then s else f s)

/-- An event of the running part after which the arbiters grant and the levels are looked at again (log 10). -/
def event (f : State → State) (s : State) : Answer := quiet (fun x => settle (f x)) s

/-- An event that is due only under a condition; where it does not hold nothing happens (log 2). -/
def when_ (due : Bool) (f : State → State) (s : State) : State := if due then f s else s

/-- COLD_START (R27). -/
def execColdStart (pins : PinLevels) (s : State) : Answer := .next (settle (coldStart pins s))

/-- PIN_RESET_ASSERT (R28). -/
def execPinResetAssert (s : State) : Answer := .next (assertReset s)

/-- PIN_RESET_RELEASE (R28); it is due while RESET_N is low. -/
def execPinResetRelease (straps : StrapPins) (lineA lineB : BusLine) (s : State) : Answer :=
  .next (if s.inReset then settle (releaseReset straps lineA lineB s) else s)

end Sys2Proof.Machine
end

