-- ==== Sys2Proof/Machine/BusCommands.lean ====
section
/-! DEFINITION. The meanings of the side-bus commands: TRANSACTION_END, CLOCK_TIMEOUT, RECOVERY_ATTEMPT_END,
HALT_RETRY_EXPIRY, ROUND_START, ROUND_OVERRUN and SETTLE_TIMER_EXPIRY (R58, R64, R67, R69, R87, R92, R119). -/
namespace Sys2Proof.Machine

/-- R57, R75: the work unit whose transaction is on the bus; none while a recovery step runs its attempt. -/
def onBus (s : State) (p : PortId) : Option Work :=
  if (s.port p).state == .busy && !(s.port p).running then (s.port p).granted else none

/-- R58: the transaction on the bus ends; `line` is what the next check of the lines finds (log 6). -/
def transactionEnd (p : PortId) (r : TransactionResult) (line : BusLine) (s : State) : State :=
  match onBus s p with
  | none => s
  | some w => transactionEnds p w r (s.setLine p line)

/-- R64: the transaction on the bus times out. -/
def clockTimeout (p : PortId) (s : State) : State :=
  match onBus s p with
  | none => s
  | some w => clockTimesOut p w s

/-- R66: the attempt in progress ends. -/
def attemptEnd (p : PortId) (seen : AttemptSeen) (s : State) : State :=
  if (s.port p).running then attemptEnds p (attemptResult seen) (s.setLine p seen.after) else s

/-- R69: whether the retry timer runs. -/
def retryRuns (s : State) (p : PortId) : Bool := (s.port p).state == .halted && (s.port p).retryMs.isSome

/-- R87: the round timer expires in WAITING; `line` is what the next check of the lines finds. -/
def roundStart (p : PortId) (line : BusLine) (s : State) : State :=
  if (s.engine p).round = .waiting then nextRound p (s.setLine p line) else s

/-- R92: whether the round timer can expire while the round runs. -/
def overrunDue (s : State) (p : PortId) : Bool :=
  (s.engine p).round == .running && (s.engine p).timerMs.isSome

/-- R119: the settle timer stops. -/
def settleTimerEnds (s : State) : State := updatingPacks (fun x => { x with dsg := { x.dsg with settleMs := none } }) s

/-- TRANSACTION_END (R58). -/
def execTransactionEnd (p : PortId) (r : TransactionResult) (line : BusLine) (s : State) : Answer :=
  event (transactionEnd p r line) s

/-- CLOCK_TIMEOUT (R64). -/
def execClockTimeout (p : PortId) (s : State) : Answer := event (clockTimeout p) s

/-- RECOVERY_ATTEMPT_END (R67). -/
def execRecoveryAttemptEnd (p : PortId) (seen : AttemptSeen) (s : State) : Answer := event (attemptEnd p seen) s

/-- HALT_RETRY_EXPIRY (R69). -/
def execHaltRetryExpiry (p : PortId) (s : State) : Answer := event (when_ (retryRuns s p) (retryBegins p)) s

/-- ROUND_START (R87). -/
def execRoundStart (p : PortId) (line : BusLine) (s : State) : Answer := event (roundStart p line) s

/-- ROUND_OVERRUN (R92). -/
def execRoundOverrun (p : PortId) (s : State) : Answer := event (when_ (overrunDue s p) (overrun p)) s

/-- SETTLE_TIMER_EXPIRY (R119). -/
def execSettleTimerExpiry (s : State) : Answer := quiet (when_ s.dsg.settleMs.isSome settleTimerEnds) s

end Sys2Proof.Machine
end

