-- ==== Sys2Proof/Machine/InputCommands.lean ====
section
/-! DEFINITION. The meanings of RAW_INPUT_CHANGE, LID_CHANGE, ADAPTER_CHANGE, PACK_PRESENCE_CHANGE, AUX_WAKE_CHANGE,
BUTTON_PRESS and BUTTON_RELEASE (R1, R2, R10, R16). -/
namespace Sys2Proof.Machine

/-- R1: whether an input is filtered. -/
def isFiltered (s : State) (i : FilteredInput) : Bool :=
  match i with
  | .presence1 => s.packFitted .pack1
  | .lid | .pwrbtn | .acp | .wakeAux | .presence0 => true

/-- R1: a raw level, with its stability count unless RESET_N is low. -/
def rawInput (i : FilteredInput) (level : Bool) (s : State) : State :=
  let s1 := { s with pins := { s.pins with inputs := setInputLevel s.pins.inputs i level } }
  if s.inReset || !isFiltered s i then s1
  else
    let count := countAfter level (inputLevel s.power.levels i) (inputCount s.power.counts i)
    { s1 with power := { s1.power with counts := setInputCount s1.power.counts i count } }

/-- R1: whether an input's count runs, so that its completion is due. -/
def countRuns (s : State) (i : FilteredInput) : Bool := (inputCount s.power.counts i).isSome

/-- R1: a count completes: the filtered level takes the raw level. -/
def completeCount (i : FilteredInput) (p : Power) (raw : InputLevels) : Power :=
  { p with levels := setInputLevel p.levels i (inputLevel raw i), counts := setInputCount p.counts i none }

/-- R2: the new filtered level published, as one update of the platform record. -/
def publishLevel (i : FilteredInput) (s : State) : State :=
  updatingPower (fun x => { x with power := completeCount i x.power x.pins.inputs }) s

/-- R2: the lid changes; in RUN it is reported. -/
def lidChange (s : State) : State :=
  let s1 := publishLevel .lid s
  eitherOrder (fun x => if x.power.state = .run then offer (.lid x.lidOpen) x else x) scanModeDecision s1

/-- R2, R23: the adapter level published; an insertion ends a running grace. -/
def publishAdapter (s : State) : State :=
  updatingPower (fun x =>
    let p := completeCount .acp x.power x.pins.inputs
    { x with power := { p with graceMs := if p.levels.acp then none else p.graceMs } }) s

/-- R2: the ADAPTER record of RUN, with the adapter limit then in effect. -/
def adapterNotice (s : State) : State :=
  if s.power.state = .run then offer (.adapter s.adapterIn (adapterLimit s)) s else s

/-- R10: an insertion in OFF as a power-on cause. -/
def insertionPowerOn (s : State) : State :=
  if s.adapterIn && s.power.state == .off && autoPowerOnInEffect s then powerOn .autoOn s else s

/-- R2, R10: the adapter changes. No rule orders the reactions of the units, nor the evaluation (its CHARGE record) and the power-on
of an insertion (its POWER record): choices (DESIGN CHOICE, log 8). -/
def adapterChange (s : State) : State :=
  eitherOrder (anyOrder dischargeDecision evaluate adapterNotice) insertionPowerOn (publishAdapter s)

/-- R2, R105: a presence level changes and is handed to the pack monitor. -/
def presenceChange (k : PackId) (s : State) : State :=
  let s1 := publishLevel (presenceInput k) s
  if s1.seated k then presenceRise k s1 else presenceFall k s1

/-- R16: the button's count completes while its raw level is the given one. -/
def buttonDue (level : Bool) (s : State) : Bool := countRuns s .pwrbtn && s.pins.inputs.pwrbtn == level

/-- RAW_INPUT_CHANGE (R1). -/
def execRawInputChange (i : FilteredInput) (level : Bool) (s : State) : Answer := .next (rawInput i level s)

/-- LID_CHANGE (R2). -/
def execLidChange (s : State) : Answer := event (when_ (countRuns s .lid) lidChange) s

/-- ADAPTER_CHANGE (R2). -/
def execAdapterChange (s : State) : Answer := event (when_ (countRuns s .acp) adapterChange) s

/-- PACK_PRESENCE_CHANGE (R105). -/
def execPackPresenceChange (k : PackId) (s : State) : Answer :=
  event (when_ (countRuns s (presenceInput k)) (presenceChange k)) s

/-- AUX_WAKE_CHANGE (R12). -/
def execAuxWakeChange (s : State) : Answer := event (when_ (countRuns s .wakeAux) (publishLevel .wakeAux)) s

/-- BUTTON_PRESS (R16). -/
def execButtonPress (s : State) : Answer :=
  event (when_ (buttonDue false s) (fun x => buttonPress (publishLevel .pwrbtn x))) s

/-- BUTTON_RELEASE (R16). -/
def execButtonRelease (s : State) : Answer :=
  event (when_ (buttonDue true s) (fun x => buttonRelease (publishLevel .pwrbtn x))) s

end Sys2Proof.Machine
end

