-- ==== Sys2Proof/Machine/KeyboardCommands.lean ====
section
/-! DEFINITION. The meanings of SCAN_PASS, RAW_ROW_CHANGE and ROW_FILTER_EXPIRY (R33 to R35). -/
namespace Sys2Proof.Machine

/-- SCAN_PASS (R34); passes complete in FULL only (R32). -/
def execScanPass (columns : List Byte) (s : State) : Answer :=
  event (when_ (s.kbd.mode == .full) (scanPass columns)) s

/-- R33: the raw row level; while RESET_N is low only the level moves. -/
def rawRowChange (active : Bool) (s : State) : State :=
  if s.inReset then { s with pins := { s.pins with rowActive := active } } else rawRow active s

/-- RAW_ROW_CHANGE (R33). -/
def execRawRowChange (active : Bool) (s : State) : Answer := .next (rawRowChange active s)

/-- ROW_FILTER_EXPIRY (R33). -/
def execRowFilterExpiry (s : State) : Answer := event rowFilterDone s

end Sys2Proof.Machine
end

