-- ==== Sys2Proof/Machine/PowerCommands.lean ====
section
/-! DEFINITION. The meanings of the rail, sequence, button-timer, heartbeat-timer and grace commands (R5 to R8, R14, R17 to
R19, R21, R23). -/
namespace Sys2Proof.Machine

/-- POWER_GOOD_RISE (R5). A rail that is already good has nothing to rise; while RESET_N is low only the pin moves. -/
def execPowerGoodRise (rail : Rail) (s : State) : Answer :=
  if powerGood s rail then .next s
  else if s.inReset then .next (setPowerGood rail true s)
  else .next (settle (powerGoodUp rail (setPowerGood rail true s)))

/-- POWER_GOOD_FALL (R6), with the combination restart it may end in (R19). -/
def execPowerGoodFall (rail : Rail) (s : State) : Answer :=
  if powerGood s rail = false then .next s
  else if s.inReset then .next (setPowerGood rail false s)
  else .next (settle (withCombinationRestart (fun x => powerGoodDown rail (setPowerGood rail false x)) s))

/-- RAIL_WAIT_TIMEOUT (R5, R7, R8). -/
def execRailWaitTimeout (s : State) : Answer := event (withCombinationRestart waitRunsOut) s

/-- RESET_HOLD_EXPIRY (R5). -/
def execResetHoldExpiry (s : State) : Answer := event (when_ (s.power.step == .resetHold) reachRun) s

/-- SUSPEND_DELAY_EXPIRY (R14). -/
def execSuspendDelayExpiry (s : State) : Answer := event delayExpires s

/-- R17: the long-press timer has reached long_press. -/
def holdReached (s : State) : State :=
  { s with power := { s.power with heldMs := s.power.heldMs.map (max (s.power.table.longPress * 1000)) } }

/-- R17, R18: the long press acts, or is held back while the combination timer runs. -/
def longPressExpires (s : State) : State :=
  if s.power.comboMs.isSome then holdReached s else longPress (holdReached s)

/-- LONG_PRESS_EXPIRY (R17). -/
def execLongPressExpiry (s : State) : Answer :=
  event (when_ (s.power.heldMs.isSome && !s.power.ignore) longPressExpires) s

/-- COMBINATION_TIMER_EXPIRY (R18). -/
def execCombinationTimerExpiry (s : State) : Answer :=
  event (when_ s.power.comboMs.isSome (withCombinationRestart comboExpires)) s

/-- HEARTBEAT_EXPIRY (R21). -/
def execHeartbeatExpiry (s : State) : Answer := event (when_ (s.power.heartbeat == .watching) heartbeatExpires) s

/-- RESET_PULSE_END (R21). -/
def execResetPulseEnd (s : State) : Answer := event (when_ s.power.pulseMs.isSome pulseEnds) s

/-- CRITICAL_GRACE_EXPIRY (R23). -/
def execCriticalGraceExpiry (s : State) : Answer :=
  event (when_ s.power.graceMs.isSome (enterShutdown .critical)) s

end Sys2Proof.Machine
end

