-- ==== Sys2Proof/Machine/RequestCommands.lean ====
section
/-! DEFINITION. The meanings of the request commands: the taking of a slot's post by its kind (R14, R70, R76, R116, R186
to R197). -/
namespace Sys2Proof.Machine

/-! ### Taking a post (R186) -/

/-- R186: whether the slot holds a post of a kind, waiting to be taken (log 27). -/
def postedKind (s : State) (n kind : Nat) : Bool := slotState s n == slotPosted && slotKind s n == kind

/-- R186: a post of a given kind is taken: the slot is ACTIVE and its request is carried out. -/
def takePost (n kind : Nat) (work : State → State) (s : State) : State :=
  if postedKind s n kind then work (setSlotState n slotActive s) else s

/-- R190: the request kinds. -/
def kindLoadTable : Nat := 1
def kindBusTransfer : Nat := 2
def kindBusReset : Nat := 3
def kindProbePack : Nat := 4
def kindSetOverride : Nat := 5
def kindSetChargeMode : Nat := 6
def kindSetPowerState : Nat := 7
def kindWarmRestart : Nat := 8

/-- R190: a recognised kind. -/
def kindKnown (k : Nat) : Bool := decide (1 ≤ k) && decide (k ≤ 8)

/-- R186: the cancel was stored before the post was taken. No reply byte is written, as for a withdrawn request (DESIGN CHOICE,
log 78). -/
def foundCancelled (n : Nat) (s : State) : State :=
  if slotState s n == slotCancel && !isHeld s n then completeSlot n .cancelled 0 [] s else s

/-- R186: a post of an unknown kind. -/
def unknownPost (n : Nat) (s : State) : State :=
  if slotState s n == slotPosted && !kindKnown (slotKind s n) then completeSlot n .unknownKind 0 [] s else s

/-! ### LOAD_TABLE (R192, R193) -/

/-- R193: a validated copy at its owner. -/
def ownerTakes (t : TableId) (n : Nat) (s : State) : State :=
  match t with
  | .keymap => completeSlot n .ok 0 [(1, [0#8])] (adoptKeymap (readKeymap s.mem) s)
  | .pollA => loadList .a n s
  | .pollB => loadList .b n s
  | .chargeProfile =>
    profileReactions (adoptProfile (readProfile s.mem) (completeSlot n .ok 0 [(1, [0#8])] s))
  | .thermal => adoptThermal (readThermal s.mem) (completeSlot n .ok 0 [(1, [0#8])] s)
  | .fanCurves => s
  | .platform => adoptPlatform (readPlatform s.mem) (completeSlot n .ok 0 [(1, [0#8])] s)

/-- R192, steps 3 and 4. -/
def validateAndTake (t : TableId) (n : Nat) (s : State) : State :=
  match validate t s with
  | some (r, d) => completeSlot n .tableInvalid d [(1, [BitVec.ofNat 8 r.code])] s
  | none => ownerTakes t n s

/-- R192. -/
def loadTable (n : Nat) (s : State) : State :=
  match tableOf (slotParam s n 0) with
  | none => completeSlot n .badParam 1 [(1, [0#8])] s
  | some t =>
    match loadSlot s t with
    | some earlier => completeSlot n .busy earlier [(1, [0#8])] s
    | none => validateAndTake t n (holdSlot n (.load t) s)

/-! ### Port and pack requests (R70, R76, R116) -/

/-- R76. -/
def busTransfer (n : Nat) (s : State) : State :=
  match transferFault s n with
  | some d => completeSlot n .badParam d [(8, [0#8])] s
  | none => offerTransfer n (holdSlot n (.transfer (portOfNat (slotParam s n 0))) s)

/-- R70, R190. -/
def busReset (n : Nat) (s : State) : State :=
  if 1 < slotParam s n 0 then completeSlot n .badParam 1 [] s
  else
    let p := portOfNat (slotParam s n 0)
    busResetRequest n p (holdSlot n (.busReset p) s)

/-- R116. -/
def probePack (n : Nat) (s : State) : State :=
  match packOfNat s (slotParam s n 0) with
  | none => completeSlot n .badParam 1 [] s
  | some k => probeRequest n (holdSlot n (.probe k) s)

/-! ### SET_OVERRIDE and SET_CHARGE_MODE (R191) -/

/-- R191: the charge cap a request names; none where its value is not allowed. -/
def capOf (v : Nat) : Option (Option Nat) :=
  if v = 0xFFFF then some none
  else if v = 0 then some (some 0)
  else if v % 64 = 0 ∧ 128 ≤ v ∧ v ≤ 8128 then some (some v)
  else none

/-- R191. -/
def setOverride (n : Nat) (s : State) : State :=
  let d0 := slotParam s n 0
  let d1 := slotParam s n 1
  if 100 < d0 then completeSlot n .badParam 1 [] s
  else if 100 < d1 then completeSlot n .badParam 2 [] s
  else
    match capOf (slotParam16 s n 2) with
    | none => completeSlot n .badParam 3 [] s
    | some cap =>
      if s.overrideValid then completeSlot n .ok 0 [] (setCap cap (setOverrides d0 d1 s))
      else completeSlot n .wrongState 0 [] s

/-- R191: the mode a request names. -/
def modeOf : Nat → Option ChargeMode
  | 0 => some .full
  | 1 => some .conserve
  | _ => none

/-- R191. -/
def chargeModeRequest (n : Nat) (s : State) : State :=
  match modeOf (slotParam s n 0) with
  | none => completeSlot n .badParam 1 [] s
  | some m => completeSlot n .ok 0 [] (setChargeMode m s)

/-! ### SET_POWER_STATE (R14, R190) -/

/-- R190: the target a request names. -/
def sleepTargetOf : Nat → Option SleepTarget
  | 0 => some .sleep
  | 1 => some .off
  | _ => none

/-- R14: an accepted request; a delay of 0 ms expires immediately (log 21). -/
def acceptPower (n : Nat) (target : SleepTarget) (delay : Nat) (s : State) : State :=
  let s1 := startDelay target delay (completeSlot n .ok 0 [] s)
  if delay = 0 then delayExpires s1 else s1

/-- R14, R190: the checks in their order. -/
def powerRequest (n : Nat) (s : State) : State :=
  let delay := slotParam16 s n 2
  match sleepTargetOf (slotParam s n 0) with
  | none => completeSlot n .badParam 1 [] s
  | some target =>
    if 1000 < delay then completeSlot n .badParam 2 [] s
    else if s.power.state ≠ .run then completeSlot n .wrongState 0 [] s
    else if s.power.delay.isSome then completeSlot n .busy 0 [] s
    else if wakePending s target then completeSlot n .wakePending 0 [] s
    else acceptPower n target delay s

/-! ### The meanings -/

/-- POST_FOUND_CANCELLED (R186). -/
def execPostFoundCancelled (slot : Fin 16) (s : State) : Answer := event (foundCancelled slot.val) s

/-- UNKNOWN_KIND (R186). -/
def execUnknownKind (slot : Fin 16) (s : State) : Answer := event (unknownPost slot.val) s

/-- LOAD_TABLE (R192). -/
def execLoadTable (slot : Fin 16) (s : State) : Answer :=
  event (takePost slot.val kindLoadTable (loadTable slot.val)) s

/-- BUS_TRANSFER (R76). -/
def execBusTransfer (slot : Fin 16) (s : State) : Answer :=
  event (takePost slot.val kindBusTransfer (busTransfer slot.val)) s

/-- BUS_RESET (R70). -/
def execBusReset (slot : Fin 16) (s : State) : Answer :=
  event (takePost slot.val kindBusReset (busReset slot.val)) s

/-- PROBE_PACK (R116). -/
def execProbePack (slot : Fin 16) (s : State) : Answer :=
  event (takePost slot.val kindProbePack (probePack slot.val)) s

/-- SET_OVERRIDE (R191). -/
def execSetOverride (slot : Fin 16) (s : State) : Answer :=
  event (takePost slot.val kindSetOverride (setOverride slot.val)) s

/-- SET_CHARGE_MODE (R191). -/
def execSetChargeMode (slot : Fin 16) (s : State) : Answer :=
  event (takePost slot.val kindSetChargeMode (chargeModeRequest slot.val)) s

/-- SET_POWER_STATE (R14). -/
def execSetPowerState (slot : Fin 16) (s : State) : Answer :=
  event (takePost slot.val kindSetPowerState (powerRequest slot.val)) s

/-- WARM_RESTART (R196). -/
def execWarmRestart (slot : Fin 16) (s : State) : Answer :=
  event (takePost slot.val kindWarmRestart (warmRestart slot.val)) s

end Sys2Proof.Machine
end

