-- ==== Sys2Proof/Machine/ThermalCommands.lean ====
section
/-! DEFINITION. The meanings of THERMAL_UPDATE, TACH_PULSE, BOOST_EXPIRY and PART_TIME_TICK (R153, R156, R159, R177). -/
namespace Sys2Proof.Machine

/-- R159: a low period of a present fan's tach input. -/
def tachPulse (f : FanId) (width : Nat) (s : State) : State :=
  if s.fanPresent f then s.setFan f (tachCounted (s.fan f) width) else s

/-! ### One millisecond (R177; log 3) -/

/-- The stability counts. -/
def tickCounts (c : FilterCounts) : FilterCounts :=
  { lid := tickTimer c.lid, pwrbtn := tickTimer c.pwrbtn, acp := tickTimer c.acp, wakeAux := tickTimer c.wakeAux,
    presence0 := tickTimer c.presence0, presence1 := tickTimer c.presence1 }

/-- Whether a step of the rail sequences is timed. -/
def stepTimed : SeqStep → Bool
  | .none => false
  | .stbyHigh | .mainHigh | .resetHold | .mainLow | .stbyLow => true

/-- The power controller's timers. -/
def tickPower (p : Power) : Power :=
  { p with
    counts := tickCounts p.counts
    stepMs := if stepTimed p.step then p.stepMs + 1 else p.stepMs
    delay := p.delay.map fun d => { d with elapsed := d.elapsed + 1 }
    heldMs := tickTimer p.heldMs, comboMs := tickTimer p.comboMs
    heartbeatMs := if p.heartbeat = .watching then p.heartbeatMs + 1 else p.heartbeatMs
    pulseMs := tickTimer p.pulseMs, graceMs := tickTimer p.graceMs }

/-- The scanner's pass timer and row count. -/
def tickKeyboard (k : Keyboard) : Keyboard :=
  { k with passMs := if k.mode = .full then k.passMs + 1 else k.passMs, rowCount := tickTimer k.rowCount }

/-- A port's retry timer, an engine's round timer. -/
def tickPort (x : Port) : Port := { x with retryMs := tickTimer x.retryMs }
def tickEngine (x : Engine) : Engine := { x with timerMs := tickTimer x.timerMs }

/-- R177: one millisecond of part time and of every running timer. -/
def tick (s : State) : State :=
  { s with
    link := { s.link with partTime := s.link.partTime + 1#32 }
    power := tickPower s.power, kbd := tickKeyboard s.kbd
    portA := tickPort s.portA, portB := tickPort s.portB
    engineA := tickEngine s.engineA, engineB := tickEngine s.engineB
    dsg := { s.dsg with settleMs := tickTimer s.dsg.settleMs }
    th := { s.th with boostMs := tickTimer s.th.boostMs, updateMs := s.th.updateMs + 1 } }

/-- THERMAL_UPDATE (R153). -/
def execThermalUpdate (m0 m1 : Measurement) (s : State) : Answer := event (thermalUpdate m0 m1) s

/-- TACH_PULSE (R159). -/
def execTachPulse (f : FanId) (width : Nat) (s : State) : Answer := quiet (tachPulse f width) s

/-- BOOST_EXPIRY (R156). -/
def execBoostExpiry (s : State) : Answer := quiet endBoost s

/-- PART_TIME_TICK (R177). -/
def execPartTimeTick (s : State) : Answer := quiet tick s

end Sys2Proof.Machine
end

