-- ==== Sys2Proof/Machine/WindowCommands.lean ====
section
/-! DEFINITION. Host cycles (R170 to R173, R178 to R180, R185, R189, R199): how a write of the window is judged, stored or
discarded, what a significant write starts, and the four register commands. -/
namespace Sys2Proof.Machine

/-! ### Claiming (R170) -/

/-- R170: the window base and enable. -/
def windowBase (s : State) : Nat := (s.link.windowCtrl &&& 0xFFFFE000#32).toNat
def windowEnabled (s : State) : Bool := s.link.windowCtrl.getLsbD 0

/-- R170: whether a memory cycle at an address is claimed. -/
def claimed (s : State) (address : Word32) : Bool :=
  windowEnabled s && decide (windowBase s ≤ address.toNat) && decide (address.toNat < windowBase s + 0x2000)

/-! ### Judging (R171) -/

/-- R171: what a byte of the window is to a host write. -/
inductive AccessClass where
  | part | host | queueIndex
  | slot (n : Nat)
  | staging (table : TableId)
deriving DecidableEq, Repr

/-- R169, R170: the class of the byte at a window offset; past the window it is judged as PART. -/
def accessClass (o : Nat) : AccessClass :=
  if 0x00F0 ≤ o ∧ o < 0x00F4 then .host
  else if 0x0104 ≤ o ∧ o < 0x0106 then .queueIndex
  else if 0x0600 ≤ o ∧ o < 0x0A00 then .slot ((o - 0x0600) / 64)
  else
    match stagingOf o with
    | some t => .staging t
    | none => .part

/-- A host write: the offset of its first byte, and its bytes. -/
structure WindowWrite where
  offset : Nat
  bytes : List Byte
deriving DecidableEq, Repr

/-- The offsets a write touches. -/
def touched (w : WindowWrite) : List Nat := (List.range w.bytes.length).map (w.offset + ·)

/-- R171: the byte at an offset if the write were stored. -/
def byteIfStored (old : Byte) (w : WindowWrite) (o : Nat) : Byte :=
  if w.offset ≤ o then w.bytes.getD (o - w.offset) old else old

/-- R171, R199: the read index word if the write were stored. -/
def readIndexIfStored (s : State) (w : WindowWrite) : Nat :=
  value16 (byteIfStored (BitVec.ofNat 8 s.queue.read) w 0x0104)
    (byteIfStored (BitVec.ofNat 8 (s.queue.read / 256)) w 0x0105)

/-- R199: whether the queue allows a new read index. -/
def readIndexAllowed (q : Queue) (new : Nat) : Bool :=
  decide (new < 128) && decide ((new + 128 - q.read) % 128 ≤ occupancy q)

/-- R171, R185: a slot's state word if the write were stored. -/
def slotStateIfStored (s : State) (w : WindowWrite) (n : Nat) : Nat :=
  value16 (byteIfStored (Memory.read s.mem (slotBase n)) w (slotBase n))
    (byteIfStored (Memory.read s.mem (slotBase n + 1)) w (slotBase n + 1))

/-- R185: whether an offset lies in a slot's state word. -/
def inStateWord (n o : Nat) : Bool := o == slotBase n || o == slotBase n + 1

/-- R185: a byte of a slot's state word, by the slot's state and the value the word would hold. -/
def stateWordAllowed (old new : Nat) : Bool :=
  if old = slotFree then new == slotFree || new == slotPosted
  else if old = slotPosted ∨ old = slotActive then new == slotCancel
  else if old = slotDone then new == slotFree
  else false

/-- R185: a byte of a slot. -/
def slotByteAllowed (s : State) (w : WindowWrite) (n o : Nat) : Bool :=
  if inStateWord n o then stateWordAllowed (slotState s n) (slotStateIfStored s w n) else slotState s n == slotFree

/-- R171: whether one byte of a write is allowed. -/
def byteAllowed (s : State) (w : WindowWrite) (o : Nat) : Bool :=
  match accessClass o with
  | .part => false
  | .host => true
  | .queueIndex => readIndexAllowed s.queue (readIndexIfStored s w)
  | .slot n => slotByteAllowed s w n o
  | .staging t => (loadSlot s t).isNone

/-- R171: a write is judged as a whole. -/
def writeAllowed (s : State) (w : WindowWrite) : Bool := (touched w).all (byteAllowed s w)

/-! ### Discarding (R172, R185) -/

/-- R185: a byte of the state word of a slot in CANCEL, where the write would leave CANCEL. -/
def repeatsCancel (s : State) (w : WindowWrite) (o : Nat) : Bool :=
  match accessClass o with
  | .slot n => inStateWord n o && slotState s n == slotCancel && slotStateIfStored s w n == slotCancel
  | .part | .host | .queueIndex | .staging _ => false

/-- R172, R189: a discard that raises no PROTOCOL: only CANCEL again into the state word of a slot in CANCEL (log 12). -/
def discardedSilently (s : State) (w : WindowWrite) : Bool := (touched w).all (repeatsCancel s w)

/-- R172: PROTOCOL and last_protocol_offset. -/
def noteDiscard (offset : Nat) (s : State) : State :=
  publish .platform (setCause causeProtocol
    { s with link := { s.link with lastProtocol := BitVec.ofNat 16 offset } })

/-! ### Storing (R173) -/

/-- R173: the word of consequence that a stored write touches. -/
inductive Significance where
  | plain | heartbeat | readIndex
  | cancel (n : Nat)
deriving DecidableEq, Repr

/-- R173: a slot's state word that the write changes to CANCEL. A change to POSTED makes the post outstanding and a change
to FREE returns the slot: both are the stored word itself (log 26). -/
def cancelledSlot (s : State) (w : WindowWrite) : Option Nat :=
  (touched w).findSome? fun o =>
    match accessClass o with
    | .slot n =>
      if inStateWord n o && slotState s n != slotCancel && slotStateIfStored s w n == slotCancel then some n else none
    | .part | .host | .queueIndex | .staging _ => none

/-- R173. -/
def significance (s : State) (w : WindowWrite) : Significance :=
  if (touched w).any (fun o => accessClass o == .host) then .heartbeat
  else if (touched w).any (fun o => accessClass o == .queueIndex) then .readIndex
  else
    match cancelledSlot s w with
    | some n => .cancel n
    | none => .plain

/-- R189: the cancel event of a slot. Work in flight runs on, and the completion finds the slot in CANCEL (R188). -/
def cancelEvent (n : Nat) (s : State) : State :=
  match heldWork s n with
  | some (.load _) => completeSlot n .cancelled 0 [] s
  | some (.transfer p) => if (s.port p).hosts.contains n then withdrawTransfer p n s else s
  | some (.busReset _) | some (.probe _) | none => s

/-- R171, R173: an allowed write is stored whole and its event follows. The read index stands in the queue's own state. -/
def storeWrite (s : State) (w : WindowWrite) : State :=
  match significance s w with
  | .plain => storeBytes w.offset w.bytes s
  | .heartbeat => heartbeatEvent (storeBytes w.offset w.bytes s)
  | .readIndex => roomEvent { s with queue := { s.queue with read := readIndexIfStored s w } }
  | .cancel n => cancelEvent n (storeBytes w.offset w.bytes s)

/-- R171, R199: whether a write touches the read index word with a value that the queue forbids. -/
def indexForbidden (s : State) (w : WindowWrite) : Bool :=
  (touched w).any (fun o => accessClass o == .queueIndex) && !readIndexAllowed s.queue (readIndexIfStored s w)

/-- R172 gives the lowest offset of a discarded write and R199 gives 0x0104 for a read index that the queue forbids: whether the two
differ. No ruling prefers one (log 36). -/
def offsetsDiffer (s : State) (w : WindowWrite) : Bool := indexForbidden s w && w.offset != 0x0104

/-- R172: the lowest offset of a discarded write. Where R199 gives another, the next choice says which: 0 is that of R172, 1 that of
R199 (DESIGN CHOICE, log 36). -/
def discardOffset (s : State) (w : WindowWrite) : Nat :=
  if offsetsDiffer s w && s.turn 2 == 1 then 0x0104 else w.offset

/-- R172, R199: a write is discarded. -/
def discardWrite (s : State) (w : WindowWrite) : State :=
  noteDiscard (discardOffset s w) (if offsetsDiffer s w then useTurn s else s)

/-- R171, R172, R199: a claimed host write. -/
def windowWrite (w : WindowWrite) (s : State) : State :=
  if writeAllowed s w then storeWrite s w
  else if discardedSilently s w then s
  else discardWrite s w

/-- R170: a host memory write at an address. -/
def hostWrite (address : Word32) (bytes : List Byte) (s : State) : State :=
  if claimed s address then windowWrite ⟨address.toNat - windowBase s, bytes⟩ s else s

/-! ### Registers (R178 to R180) -/

/-- R179: ones clear causes. -/
def clearCauses (first : Nat) (bytes : List Byte) (l : Link) : Link :=
  { l with alertCause := l.alertCause &&& ~~~(writeLanes 0#32 first bytes) }

/-- R178: the enables' listed bits. -/
def writeEnables (first : Nat) (bytes : List Byte) (l : Link) : Link :=
  { l with alertEnable := writeLanes l.alertEnable first bytes &&& alertMask }

/-- R178: WINDOW_CTRL's listed bits. -/
def writeControl (first : Nat) (bytes : List Byte) (l : Link) : Link :=
  { l with windowCtrl := writeLanes l.windowCtrl first bytes &&& windowMask }

/-- HOST_WINDOW_WRITE (R171). -/
def execHostWindowWrite (address : Word32) (bytes : List Byte) (s : State) : Answer := event (hostWrite address bytes) s

/-- HEARTBEAT_WRITE (R20): a claimed write that begins in the heartbeat word (log 26). -/
def execHeartbeatWrite (first : Fin 4) (bytes : List Byte) (s : State) : Answer :=
  event (windowWrite ⟨0x00F0 + first.val, bytes⟩) s

/-- CANCEL_WRITE (R189): a claimed write of CANCEL to a slot's state word (log 26). -/
def execCancelWrite (slot : Fin 16) (s : State) : Answer :=
  event (windowWrite ⟨slotBase slot.val, bytes16 slotCancel⟩) s

/-- SLOT_FREE_WRITE (R185): a claimed write of FREE to a slot's state word (log 26). -/
def execSlotFreeWrite (slot : Fin 16) (s : State) : Answer :=
  event (windowWrite ⟨slotBase slot.val, bytes16 slotFree⟩) s

/-- READ_INDEX_WRITE (R199): a claimed write of the read index word (log 26). -/
def execReadIndexWrite (value : Word16) (s : State) : Answer := event (windowWrite ⟨0x0104, bytes16 value.toNat⟩) s

/-- ALERT_CAUSE_WRITE (R179). -/
def execAlertCauseWrite (first : Fin 4) (bytes : List Byte) (s : State) : Answer :=
  quiet (fun x => { x with link := clearCauses first.val bytes x.link }) s

/-- ALERT_ENABLE_WRITE (R180). -/
def execAlertEnableWrite (first : Fin 4) (bytes : List Byte) (s : State) : Answer :=
  quiet (fun x => { x with link := writeEnables first.val bytes x.link }) s

/-- WINDOW_CTRL_WRITE (R170). -/
def execWindowCtrlWrite (first : Fin 4) (bytes : List Byte) (s : State) : Answer :=
  quiet (fun x => { x with link := writeControl first.val bytes x.link }) s

/-- REGISTER_WRITE_OTHER (R178): no effect and no cause. -/
def execRegisterWriteOther (_offset : Fin 16) (_bytes : List Byte) (s : State) : Answer := quiet id s

end Sys2Proof.Machine
end

