-- ==== Sys2Proof/Machine/Dispatch.lean ====
section
/-! DEFINITION. One arm for each command: its meaning. -/
namespace Sys2Proof.Machine

def exec (i : Instr) (s : State) : Host.Outcome State Fault Refusal :=
  match i with
  | .coldStart pins => Sys2Proof.Machine.execColdStart pins s
  | .pinResetAssert => Sys2Proof.Machine.execPinResetAssert s
  | .pinResetRelease straps lineA lineB => Sys2Proof.Machine.execPinResetRelease straps lineA lineB s
  | .rawInputChange input level => Sys2Proof.Machine.execRawInputChange input level s
  | .lidChange => Sys2Proof.Machine.execLidChange s
  | .adapterChange => Sys2Proof.Machine.execAdapterChange s
  | .packPresenceChange pack => Sys2Proof.Machine.execPackPresenceChange pack s
  | .auxWakeChange => Sys2Proof.Machine.execAuxWakeChange s
  | .buttonPress => Sys2Proof.Machine.execButtonPress s
  | .buttonRelease => Sys2Proof.Machine.execButtonRelease s
  | .powerGoodRise rail => Sys2Proof.Machine.execPowerGoodRise rail s
  | .powerGoodFall rail => Sys2Proof.Machine.execPowerGoodFall rail s
  | .railWaitTimeout => Sys2Proof.Machine.execRailWaitTimeout s
  | .resetHoldExpiry => Sys2Proof.Machine.execResetHoldExpiry s
  | .suspendDelayExpiry => Sys2Proof.Machine.execSuspendDelayExpiry s
  | .longPressExpiry => Sys2Proof.Machine.execLongPressExpiry s
  | .combinationTimerExpiry => Sys2Proof.Machine.execCombinationTimerExpiry s
  | .heartbeatWrite first bytes => Sys2Proof.Machine.execHeartbeatWrite first bytes s
  | .heartbeatExpiry => Sys2Proof.Machine.execHeartbeatExpiry s
  | .resetPulseEnd => Sys2Proof.Machine.execResetPulseEnd s
  | .criticalGraceExpiry => Sys2Proof.Machine.execCriticalGraceExpiry s
  | .scanPass columns => Sys2Proof.Machine.execScanPass columns s
  | .rawRowChange active => Sys2Proof.Machine.execRawRowChange active s
  | .rowFilterExpiry => Sys2Proof.Machine.execRowFilterExpiry s
  | .transactionEnd port result line => Sys2Proof.Machine.execTransactionEnd port result line s
  | .clockTimeout port => Sys2Proof.Machine.execClockTimeout port s
  | .recoveryAttemptEnd port seen => Sys2Proof.Machine.execRecoveryAttemptEnd port seen s
  | .haltRetryExpiry port => Sys2Proof.Machine.execHaltRetryExpiry port s
  | .roundStart port line => Sys2Proof.Machine.execRoundStart port line s
  | .roundOverrun port => Sys2Proof.Machine.execRoundOverrun port s
  | .settleTimerExpiry => Sys2Proof.Machine.execSettleTimerExpiry s
  | .thermalUpdate local0 local1 => Sys2Proof.Machine.execThermalUpdate local0 local1 s
  | .tachPulse fan widthMicros => Sys2Proof.Machine.execTachPulse fan widthMicros s
  | .boostExpiry => Sys2Proof.Machine.execBoostExpiry s
  | .partTimeTick => Sys2Proof.Machine.execPartTimeTick s
  | .hostWindowWrite address bytes => Sys2Proof.Machine.execHostWindowWrite address bytes s
  | .alertCauseWrite first bytes => Sys2Proof.Machine.execAlertCauseWrite first bytes s
  | .alertEnableWrite first bytes => Sys2Proof.Machine.execAlertEnableWrite first bytes s
  | .windowCtrlWrite first bytes => Sys2Proof.Machine.execWindowCtrlWrite first bytes s
  | .registerWriteOther offset bytes => Sys2Proof.Machine.execRegisterWriteOther offset bytes s
  | .postFoundCancelled slot => Sys2Proof.Machine.execPostFoundCancelled slot s
  | .unknownKind slot => Sys2Proof.Machine.execUnknownKind slot s
  | .loadTable slot => Sys2Proof.Machine.execLoadTable slot s
  | .busTransfer slot => Sys2Proof.Machine.execBusTransfer slot s
  | .busReset slot => Sys2Proof.Machine.execBusReset slot s
  | .probePack slot => Sys2Proof.Machine.execProbePack slot s
  | .setOverride slot => Sys2Proof.Machine.execSetOverride slot s
  | .setChargeMode slot => Sys2Proof.Machine.execSetChargeMode slot s
  | .setPowerState slot => Sys2Proof.Machine.execSetPowerState slot s
  | .warmRestart slot => Sys2Proof.Machine.execWarmRestart slot s
  | .cancelWrite slot => Sys2Proof.Machine.execCancelWrite slot s
  | .slotFreeWrite slot => Sys2Proof.Machine.execSlotFreeWrite slot s
  | .readIndexWrite value => Sys2Proof.Machine.execReadIndexWrite value s

end Sys2Proof.Machine
end

