-- ==== Sys2Proof/Safety.lean ====
section
/-! DEFINITION. What counts as a sound state and a timely sender: the invariants that statements use, when an event is
due, and when its timer has really run out (log 1, log 2). -/
namespace Sys2Proof.Safety

open Sys2Proof.Machine

/-! ### Invariants of the part -/

/-- The exchange memory is in its canonical form. -/
def memoryCanonical (s : State) : Prop := Memory.wf s.mem = true

/-- R174: no update is in progress between two commands: every generation count is even. -/
def countsEven (s : State) : Prop := ∀ g ∈ s.link.gens, g.getLsbD 0 = false

/-- R178: the bits not listed of the three writable registers are 0. -/
def unlistedBitsClear (s : State) : Prop :=
  s.link.alertCause &&& ~~~alertMask = 0#32 ∧ s.link.alertEnable &&& ~~~alertMask = 0#32 ∧
    s.link.windowCtrl &&& ~~~windowMask = 0#32

/-- R198: both indices of the report queue are 0 to 127. -/
def indicesInRing (s : State) : Prop := s.queue.write < 128 ∧ s.queue.read < 128

/-- R36: the down-key table never holds more than 12 entries. -/
def keyTableBounded (s : State) : Prop := s.kbd.table.length ≤ Config.tableSize

/-- R109: a fault window holds at most 8 outcomes. -/
def faultWindowsBounded (s : State) : Prop := ∀ k : PackId, (s.pack k).window.length ≤ 8

/-- R73: a fairness count is 0 to 4. -/
def fairnessBounded (s : State) : Prop := ∀ p : PortId, (s.port p).fairness ≤ 4

/-- R93: each port has 32 rows in the poll status table. -/
def pollRowsWhole (s : State) : Prop := ∀ p : PortId, (s.engine p).rows.length = 32

/-- R147: the thermal unit has six sensor slots. -/
def slotsWhole (s : State) : Prop := s.th.slots.length = 6

/-- R34: each of the 144 positions has its state. -/
def positionsWhole (s : State) : Prop := s.kbd.positions.length = 144

/-- R123, R124: the charge state is INHIBITED exactly while the inhibit set is not empty. -/
def inhibitedExactly (s : State) : Prop := s.chg.state = .inhibited ↔ inhibited s.chg.inhibit = true

/-- R124, R152: THERMAL is in the inhibit set exactly while a trip is active. -/
def thermalCauseExactly (s : State) : Prop := s.chg.inhibit.thermal = s.tripActive

/-- R31: the scan mode is the one that the power state, the lid and the KEY enables decide. -/
def scanModeDecided (s : State) : Prop := s.kbd.mode = decideMode s

/-- R50, R78: between two commands no update of the keyboard record or of a port record is due (log 9). -/
def noUpdateDue (s : State) : Prop := s.due = noneDue

/-! ### What statements say of a slot and of a power state -/

/-- R188: a completed slot: state word, result, detail, not held, SLOT_DONE set. -/
def doneWith (t : State) (n : Nat) (r : Result) (detail : Nat) : Prop :=
  slotState t n = slotDone ∧ Memory.read16 t.mem (slotBase n + 4) = r.code ∧
    Memory.read16 t.mem (slotBase n + 6) = detail ∧ isHeld t n = false ∧ t.link.alertCause.getLsbD 0 = true

/-- R198: a memory with 8-byte units stored in the ring from unit `w` on, modulo 128. -/
def unitsStored (m : Memory) (w : Nat) (units : List (List Byte)) : Memory :=
  units.zipIdx.foldl (fun m u => Memory.writeList m (0x0110 + 8 * ((w + u.2) % 128)) u.1) m

/-- R8: SHUTTING_DOWN has been entered with a cause: HRST_N asserted, EN_MAIN off, no pending wake, no grace. -/
def shutDownWith (t : State) (cause : Cause) : Prop :=
  (t.power.state = .shuttingDown ∨ t.power.state = .off) ∧ t.power.shutdownCause = cause ∧
    t.power.hrstAsserted = true ∧ t.power.enMain = false ∧ t.power.pendingWake = [] ∧ t.power.graceMs = none

/-- R5, R13: a wake has been taken with a factor in its record. -/
def wokenBy (t : State) (factor : Factor) : Prop :=
  t.power.state = .waking ∧ t.power.cause = .wake ∧ factor ∈ t.power.wakeFactors ∧ t.power.pendingWake = []

/-! ### Frames: what a command's own effect leaves as it was -/

/-- The two ports and their poll engines. -/
def sameBus (s t : State) : Prop :=
  t.portA = s.portA ∧ t.portB = s.portB ∧ t.engineA = s.engineA ∧ t.engineB = s.engineB

/-- The poll engines, port B and the posting order list. -/
def sameEngines (s t : State) : Prop :=
  t.engineA = s.engineA ∧ t.engineB = s.engineB ∧ t.portB = s.portB ∧ t.posted = s.posted

/-- The pack monitor. -/
def samePacks (s t : State) : Prop := t.pack0 = s.pack0 ∧ t.pack1 = s.pack1 ∧ t.dsg = s.dsg

/-- The charge controller and the thermal unit. -/
def sameControl (s t : State) : Prop := t.chg = s.chg ∧ t.th = s.th

/-- The power controller, the scanner and the report queue's indices. -/
def samePlatform (s t : State) : Prop := t.power = s.power ∧ t.kbd = s.kbd ∧ t.queue = s.queue

/-- Every byte of the exchange memory outside the body of the report queue (R198). -/
def sameButQueue (s t : State) : Prop :=
  ∀ a, a < 0x0110 ∨ 0x0510 ≤ a → Memory.read t.mem a = Memory.read s.mem a

/-- Every byte of the exchange memory outside one slot (R184). -/
def sameButSlot (n : Nat) (s t : State) : Prop :=
  ∀ a, a < slotBase n ∨ slotBase n + 64 ≤ a → Memory.read t.mem a = Memory.read s.mem a

/-- Every byte outside one slot and the body of the report queue. -/
def sameButSlotAndQueue (n : Nat) (s t : State) : Prop :=
  ∀ a, a < slotBase n ∨ slotBase n + 64 ≤ a → a < 0x0110 ∨ 0x0510 ≤ a → Memory.read t.mem a = Memory.read s.mem a

/-- A request that only completes its slot: every other unit and every other byte as before. -/
def onlyCompletes (n : Nat) (s t : State) : Prop :=
  sameButSlot n s t ∧ sameBus s t ∧ samePacks s t ∧ sameControl s t ∧ samePlatform s t

/-! ### When an event is due (log 2) -/

/-- Whether a port is in the middle of a transaction. -/
def inTransaction (s : State) (p : PortId) : Bool := (onBus s p).isSome

/-- The commands that name something under way in the part, and whether it is under way. The other commands are always
due; a request command is due by the state of its slot. -/
def due (c : Instr) (s : State) : Bool :=
  match c with
  | .pinResetRelease _ _ _ => s.inReset
  | .lidChange => countRuns s .lid
  | .adapterChange => countRuns s .acp
  | .packPresenceChange k => countRuns s (presenceInput k)
  | .auxWakeChange => countRuns s .wakeAux
  | .buttonPress => buttonDue false s
  | .buttonRelease => buttonDue true s
  | .powerGoodRise r => !powerGood s r
  | .powerGoodFall r => powerGood s r
  | .railWaitTimeout => s.power.step != .none && s.power.step != .resetHold
  | .resetHoldExpiry => s.power.step == .resetHold
  | .suspendDelayExpiry => s.power.delay.isSome
  | .longPressExpiry => s.power.heldMs.isSome && !s.power.ignore
  | .combinationTimerExpiry => s.power.comboMs.isSome
  | .heartbeatExpiry => s.power.heartbeat == .watching
  | .resetPulseEnd => s.power.pulseMs.isSome
  | .criticalGraceExpiry => s.power.graceMs.isSome
  | .scanPass _ => s.kbd.mode == .full
  | .rowFilterExpiry => s.kbd.mode == .wakeScan && s.kbd.rowCount.isSome
  | .transactionEnd p _ _ => inTransaction s p
  | .clockTimeout p => inTransaction s p
  | .recoveryAttemptEnd p _ => (s.port p).running
  | .haltRetryExpiry p => retryRuns s p
  | .roundStart p _ => (s.engine p).round == .waiting
  | .roundOverrun p => overrunDue s p
  | .settleTimerExpiry => s.dsg.settleMs.isSome
  | .boostExpiry => s.th.boostMs.isSome
  | .postFoundCancelled n => slotState s n.val == slotCancel && !isHeld s n.val
  | .unknownKind n => slotState s n.val == slotPosted && !kindKnown (slotKind s n.val)
  | .loadTable n => postedKind s n.val kindLoadTable
  | .busTransfer n => postedKind s n.val kindBusTransfer
  | .busReset n => postedKind s n.val kindBusReset
  | .probePack n => postedKind s n.val kindProbePack
  | .setOverride n => postedKind s n.val kindSetOverride
  | .setChargeMode n => postedKind s n.val kindSetChargeMode
  | .setPowerState n => postedKind s n.val kindSetPowerState
  | .warmRestart n => postedKind s n.val kindWarmRestart
  | .coldStart _ | .pinResetAssert | .rawInputChange _ _ | .heartbeatWrite _ _ | .rawRowChange _ | .thermalUpdate _ _
  | .tachPulse _ _ | .partTimeTick | .hostWindowWrite _ _ | .alertCauseWrite _ _ | .alertEnableWrite _ _
  | .windowCtrlWrite _ _ | .registerWriteOther _ _ | .cancelWrite _ | .slotFreeWrite _ | .readIndexWrite _ => true

/-! ### Real time (log 1, log 3) -/

/-- A running timer has reached a length in ms. -/
def reached (t : Option Nat) (ms : Nat) : Bool :=
  match t with
  | some n => decide (ms ≤ n)
  | none => false

/-- R5, R7, R8: the limit of the wait in progress. -/
def waitLimit : SeqStep → Nat
  | .stbyHigh => Config.stbyRiseMs
  | .mainHigh => Config.mainRiseMs
  | .mainLow | .stbyLow => Config.railFallMs
  | .resetHold => Config.resetHoldMs
  | .none => 0

/-- A sender that keeps real time sends a timer's command only when that timer has run its full length. -/
def timely (c : Instr) (s : State) : Bool :=
  match c with
  | .lidChange => reached s.power.counts.lid Config.filterMs
  | .adapterChange => reached s.power.counts.acp Config.filterMs
  | .packPresenceChange k => reached (inputCount s.power.counts (presenceInput k)) Config.filterMs
  | .auxWakeChange => reached s.power.counts.wakeAux Config.filterMs
  | .buttonPress | .buttonRelease => reached s.power.counts.pwrbtn Config.filterMs
  | .railWaitTimeout | .resetHoldExpiry => decide (waitLimit s.power.step ≤ s.power.stepMs)
  | .suspendDelayExpiry =>
    match s.power.delay with
    | some d => decide (d.length ≤ d.elapsed)
    | none => false
  | .longPressExpiry => longPressMet s
  | .combinationTimerExpiry => reached s.power.comboMs Config.comboMs
  | .heartbeatExpiry => decide (s.power.table.heartbeatTimeout * 500 ≤ s.power.heartbeatMs)
  | .resetPulseEnd => reached s.power.pulseMs Config.resetPulseMs
  | .criticalGraceExpiry => reached s.power.graceMs Config.graceMs
  | .scanPass _ => decide (1 ≤ s.kbd.passMs)
  | .rowFilterExpiry => reached s.kbd.rowCount Config.filterMs
  | .haltRetryExpiry p => reached (s.port p).retryMs Config.retryMs
  | .roundStart p _ | .roundOverrun p => reached (s.engine p).timerMs (s.engine p).interval
  | .settleTimerExpiry => reached s.dsg.settleMs Config.settleMs
  | .thermalUpdate _ _ => decide (Config.thermalMs ≤ s.th.updateMs)
  | .boostExpiry => reached s.th.boostMs Config.boostMs
  | .coldStart _ | .pinResetAssert | .pinResetRelease _ _ _ | .rawInputChange _ _ | .powerGoodRise _ | .powerGoodFall _
  | .heartbeatWrite _ _ | .rawRowChange _ | .transactionEnd _ _ _ | .clockTimeout _ | .recoveryAttemptEnd _ _
  | .tachPulse _ _ | .partTimeTick | .hostWindowWrite _ _ | .alertCauseWrite _ _ | .alertEnableWrite _ _
  | .windowCtrlWrite _ _ | .registerWriteOther _ _ | .postFoundCancelled _ | .unknownKind _ | .loadTable _
  | .busTransfer _ | .busReset _ | .probePack _ | .setOverride _ | .setChargeMode _ | .setPowerState _ | .warmRestart _
  | .cancelWrite _ | .slotFreeWrite _ | .readIndexWrite _ => true

/-- A command as the part's surroundings can send it now. -/
def sendable (c : Instr) (s : State) : Bool := c.wellFormed && due c s && timely c s

/-! ### What statements say of a probe's end and of an adopted table -/

/-- R115: the outcome of a step in a probe record. -/
def stepOutcome (r : ProbeRecord) : Nat → BusOutcome
  | 1 => r.step1
  | 2 => r.step2
  | 3 => r.step3
  | _ => r.step4

/-- R112, R113: the values, ages and identity of a pack as they were. -/
def sameHistory (x y : Pack) : Prop := y.values = x.values ∧ y.ages = x.ages ∧ y.identity = x.identity

/-- R115: a pack's probe has ended, and its record says how and when. -/
def probeOver (k : PackId) (r : ProbeResult) (s t : State) : Prop :=
  (t.pack k).probe = none ∧ (t.pack k).record.state = .done ∧ (t.pack k).record.result = r ∧
    (t.pack k).record.completedAt = s.link.partTime

/-- R116: the request that was attached to a pack's probe has been completed. -/
def requestAnswered (k : PackId) (r : Result) (detail : Nat) (s t : State) : Prop :=
  (t.pack k).request = none ∧
    ∀ n, (s.pack k).request = some n → memoryCanonical s → detail < 65536 → doneWith t n r detail

/-- R113, R115, R116: a pack's probe has failed at a step; the third failure in a row leaves FAULTED. -/
def probeFailedAt (k : PackId) (step : Nat) (o : BusOutcome) (s t : State) : Prop :=
  probeOver k .probeFailed s t ∧ stepOutcome (t.pack k).record step = o ∧
    (t.pack k).failures = (s.pack k).failures + 1 ∧ sameHistory (s.pack k) (t.pack k) ∧
    (2 ≤ (s.pack k).failures → (t.pack k).state = .faulted ∧ (t.pack k).reason = .probeFailed) ∧
    ((s.pack k).failures < 2 → (t.pack k).state = (s.pack k).state ∧ (t.pack k).reason = (s.pack k).reason) ∧
    requestAnswered k .probeFailed step s t

/-- R144, R110, R118: a CHARGE_PROFILE has been adopted: the profile, the writes to another charger forgotten, the terms and
critical battery decided by it, and an ONLINE pack that meets one of its criteria LOST. -/
def profileAdopted (p : ChargeProfile) (s u : State) : Prop :=
  u.chg.profile = p ∧ u.chg.dCs = decideDcs u ∧ u.chg.dPk = decideDpk u u.chg.selected ∧
    (p.chargerTarget = s.chg.profile.chargerTarget →
      u.chg.written = s.chg.written ∧ u.chg.writeFailures = s.chg.writeFailures) ∧
    (p.chargerTarget ≠ s.chg.profile.chargerTarget → u.chg.written = none ∧ u.chg.writeFailures = 0) ∧
    u.dsg.critical = criticalHolds u ∧
    ∀ k, ((s.pack k).state ≠ .online ∨ criterionMet p (s.pack k) = none → u.pack k = s.pack k) ∧
      ∀ r, (s.pack k).state = .online → criterionMet p (s.pack k) = some r → s.portA.state ≠ .halted →
        s.portA.state ≠ .disabled →
          (u.pack k).state = .lost ∧ (u.pack k).reason = r ∧ (u.pack k).probe.isSome = true ∧
            sameHistory (s.pack k) (u.pack k)

/-- R164: a THERMAL table has been adopted: every slot by its old and its new enable, the fans raised to the new start minimum,
the trip ended where the last tripped slot is disabled. -/
def thermalAdopted (t : ThermalTable) (s u : State) : Prop :=
  u.th.table = t ∧ u.chg.dCs = decideDcs u ∧
    (∀ n x, s.th.slots[n]? = some x → u.th.slots[n]? = some
      (if slotOn t n = false then { x with tripCount := 0, state := .unknown, missCount := 0, tripped := false }
      else if slotOn s.th.table n = false then { x with tripCount := 0, state := .unknown, missCount := 0 }
      else { x with tripCount := 0 })) ∧
    (∀ f, u.fan f = { s.fan f with
      duty := if 0 < (s.fan f).duty ∧ (s.fan f).duty < t.startMin then t.startMin else (s.fan f).duty }) ∧
    u.chg.inhibit = { s.chg.inhibit with thermal :=
      if s.tripActive = true ∧ u.tripActive = false then false else s.chg.inhibit.thermal } ∧
    u.th.curves = s.th.curves ∧ u.th.boostMs = s.th.boostMs

/-- R17, R195: a long press already met by the new length acts at the adoption. -/
def pressMetBy (t : PlatformTable) (s : State) : Bool :=
  t.longPress != s.power.table.longPress && s.buttonPressed && !s.power.ignore && s.power.comboMs.isNone &&
    reached s.power.heldMs (t.longPress * 1000)

/-- R17, R20, R31, R195: a PLATFORM table has been adopted: the scan mode decided by it, the watch timer restarted where its
length changes, a long press already met carried out. -/
def platformAdopted (t : PlatformTable) (s u : State) : Prop :=
  u.power.table = t ∧ u.kbd.mode = decideMode u ∧
    (pressMetBy t s = false → u.power = { s.power with
      table := t
      heartbeatMs := if s.power.heartbeat = .watching ∧ t.heartbeatTimeout ≠ s.power.table.heartbeatTimeout then 0
        else s.power.heartbeatMs }) ∧
    (pressMetBy t s = true → u.power.ignore = true ∧
      (canShutDown s.power.state = true → shutDownWith u .longPress) ∧
      (canShutDown s.power.state = false → u.power.state = s.power.state))

/-- R97, R149: the poll list of a port has been adopted while no round of it ran; a port that is IDLE then may have granted work
that the adoption has offered (R72). -/
def listAdopted (p : PortId) (l : PollList) (s u : State) : Prop :=
  let never := List.replicate 32 neverRow
  (u.engine p).list = l ∧ (u.port p).fast = l.fast ∧ (u.port p).clockLow = l.clockLow ∧
    (l.enable = true → (s.engine p).round = .waiting → u.engine p = { s.engine p with
      list := l, rows := never, timerMs := some 0, interval := intervalFor u l }) ∧
    (l.enable = true → (s.engine p).round = .stopped → (u.engine p).number = ((s.engine p).number + 1) % 65536) ∧
    (l.enable = false → u.engine p = { s.engine p with
      list := l, rows := never, round := .stopped, timerMs := none, held := false }) ∧
    (l.enable = true →
      ((s.port p).state = .disabled ∨ (s.port p).state = .idle ∧ (s.engine p).round = .stopped →
        (u.port p).state = .idle ∨ (u.port p).state = .busy ∧ (u.port p).granted.isSome = true) ∧
      ((s.port p).state ≠ .disabled → (s.port p).state ≠ .idle ∨ (s.engine p).round = .waiting →
        (u.port p).state = (s.port p).state) ∧
      ((s.port p).state ≠ .disabled → (u.port p).disableDue = false)) ∧
    (l.enable = false →
      ((s.port p).state = .idle ∨ ((s.port p).state = .recovering ∨ (s.port p).state = .halted) ∧
        (s.port p).running = false → (u.port p).state = .disabled) ∧
      ((s.port p).state = .busy ∨ ((s.port p).state = .recovering ∨ (s.port p).state = .halted) ∧
        (s.port p).running = true → (u.port p).state = (s.port p).state ∧ (u.port p).disableDue = true)) ∧
    (p = .a → u.th = s.th) ∧
    (p = .b → l.enable = false ∨ (s.engine p).round = .waiting → ∀ n x, s.th.slots[n]? = some x →
      if 2 ≤ n ∧ n ≤ 5 ∧ (slotConfig s n).enable = true ∧ (l.enable = false ∨ ∀ e ∈ l.entries, e.binding ≠ .sensor n) then
        ∃ y, u.th.slots[n]? = some y ∧ y.missCount = 3 ∧ y.reading = x.reading ∧ y.tripped = x.tripped ∧
          y.state = (if x.state = .failed then .failed else .stale)
      else u.th.slots[n]? = some x)

end Sys2Proof.Safety
end

