-- ==== Sys2Proof/Certificates/Slice0/Obligations.lean ====
section
/-! DEFINITION. The statements for the provers. A meaning that ends with the settling of log 10 answers `settle u`: such a
statement says what holds of the state `u` that the command's own effect leaves; what the settling then leaves alone is
stated once, in `SettlingFrame`. `s.inReset = false` says that RESET_N is high (R28, log 7). -/

open Sys2Proof Sys2Proof.Machine Sys2Proof.Safety

/-! ### The queue of commands -/

/-- The command at the front of the queue is run on the state with the queue's rest; the empty queue idles (log 4). -/
def Obligations.FrontCommandRuns : Prop :=
  (∀ (c : Instr) (rest : List Instr) (s : State), step { s with pending := c :: rest } = exec c { s with pending := rest }) ∧
    ∀ s : State, s.pending = [] → step s = .next s

/-- Every command answers a next state, and leaves the queue of waiting commands alone. -/
def Obligations.EveryCommandCompletes : Prop :=
  ∀ (c : Instr) (s : State), ∃ t, exec c s = .next t ∧ t.pending = s.pending

/-! ### Resets -/

/-- State.reset is what COLD_START leaves at the levels of log 5 (the model's choice of levels). -/
def Obligations.ResetIsAColdStart : Prop := exec (.coldStart afterResetPins) State.reset = .next State.reset

/-- R26, R27, R54, R55, R79, R99, R121, R145, R167, R182, R197, R205: the values `r` that a cold start gives every unit whatever
stood before; scan mode, evaluation, presence, discharge selection, round 0 and auto power-on follow from them. The model's own:
last_reason NONE in the packs' values (log 23), DSG_SEL NONE before its first decision (log 84) and the order of what follows, in
`beginAgain` (log 44; pack 0 before pack 1, log 63). -/
def Obligations.ColdStartValues : Prop :=
  ∀ (pins : PinLevels) (s : State), ∃ r, exec (.coldStart pins) s = .next (settle (autoPowerOn (beginAgain r))) ∧
    r.pins = pins ∧ r.inReset = false ∧ r.mem = [] ∧ r.posted = [] ∧ r.queue = ⟨0, 0, emptyStale⟩ ∧
    r.link = ⟨0#32, 0#32, 0#32, 0#32, 0xFFFF#16, List.replicate 17 0#16⟩ ∧
    r.power.straps = sampleStraps pins.straps ∧ r.power.levels = seedLevels pins.inputs (sampleStraps pins.straps) ∧
    r.power.state = .off ∧ r.power.enStby = false ∧ r.power.enMain = false ∧ r.power.hrstAsserted = true ∧
    r.power.table = romPlatform ∧ r.power.heartbeat = .disarmed ∧ r.power.pendingWake = [] ∧ r.power.wakeFactors = [] ∧
    r.power.wakeFirst = none ∧ r.power.snapshot = ⟨pins.inputs.lid, pins.inputs.acp, pins.inputs.wakeAux⟩ ∧
    r.power.heldMs = none ∧ r.power.comboMs = none ∧ r.power.ignore = false ∧ r.power.delay = none ∧
    r.power.graceMs = none ∧ r.power.shutdownCause = .none ∧ r.power.cause = .none ∧
    r.kbd = resetKeyboard romKeymap ∧ r.portA.state = .idle ∧ r.portB.state = .idle ∧
    r.engineA.list = romPollA ∧ r.engineB.list = romPollB ∧ (∀ k, r.pack k = resetPack) ∧
    r.dsg = ⟨none, none, false⟩ ∧ r.chg.profile = romChargeProfile ∧ r.chg.mode = .full ∧ r.chg.cap = none ∧
    r.chg.inhibit = ⟨false, false, false⟩ ∧ r.th.table = romThermal ∧ r.th.curves = romFanCurves ∧
    r.th.boostMs = none ∧ r.tripActive = false

/-- R26, R28, R79, R121, R145, R167: while RESET_N is low the rails are off, HRST_N and CHG_INH asserted, the fans at 100%, the
side buses released, ALERT_N released (log 31), and nothing else moves; the values `r` that its rise leaves: OFF, with the two kept
straps, shutdown_cause and DSG_SEL, no auto power-on; the same rise without a pin reset is no event (log 2). The model's own:
last_reason NONE in the packs' values (log 23) and the order of what follows, in `beginAgain` (log 44; pack 0 before pack 1,
log 63). -/
def Obligations.PinReset : Prop :=
  (∀ s : State, ∃ t, exec .pinResetAssert s = .next t ∧
     t = { s with inReset := true, power := { s.power with enStby := false, enMain := false, hrstAsserted := true } } ∧
     chgInhAsserted t = true ∧ chgSel t = none ∧ alertAsserted t = false ∧ (∀ f, pwmDuty t f = 100) ∧
     ∀ p, portDrives t p = false) ∧
  (∀ (straps : StrapPins) (la lb : BusLine) (s : State),
     (s.inReset = true → ∃ r, exec (.pinResetRelease straps la lb) s = .next (settle (beginAgain r)) ∧
       r.inReset = false ∧ r.mem = [] ∧ r.posted = [] ∧ r.queue = ⟨0, 0, emptyStale⟩ ∧
       r.link = ⟨0#32, 0#32, 0#32, 0#32, 0xFFFF#16, List.replicate 17 0#16⟩ ∧
       r.power.state = .off ∧ r.power.enStby = false ∧ r.power.enMain = false ∧ r.power.hrstAsserted = true ∧
       r.power.cause = .none ∧ r.power.shutdownCause = s.power.shutdownCause ∧ r.power.heartbeat = .disarmed ∧
       r.power.straps = { sampleStraps straps with
         packCount := s.power.straps.packCount, columns := s.power.straps.columns } ∧
       r.power.levels = seedLevels s.pins.inputs r.power.straps ∧ r.power.table = romPlatform ∧
       r.kbd = resetKeyboard romKeymap ∧ r.engineA.list = romPollA ∧ r.engineB.list = romPollB ∧
       (∀ k, r.pack k = resetPack) ∧ r.dsg.selected = s.dsg.selected ∧ r.chg.profile = romChargeProfile ∧ r.th.table = romThermal) ∧
     (s.inReset = false → exec (.pinResetRelease straps la lb) s = .next s))

/-- R28 (log 7): while RESET_N is low no event of the running part happens: every other command leaves the state as it
is, but for the levels standing on the pins. -/
def Obligations.NothingRunsInReset : Prop :=
  ∀ (c : Instr) (s : State), s.inReset = true → (∀ pins, c ≠ .coldStart pins) → c ≠ .pinResetAssert →
    (∀ a b d, c ≠ .pinResetRelease a b d) → ∃ pins, exec c s = .next { s with pins := pins }

/-! ### Filtered inputs -/

/-- R1: a raw level moves: its count goes on, starts from zero, or is discarded, and nothing else changes; the presence line
of pack 1 is not filtered while PACK_COUNT is 1, and only its pin moves. -/
def Obligations.RawInputCounts : Prop :=
  (∀ (i : FilteredInput) (level : Bool) (s : State), s.inReset = false → isFiltered s i = true →
     ∃ t, exec (.rawInputChange i level) s = .next t ∧
       inputLevel t.pins.inputs i = level ∧ t.power.levels = s.power.levels ∧
       (level = inputLevel s.power.levels i → inputCount t.power.counts i = none) ∧
       (level ≠ inputLevel s.power.levels i →
         inputCount t.power.counts i = some ((inputCount s.power.counts i).getD 0)) ∧
       (∀ j, j ≠ i → inputLevel t.pins.inputs j = inputLevel s.pins.inputs j ∧
         inputCount t.power.counts j = inputCount s.power.counts j) ∧
       ∃ pins counts, t = { s with pins := { s.pins with inputs := pins }, power := { s.power with counts := counts } }) ∧
  (∀ (level : Bool) (s : State), s.power.straps.packCount ≠ 2 →
     exec (.rawInputChange .presence1 level) s =
       .next { s with pins := { s.pins with inputs := { s.pins.inputs with presence1 := level } } })

/-- R1, R2: a filtered level changes only at the completion of its own count, to the raw level, or at a restart. -/
def Obligations.FilteredLevelsMoveAtTheirEvents : Prop :=
  ∀ (c : Instr) (s t : State) (i : FilteredInput), s.inReset = false → exec c s = .next t →
    (∀ pins, c ≠ .coldStart pins) → (∀ r, c ≠ .powerGoodFall r) → c ≠ .railWaitTimeout → c ≠ .combinationTimerExpiry →
    inputLevel t.power.levels i ≠ inputLevel s.power.levels i →
      countRuns s i = true ∧ inputLevel t.power.levels i = inputLevel s.pins.inputs i ∧
        (c = .lidChange ∧ i = .lid ∨ c = .adapterChange ∧ i = .acp ∨ c = .auxWakeChange ∧ i = .wakeAux ∨
          (∃ k, c = .packPresenceChange k ∧ i = presenceInput k) ∨
          (c = .buttonPress ∨ c = .buttonRelease) ∧ i = .pwrbtn)

/-- R2, R12, R31: the lid's change takes its level and decides the scan mode; the auxiliary input's change takes its level. The
wake conditions are looked at in the settling. -/
def Obligations.LidAndAuxTakeLevels : Prop :=
  (∀ s : State, s.inReset = false → countRuns s .lid = true → ∃ u, exec .lidChange s = .next (settle u) ∧
     u.power.levels.lid = s.pins.inputs.lid ∧ u.power.counts.lid = none ∧ u.kbd.mode = decideMode u ∧
     u.power = { s.power with
       levels := { s.power.levels with lid := s.pins.inputs.lid }
       counts := { s.power.counts with lid := none } } ∧
     (s.power.state ≠ .run → s.kbd.mode ≠ .full → u.queue = s.queue ∧ u.mem = s.mem) ∧
     sameBus s u ∧ samePacks s u ∧ sameControl s u ∧ sameButQueue s u ∧ u.posted = s.posted) ∧
  (∀ s : State, s.inReset = false → countRuns s .wakeAux = true → ∃ u, exec .auxWakeChange s = .next (settle u) ∧
     u.power = { s.power with
       levels := { s.power.levels with wakeAux := s.pins.inputs.wakeAux }
       counts := { s.power.counts with wakeAux := none } } ∧
     u.mem = s.mem ∧ u.queue = s.queue ∧ u.kbd = s.kbd ∧ u.posted = s.posted ∧ sameBus s u ∧ samePacks s u ∧
     sameControl s u)

/-- R2, R10, R23, R117: the adapter's change: its level, the end of a grace, DSG_SEL, and auto power-on in OFF. -/
def Obligations.AdapterChangeTakesLevel : Prop :=
  ∀ s : State, s.inReset = false → countRuns s .acp = true → ∃ u, exec .adapterChange s = .next (settle u) ∧
    u.power.levels.acp = s.pins.inputs.acp ∧ u.power.counts.acp = none ∧
    (s.pins.inputs.acp = true → u.dsg.selected = none ∧ u.dsg.critical = false ∧ u.power.graceMs = none) ∧
    (s.pins.inputs.acp = true → s.power.state = .off → autoPowerOnInEffect s = true → s.tripActive = false →
      wokenBy u .autoOn) ∧
    (s.pins.inputs.acp = true → s.power.state = .off → s.tripActive = true → u.power.state = .off) ∧
    u.pack0 = s.pack0 ∧ u.pack1 = s.pack1 ∧ u.th = s.th ∧ sameEngines s u ∧ sameButQueue s u

/-- R105, R106, R111, R72: a rise takes an absent pack to DETECTED and offers step 1 of its probe, which an IDLE port grants at
once (PROBING) unless a write group has just been granted; a fall takes it to ABSENT, with
its values, ages and identity kept. The command completes in every state in which the count runs; the down-key table stays
wherever the scan mode is the one R31 decides (an invariant, `StepKeepsScanMode`). -/
def Obligations.PackPresenceChangeMovesPack : Prop :=
  ∀ (k : PackId) (s : State), s.inReset = false → countRuns s (presenceInput k) = true →
    ∃ u, exec (.packPresenceChange k) s = .next (settle u) ∧
      u.seated k = inputLevel s.pins.inputs (presenceInput k) ∧
      (inputLevel s.pins.inputs (presenceInput k) = true → (s.pack k).state = .absent →
        s.portA.state ≠ .halted → s.portA.state ≠ .disabled →
          (s.portA.state ≠ .idle ∨ nothingWaits s.portA = false →
            (u.pack k).state = .detected ∧ (u.pack k).reason = .present) ∧
          (s.portA.state = .idle → nothingWaits s.portA = true →
            ((u.pack k).state = .detected ∧ (u.pack k).reason = .present ∧ ∃ g, u.portA.granted = some (.charger g)) ∨
            ((u.pack k).state = .probing ∧ (u.pack k).reason = .probeStart ∧
              ∃ y, u.portA.granted = some (.probe y) ∧ y.pack = k ∧ y.step = 1)) ∧
          (u.pack k).probe = some ⟨1, (targetOf s.engineA.list (packTarget s.chg.profile k)).address,
            (targetOf s.engineA.list (packTarget s.chg.profile k)).pec⟩) ∧
      (inputLevel s.pins.inputs (presenceInput k) = true → (s.pack k).state ≠ .absent → u.pack k = s.pack k) ∧
      (inputLevel s.pins.inputs (presenceInput k) = false → (s.pack k).state ≠ .absent →
        (u.pack k).state = .absent ∧ (u.pack k).reason = .removed ∧ (u.pack k).window = [] ∧
        (u.pack k).implausibleRun = 0 ∧ (u.pack k).failures = 0 ∧ (u.pack k).probe = none ∧
        (u.pack k).request = none ∧ (u.pack k).values = (s.pack k).values ∧ (u.pack k).ages = (s.pack k).ages ∧
        (u.pack k).identity = (s.pack k).identity) ∧
      u.pack (otherPack k) = s.pack (otherPack k) ∧ u.th = s.th ∧ u.engineA = s.engineA ∧ u.engineB = s.engineB ∧
      u.portB = s.portB ∧ (scanModeDecided s → u.kbd.table = s.kbd.table) ∧
      ((s.pack k).request = none → u.posted = s.posted ∧ sameButQueue s u)

/-- R16: what a filtered press does in each power state; a filtered release stops the two button timers, clears the ignore
flag and the mark, and is reported only in RUN for a reported press. -/
def Obligations.ButtonByPowerState : Prop :=
  (∀ s : State, s.inReset = false → buttonDue false s = true → ∃ u, exec .buttonPress s = .next (settle u) ∧
     u.power.levels.pwrbtn = false ∧ u.power.counts.pwrbtn = none ∧
     (s.power.ignore = true → u.power.heldMs = s.power.heldMs ∧ u.power.state = s.power.state ∧
       u.power.pendingWake = s.power.pendingWake ∧ u.queue = s.queue) ∧
     (s.power.ignore = false → u.power.heldMs = some 0 ∧
       (s.power.state = .run → sleepDelay s.power = false → u.power.reported = true ∧ u.power.state = .run) ∧
       (s.power.state = .run ∧ sleepDelay s.power = true ∨ s.power.state = .suspending →
         .pwrbtn ∈ u.power.pendingWake ∧ u.power.state = s.power.state ∧ u.queue = s.queue) ∧
       (s.power.state = .sleep ∨ s.power.state = .off ∧ s.tripActive = false → wokenBy u .pwrbtn) ∧
       (s.power.state = .off → s.tripActive = true → u.power.state = .off) ∧
       (s.power.state = .waking ∨ s.power.state = .shuttingDown → u.power.state = s.power.state ∧ u.queue = s.queue)) ∧
     sameBus s u ∧ samePacks s u ∧ sameControl s u ∧ sameButQueue s u ∧ u.posted = s.posted) ∧
  (∀ s : State, s.inReset = false → buttonDue true s = true → ∃ u, exec .buttonRelease s = .next (settle u) ∧
     u.power.levels.pwrbtn = true ∧ u.power.counts.pwrbtn = none ∧ u.power.heldMs = none ∧ u.power.comboMs = none ∧
     u.power.ignore = false ∧ u.power.reported = false ∧ u.power.state = s.power.state ∧
     (s.power.reported = false ∨ s.power.state ≠ .run → u.queue = s.queue ∧ u.mem = s.mem) ∧
     u.kbd = s.kbd ∧ u.posted = s.posted ∧ sameBus s u ∧ samePacks s u ∧ sameControl s u ∧ sameButQueue s u)

/-! ### Power sequences -/

/-- R5, R23, R31: the rise that a wait of WAKING expects ends the wait, any other rise only moves the pin; the end of the reset
hold enters RUN and releases the host. -/
def Obligations.WakingSteps : Prop :=
  (∀ (rail : Rail) (s : State), s.inReset = false → powerGood s rail = false →
     ∃ u, exec (.powerGoodRise rail) s = .next (settle u) ∧ powerGood u rail = true ∧
       (∃ pins power, u = { s with pins := pins, power := power }) ∧
       u.power.state = s.power.state ∧ u.queue = s.queue ∧ u.mem = s.mem ∧
       (rail = .stby → s.power.step = .stbyHigh → u.power.enMain = true ∧ u.power.seenStby = true ∧
         u.power.step = if s.pins.pgMain then .resetHold else .mainHigh) ∧
       (rail = .main → s.power.step = .mainHigh →
         u.power.step = .resetHold ∧ u.power.seenMain = true ∧ u.power.stepMs = 0) ∧
       (¬ (rail = .stby ∧ s.power.step = .stbyHigh) → ¬ (rail = .main ∧ s.power.step = .mainHigh) →
         u = setPowerGood rail true s)) ∧
  (∀ s : State, s.inReset = false → s.power.step = .resetHold → ∃ u, exec .resetHoldExpiry s = .next (settle u) ∧
     u.power.state = .run ∧ u.power.hrstAsserted = false ∧ u.power.step = .none ∧
     u.power.cause = completionCause s.power ∧ u.kbd.mode = (if s.lidOpen then .full else .idle) ∧
     u.power.wakeFactors = s.power.wakeFactors ∧ u.power.wakeFirst = s.power.wakeFirst ∧
     (s.dsg.critical = true → u.power.graceMs = some 0) ∧ u.power.levels = s.power.levels ∧
     sameBus s u ∧ samePacks s u ∧ sameControl s u ∧ sameButQueue s u ∧ u.posted = s.posted)

/-- R5 to R8, R19: a fall in RUN or of a rail seen high is a RAIL_FAULT, the fall that a wait expects ends the wait; a limit
that runs out is a RAIL_TIMEOUT shutdown in WAKING, elsewhere the sequence goes on; a combination shutdown that reaches OFF ends
in the restart from the pins, with shutdown_cause kept. The model's own: that the restart is part of the command that reaches
OFF (log 52), and the order among the units (log 44) and packs (log 63) in `beginAgain`. Not stated here: a combination
shutdown's fall of PG_MAIN and its RAIL_WAIT_TIMEOUT, a SUSPENDING timeout with a pending wake, a PG_STBY already low when the
wait for PG_MAIN ends. -/
def Obligations.RailsFallOrTimeOut : Prop :=
  (∀ (rail : Rail) (s : State), s.inReset = false → powerGood s rail = true → s.power.seqCause ≠ .combination →
     ∃ u, exec (.powerGoodFall rail) s = .next (settle u) ∧ powerGood u rail = false ∧
       (s.power.state = .run ∨ s.power.state = .suspending ∧ rail = .stby ∨ s.power.state = .sleep ∧ rail = .stby ∨
         s.power.state = .waking ∧ rail = .stby ∧ s.power.seenStby = true ∨
         s.power.state = .waking ∧ rail = .main ∧ s.power.seenMain = true → shutDownWith u .railFault) ∧
       (s.power.state = .suspending → rail = .main → s.power.pendingWake = [] →
         u.power.state = .sleep ∧ u.power.step = .none ∧ u.power.cause = completionCause s.power) ∧
       (s.power.state = .suspending → rail = .main → s.power.pendingWake ≠ [] →
         u.power.state = .waking ∧ u.power.cause = .wake ∧ u.power.wakeFirst = s.power.pendingWake.head?) ∧
       (s.power.state = .shuttingDown → rail = .main → s.power.step = .mainLow → s.pins.pgStby = true →
         u.power.state = .shuttingDown ∧ u.power.enStby = false ∧ u.power.step = .stbyLow) ∧
       (s.power.state = .shuttingDown → rail = .stby → s.power.step = .stbyLow →
         u.power.state = .off ∧ u.power.cause = completionCause s.power ∧ u.queue.read = 0 ∧ u.queue.write = 1) ∧
       samePacks s u ∧ sameEngines s u ∧ sameButQueue s u ∧ u.power.levels = s.power.levels) ∧
  (∀ s : State, s.inReset = false → s.power.seqCause ≠ .combination →
     ∃ u, exec .railWaitTimeout s = .next (settle u) ∧
       (s.power.state = .waking → s.power.step = .stbyHigh ∨ s.power.step = .mainHigh → shutDownWith u .railTimeout) ∧
       (s.power.state = .suspending → s.power.step = .mainLow → s.power.pendingWake = [] →
         u.power.state = .sleep ∧ u.power.cause = .railTimeout) ∧
       (s.power.state = .shuttingDown → s.power.step = .mainLow → s.pins.pgStby = true →
         u.power.state = .shuttingDown ∧ u.power.enStby = false ∧ u.power.step = .stbyLow ∧ u.power.timedOut = true) ∧
       (s.power.state = .shuttingDown → s.power.step = .stbyLow → u.power.state = .off ∧ u.power.cause = .railTimeout) ∧
       samePacks s u ∧ sameEngines s u ∧ sameButQueue s u ∧ u.power.levels = s.power.levels) ∧
  (∀ s : State, s.inReset = false → s.power.state = .shuttingDown → s.power.step = .stbyLow →
     s.power.seqCause = .combination → s.pins.pgStby = true →
     ∃ r, exec (.powerGoodFall .stby) s = .next (settle (beginAgain r)) ∧ r.power.state = .off ∧
       r.power.shutdownCause = s.power.shutdownCause ∧ r.power.straps.packCount = s.power.straps.packCount ∧
       r.power.straps.columns = s.power.straps.columns ∧ r.mem = [] ∧ r.posted = [] ∧ r.queue = ⟨0, 0, emptyStale⟩ ∧
       r.power.levels = seedLevels s.pins.inputs r.power.straps ∧ r.power.heldMs = none ∧ r.power.ignore = false ∧
       r.kbd = resetKeyboard romKeymap ∧ r.chg.profile = romChargeProfile)

/-- R7, R8, R14, R6: the suspend delay's end enters SUSPENDING or SHUTTING_DOWN with cause REQUEST. -/
def Obligations.SuspendDelayExpiryLeavesRun : Prop :=
  ∀ (d : SuspendDelay) (s : State), s.inReset = false → s.power.delay = some d → s.power.state = .run →
    ∃ u, exec .suspendDelayExpiry s = .next (settle u) ∧
      (d.target = .off → shutDownWith u .request ∧ u.power.delay = none ∧ u.power.heartbeat = .disarmed) ∧
      (d.target = .sleep → s.pins.pgMain = true →
        u.power.state = .suspending ∧ u.power.cause = .request ∧ u.power.hrstAsserted = true ∧
        u.power.enMain = false ∧ u.power.step = .mainLow ∧ u.power.stepMs = 0 ∧ u.power.delay = none ∧
        u.power.graceMs = none ∧ u.power.heartbeat = .disarmed ∧ u.power.pendingWake = s.power.pendingWake ∧
        u.kbd.mode = .idle ∧ u.th.boostMs = none) ∧
      samePacks s u ∧ sameEngines s u ∧ sameButQueue s u ∧ u.power.levels = s.power.levels

/-- R17, R18, R23: the long press shuts down where it acts and sets the ignore flag, the combination timer holds it back; the
ends of the combination timer and of the critical grace shut RUN down. -/
def Obligations.ForcedShutdowns : Prop :=
  (∀ s : State, s.inReset = false → s.power.heldMs.isSome = true → s.power.ignore = false →
     ∃ u, exec .longPressExpiry s = .next (settle u) ∧
       (s.power.comboMs = none → canShutDown s.power.state = true →
         shutDownWith u .longPress ∧ u.power.ignore = true ∧ u.power.reported = false) ∧
       (s.power.comboMs = none → canShutDown s.power.state = false →
         u.power.state = s.power.state ∧ u.power.ignore = true ∧ u.power.shutdownCause = s.power.shutdownCause ∧
         u.power.reported = s.power.reported ∧ u.queue = s.queue) ∧
       (s.power.comboMs.isSome = true →
         u.power.state = s.power.state ∧ u.power.ignore = false ∧ u.power.comboMs = s.power.comboMs) ∧
       samePacks s u ∧ sameEngines s u ∧ sameButQueue s u) ∧
  (∀ s : State, s.inReset = false → s.power.state = .run → s.pins.pgMain = true →
     (s.power.comboMs.isSome = true → ∃ u, exec .combinationTimerExpiry s = .next (settle u) ∧
       shutDownWith u .combination ∧ u.power.ignore = true ∧ u.power.comboMs = none ∧
       samePacks s u ∧ sameEngines s u ∧ sameButQueue s u) ∧
     (s.power.graceMs.isSome = true → ∃ u, exec .criticalGraceExpiry s = .next (settle u) ∧ shutDownWith u .critical ∧
       samePacks s u ∧ sameEngines s u ∧ sameButQueue s u))

/-! ### Heartbeat -/

/-- R20, R171: a write inside the heartbeat word is stored and arms, restarts or resumes the watch. -/
def Obligations.HeartbeatWriteByState : Prop :=
  ∀ (first : Fin 4) (bytes : List Byte) (s : State), s.inReset = false → memoryCanonical s → bytes ≠ [] →
    first.val + bytes.length ≤ 4 →
    ∃ u, exec (.heartbeatWrite first bytes) s = .next (settle u) ∧
      Memory.readList u.mem (0x00F0 + first.val) bytes.length = bytes ∧
      (s.power.state = .run → s.power.heartbeat ≠ .silent →
        u.power.heartbeat = .watching ∧ u.power.heartbeatMs = 0 ∧ u.queue = s.queue) ∧
      (s.power.state = .run → s.power.heartbeat = .silent → s.power.pulseMs = none →
        u.power.heartbeat = .watching ∧ u.power.heartbeatMs = 0) ∧
      (s.power.state = .run → s.power.heartbeat = .silent → s.power.pulseMs.isSome = true →
        u.power = s.power ∧ u.queue = s.queue) ∧
      (s.power.state ≠ .run → u.power = s.power ∧ u.queue = s.queue) ∧
      (∀ a, a < 0x00F0 + first.val ∨ 0x00F0 + first.val + bytes.length ≤ a → a < 0x0110 ∨ 0x0510 ≤ a →
        Memory.read u.mem a = Memory.read s.mem a) ∧
      u.kbd = s.kbd ∧ u.posted = s.posted ∧ sameBus s u ∧ samePacks s u ∧ sameControl s u

/-- R21, R22: the watch timer's end withdraws the overrides and does what heartbeat_action names. -/
def Obligations.HeartbeatExpiryActs : Prop :=
  ∀ s : State, s.inReset = false → s.power.heartbeat = .watching → s.power.state = .run →
    ∃ u, exec .heartbeatExpiry s = .next (settle u) ∧ u.chg.cap = none ∧ u.th.fan0.override = 0 ∧
      u.th.fan1.override = 0 ∧ u.overrideValid = false ∧
      (s.power.table.heartbeatAction = .none → u.power.heartbeat = .silent ∧ u.power.state = .run) ∧
      (s.power.table.heartbeatAction = .resetHost → u.power.heartbeat = .silent ∧ u.power.state = .run ∧
        u.power.hrstAsserted = true ∧ u.power.pulseMs = some 0 ∧ u.power.delay = none) ∧
      (s.power.table.heartbeatAction = .forceOff → shutDownWith u .heartbeat ∧ u.power.heartbeat = .disarmed) ∧
      samePacks s u ∧ sameEngines s u ∧ sameButQueue s u

/-! ### Keyboard -/

/-- R30, R34: one completed pass debounces every scanned position; the positions beyond the matrix stay as they are. -/
def Obligations.ScanPassDebounces : Prop :=
  ∀ (columns : List Byte) (s : State), s.inReset = false → s.kbd.mode = .full →
    ∃ u, exec (.scanPass columns) s = .next (settle u) ∧ u.kbd.passMs = 0 ∧ u.kbd.mode = .full ∧
      u.kbd.keymap = s.kbd.keymap ∧ u.power = s.power ∧ samePacks s u ∧ sameEngines s u ∧ sameButQueue s u ∧
      ∀ (n : Nat) (p : KeyPosition), s.kbd.positions[n]? = some p → ∃ q, u.kbd.positions[n]? = some q ∧
        (8 * s.power.straps.columns ≤ n → q = p) ∧
        (n < 8 * s.power.straps.columns →
          (rawDown columns n = p.down → q = ⟨p.down, 0⟩) ∧
          (rawDown columns n ≠ p.down →
            (p.counter + 1 < s.kbd.keymap.debouncePasses → q = ⟨p.down, p.counter + 1⟩) ∧
            (s.kbd.keymap.debouncePasses ≤ p.counter + 1 → q = ⟨rawDown columns n, 0⟩)))

/-- R36 to R41: with no stale class, a press outside a full table, with a code, unsuspected and without a local action, adds a
CONFIRMED entry at the end of the table, reported exactly when its KEY DOWN is placed: where nothing is owed and there is room, its
unit stands in the ring at W, W moves by one and REPORT is set; otherwise nothing is stored. -/
def Obligations.PressAddsEntry : Prop :=
  ∀ (n : Nat) (s : State), s.kbd.table.length < 12 → (∀ e ∈ s.kbd.table, e.position ≠ n) →
    lookupCode s.kbd n ≠ 0#16 → suspected s.kbd n = false → actionOf (lookupCode s.kbd n) = .none →
    s.queue.stale = emptyStale →
      (press n s).kbd.table = s.kbd.table ++ [⟨n, lookupCode s.kbd n, fnInForce s.kbd, true,
        decide (s.kbd.owed = [] ∧ 1 ≤ room s.queue), .none, s.kbd.pressCount + 1⟩] ∧
      (s.kbd.owed = [] → 1 ≤ room s.queue →
        (press n s).mem = Memory.writeList s.mem (unitOffset s.queue.write)
          (keyUnit .down n (lookupCode s.kbd n) s.link.partTime) ∧
        (press n s).queue = { s.queue with write := (s.queue.write + 1) % 128 } ∧
        (press n s).link.alertCause = s.link.alertCause ||| 2#32) ∧
      (¬ (s.kbd.owed = [] ∧ 1 ≤ room s.queue) → (press n s).kbd.overflow = true ∧ (press n s).queue = s.queue ∧
        (press n s).mem = s.mem ∧ (press n s).link.alertCause = s.link.alertCause)

/-- R43: the UP of a key carries the code latched at the press, whatever the keymap `m` and the layer are by then: at a
release, in the sweep, and when it is owed and placed later. -/
def Obligations.KeyUpCarriesLatchedCode : Prop :=
  (∀ (n : Nat) (e : DownKey) (m : Keymap) (s : State),
     s.kbd.table.find? (fun x => x.position == n) = some e → e.reported = true → s.queue.stale = emptyStale →
       (s.kbd.owed = [] → 1 ≤ room s.queue →
         (release n { s with kbd := { s.kbd with keymap := m } }).1.mem =
           Memory.writeList s.mem (unitOffset s.queue.write) (keyUnit .up e.position e.code s.link.partTime)) ∧
       (s.kbd.owed ≠ [] ∨ room s.queue = 0 →
         ⟨e.position, e.code, e.rank, false⟩ ∈ (release n { s with kbd := { s.kbd with keymap := m } }).1.kbd.owed)) ∧
  (∀ (e : DownKey) (m : Keymap) (s : State), s.queue.stale = emptyStale →
     (s.kbd.owed = [] → 1 ≤ room s.queue →
       (releaseReported e true { s with kbd := { s.kbd with keymap := m } }).mem =
         Memory.writeList s.mem (unitOffset s.queue.write) (keyUnit .sweepUp e.position e.code s.link.partTime)) ∧
     (s.kbd.owed ≠ [] ∨ room s.queue = 0 →
       ⟨e.position, e.code, e.rank, true⟩ ∈ (releaseReported e true { s with kbd := { s.kbd with keymap := m } }).kbd.owed)) ∧
  (∀ (r : OwedRelease) (s : State), 1 ≤ room s.queue → (placeOwed [r] s).mem =
     Memory.writeList s.mem (unitOffset s.queue.write)
       (keyUnit (if r.sweep then .sweepUp else .up) r.position r.code s.link.partTime))

/-- R33: the raw row level moves and in WAKE_SCAN its count starts, goes on or is discarded; when the filter completes, the
filtered row-active level changes. -/
def Obligations.RowLevelFiltered : Prop :=
  (∀ (active : Bool) (s : State), s.inReset = false →
     (s.kbd.mode = .wakeScan → exec (.rawRowChange active) s = .next { s with
       pins := { s.pins with rowActive := active }
       kbd := { s.kbd with rowCount := if active = s.kbd.rowActive then none else some (s.kbd.rowCount.getD 0) } }) ∧
     (s.kbd.mode ≠ .wakeScan →
       exec (.rawRowChange active) s = .next { s with pins := { s.pins with rowActive := active } })) ∧
  (∀ s : State, s.inReset = false → s.kbd.mode = .wakeScan → s.kbd.rowCount.isSome = true →
     ∃ u, exec .rowFilterExpiry s = .next (settle u) ∧
       u.kbd = { s.kbd with rowActive := !s.kbd.rowActive, rowCount := none } ∧ u.power = s.power ∧ u.mem = s.mem ∧
       u.queue = s.queue ∧ u.posted = s.posted ∧ sameBus s u ∧ samePacks s u ∧ sameControl s u)

/-! ### Side-bus ports -/

/-- R57, R58, R61, R72, R74, R76, R138, R139: a host transfer's transaction ends: its slot is completed with the outcome and the
bytes read, and the port is IDLE; a write group on port A makes its second transaction only after an OK first, its end stores
the outcome and with OK the pair written. The model's own: detail 0 (log 47), the lines left as the command brings them (log 6). -/
def Obligations.TransactionEnds : Prop :=
  (∀ (p : PortId) (n : Nat) (reply : Reply) (line : BusLine) (s : State), s.inReset = false → memoryCanonical s →
     onBus s p = some (.host n) → (s.port p).disableDue = false →
     let r := transactionOutcome (hostTransaction s n) reply
     ∃ u, exec (.transactionEnd p (.ran reply) line) s = .next (settle u) ∧ doneWith u n (resultOf r.1) 0 ∧
       slotParam u n 8 = r.2.length ∧ Memory.readList u.mem (slotBase n + 32) r.2.length = r.2 ∧
       (u.port p).state = .idle ∧ (u.port p).granted = none ∧ (u.port p).lastOutcome = r.1 ∧
       (u.port p).lastTarget = slotParam s n 1 ∧ (u.line p) = line ∧ (u.port p).hosts = (s.port p).hosts ∧
       sameButSlot n s u ∧ samePacks s u ∧ sameControl s u ∧ samePlatform s u ∧ u.engineA = s.engineA ∧
       u.engineB = s.engineB) ∧
  (∀ (g : WriteGroup) (reply : Reply) (line : BusLine) (s : State), s.inReset = false →
     onBus s .a = some (.charger g) → s.portA.disableDue = false →
     let o := (transactionOutcome (groupTransaction g s.portA.second) reply).1
     ∃ u, exec (.transactionEnd .a (.ran reply) line) s = .next (settle u) ∧
       (s.portA.second = false → o = .ok → dataStuck line = false →
         u.portA.state = .busy ∧ u.portA.second = true ∧ u.portA.granted = some (.charger g) ∧ u.chg = s.chg) ∧
       (s.portA.second = true ∨ o ≠ .ok → u.portA.state = .idle ∧ u.portA.granted = none ∧ u.chg.writeOutcome = o) ∧
       (s.portA.second = true → o = .ok → u.chg.written = some ⟨g.current, g.voltage⟩ ∧ u.chg.writeFailures = 0) ∧
       samePacks s u ∧ sameEngines s u ∧ u.power = s.power ∧ u.kbd = s.kbd ∧ u.th = s.th ∧ sameButQueue s u)

/-- R64, R65: the data line found low, or a stretch past the clock-low limit, puts the port into RECOVERING with its first
attempt; the unit goes back to the head of its list, or its host transfer is completed with CLOCK_TIMEOUT. A poll entry in its
list again is handed back as skipped by the settling (R65, log 10). The model's own: that data found low on a port about to be
disabled starts the recovery (log 59), and detail 0 (log 47). Not stated here: the CLOCK_TIMEOUT of a poll entry, and one on a
port about to be disabled (log 19). -/
def Obligations.StuckBusRecovers : Prop :=
  (∀ (p : PortId) (w : Work) (line : BusLine) (s : State), s.inReset = false → onBus s p = some w →
     ∃ u, exec (.transactionEnd p .dataFoundLow line) s = .next (settle u) ∧
       (u.port p).state = .recovering ∧ (u.port p).stuck = .dataLow ∧ (u.port p).attempts = 0 ∧
       (u.port p).running = true ∧ (u.port p).granted = none ∧
       (∀ n, w = .host n → (u.port p).hosts = n :: (s.port p).hosts) ∧
       (∀ n, w = .poll n → (u.port p).poll = some n) ∧
       (∀ g, w = .charger g → (u.port p).charger = some ((s.port p).charger.getD g)) ∧
       (∀ x, w = .probe x → x.orphan = false → (u.port p).probes = x :: (s.port p).probes) ∧
       u.power = s.power ∧ u.kbd = s.kbd ∧ u.posted = s.posted ∧ u.dsg = s.dsg ∧ u.engineA = s.engineA ∧
       u.engineB = s.engineB ∧ sameControl s u ∧ sameButQueue s u) ∧
  (∀ (p : PortId) (w : Work) (s : State), s.inReset = false → memoryCanonical s → onBus s p = some w →
     (∀ n, w ≠ .poll n) → (s.port p).disableDue = false → ∃ u, exec (.clockTimeout p) s = .next (settle u) ∧
       (u.port p).state = .recovering ∧ (u.port p).stuck = .clockLow ∧ (u.port p).attempts = 0 ∧
       (u.port p).running = true ∧ (u.port p).granted = none ∧ (u.port p).lastOutcome = .clockTimeout ∧
       ∀ n, w = .host n → doneWith u n .clockTimeout 0 ∧ sameButSlotAndQueue n s u ∧ samePacks s u ∧ sameControl s u ∧
         u.power = s.power ∧ u.kbd = s.kbd)

/-- R66, R67, R69: how an attempt's end moves a port, by the attempts that have failed; `attemptResult` counts a pulse held low and
one not listed as the model does (log 70, log 34). The command completes in every state in
which the attempt runs; the down-key table stays wherever the scan mode is the one R31 decides (an invariant,
`StepKeepsScanMode`). -/
def Obligations.RecoveryAttemptEndByCount : Prop :=
  ∀ (p : PortId) (seen : AttemptSeen) (s : State), s.inReset = false → (s.port p).running = true →
    (s.port p).disableDue = false → (s.port p).state = .recovering ∨ (s.port p).state = .halted →
    let r := attemptResult seen
    ∃ u, exec (.recoveryAttemptEnd p seen) s = .next (settle u) ∧ (u.port p).pulses = r.1 ∧
      (r.2 = true → ((u.port p).state = .idle ∨ p = .a ∧ s.chg.inhibit.port = true ∧ (u.port p).state = .busy ∧
          ∃ g, (u.port p).granted = some (.charger g)) ∧ (u.port p).attempts = 0 ∧ (u.port p).stuck = .none ∧
        (u.port p).lastRecovery = .succeeded ∧ (u.port p).running = false ∧ (u.port p).busReset = none) ∧
      (r.2 = false → (s.port p).state = .recovering → (s.port p).attempts < 2 →
        (u.port p).state = .recovering ∧ (u.port p).attempts = (s.port p).attempts + 1 ∧ (u.port p).running = false ∧
        (u.port p).lastRecovery = .failed) ∧
      (r.2 = false → (s.port p).state = .recovering → 2 ≤ (s.port p).attempts →
        (u.port p).state = .halted ∧ (u.port p).attempts = 3 ∧ (u.port p).retryMs = some 0 ∧
        (u.port p).running = false ∧ (u.port p).hosts = [] ∧ (u.port p).charger = none ∧ (u.port p).busReset = none) ∧
      (r.2 = false → (s.port p).state = .halted →
        (u.port p).state = .halted ∧ (u.port p).attempts = (s.port p).attempts ∧ (u.port p).retryMs = some 0 ∧
        u.queue = s.queue ∧ u.mem = s.mem) ∧
      u.engineA = s.engineA ∧ u.engineB = s.engineB ∧ (scanModeDecided s → u.kbd.table = s.kbd.table) ∧ u.th = s.th

/-- R21, R69, R156, R159: the retry timer of a HALTED port begins one attempt; the RESET_HOST pulse ends, and takes override
validity with it where a write had armed the watch again (R22, R140; the model's reading, log 57); boost ends without a
record; a tach pulse of a present fan counts unless it is shorter than its window's rejector width. -/
def Obligations.TimersAndPulsesEnd : Prop :=
  (∀ (p : PortId) (s : State), s.inReset = false → (s.port p).state = .halted → (s.port p).retryMs.isSome = true →
     ∃ u, exec (.haltRetryExpiry p) s = .next (settle u) ∧
       u.port p = { s.port p with running := true, retryMs := none } ∧ u.mem = s.mem ∧ samePlatform s u ∧
       samePacks s u ∧ sameControl s u ∧ u.engineA = s.engineA ∧ u.engineB = s.engineB) ∧
  (∀ s : State, s.inReset = false → s.power.pulseMs.isSome = true → ∃ u, exec .resetPulseEnd s = .next (settle u) ∧
     u.power = { s.power with pulseMs := none, hrstAsserted := false, heartbeat := .disarmed, heartbeatMs := 0 } ∧
     u.kbd = s.kbd ∧ samePacks s u ∧ sameEngines s u ∧ sameButQueue s u ∧
     (s.overrideValid = false → u.mem = s.mem ∧ u.queue = s.queue ∧ sameBus s u ∧ sameControl s u) ∧
     (s.overrideValid = true → u.overrideValid = false ∧ u.chg.cap = none ∧ u.th = { s.th with
       fan0 := { s.th.fan0 with override := 0 }, fan1 := { s.th.fan1 with override := 0 } })) ∧
  (∀ s : State, s.inReset = false → s.th.boostMs.isSome = true → ∃ t, exec .boostExpiry s = .next t ∧
     t.th = { s.th with boostMs := none, boostLeft := 0 } ∧ t.mem = s.mem ∧ samePlatform s t ∧
     sameBus s t ∧ samePacks s t ∧ t.chg = s.chg ∧ t.link.alertCause = s.link.alertCause) ∧
  (∀ (f : FanId) (width : Nat) (s : State), s.inReset = false →
     (s.fanPresent f = true → width ≥ (if (s.fan f).wide then 4000 else 500) →
       exec (.tachPulse f width) s = .next (s.setFan f { s.fan f with count := (s.fan f).count + 1 })) ∧
     (s.fanPresent f = false ∨ width < (if (s.fan f).wide then 4000 else 500) → exec (.tachPulse f width) s = .next s))

/-- R58 to R61: the PEC of R60 makes every covered run of bytes with its PEC come out at 0; a write is sent with it; a read whose
PEC differs is a PEC_FAIL without data; a missing acknowledge is NACK_ADDR on an address byte and NACK_DATA elsewhere; a bad
count is BAD_COUNT. -/
def Obligations.TransactionOutcomes : Prop :=
  ((∀ bytes : List Byte, crc8 (bytes ++ [crc8 bytes]) = 0#8) ∧
   (∀ t : Transaction, t.pec = true → t.kind = .writeWord ∨ t.kind = .writeBlock →
     sentBytes t = sentBody t ++ [crc8 (sentBody t)]) ∧
   (∀ (t : Transaction) (r : Reply), t.pec = true → t.kind = .readWord → r.nackAt = none →
     (receivedByte r 2 ≠ crc8 (sentBody t ++ [receivedByte r 0, receivedByte r 1]) →
       transactionOutcome t r = (.pecFail, [])) ∧
     (receivedByte r 2 = crc8 (sentBody t ++ [receivedByte r 0, receivedByte r 1]) →
       transactionOutcome t r = (.ok, [receivedByte r 0, receivedByte r 1])))) ∧
  (∀ (t : Transaction) (r : Reply),
     (∀ i, r.nackAt = some i → i < (sentBytes t).length →
       transactionOutcome t r = (if isAddressByte t i then .nackAddr else .nackData, [])) ∧
     (r.nackAt = none → t.kind = .readBlock →
       (receivedByte r 0).toNat = 0 ∨ 32 < (receivedByte r 0).toNat ∨ t.readLength < (receivedByte r 0).toNat →
         transactionOutcome t r = (.badCount, [])))

/-- R71, R72, R73: which unit is granted, and what a grant does to the fairness count; work offered to an IDLE port with empty
lists is granted at once, and a write group to any IDLE port; a group offered while another is granted waits behind it. -/
def Obligations.ArbiterOrder : Prop :=
  ∀ x : Port,
    (∀ g, x.charger = some g → ∃ y, chooseWork x = some (.charger g, y) ∧ y = { x with charger := none }) ∧
    (∀ n rest, x.charger = none → x.hosts = n :: rest → x.fairness = 4 →
      chooseWork x = some (.host n, { x with hosts := rest })) ∧
    (∀ u rest, x.charger = none → x.fairness ≠ 4 ∨ x.hosts = [] → x.probes = u :: rest →
      chooseWork x = some (.probe u, { x with probes := rest })) ∧
    (∀ n, x.charger = none → x.fairness ≠ 4 ∨ x.hosts = [] → x.probes = [] → x.poll = some n →
      chooseWork x = some (.poll n, { x with poll := none })) ∧
    (∀ n rest, x.charger = none → x.probes = [] → x.poll = none → x.hosts = n :: rest →
      chooseWork x = some (.host n, { x with hosts := rest })) ∧
    (∀ n, fairnessAfter (.host n) x = 0) ∧
    (∀ n, fairnessAfter (.poll n) x = if x.hosts = [] then x.fairness else min 4 (x.fairness + 1)) ∧
    (∀ g, fairnessAfter (.charger g) x = x.fairness) ∧ (∀ u, fairnessAfter (.probe u) x = x.fairness) ∧
    (∀ g, x.state = .idle → (takeGroup g x).state = .busy ∧ (takeGroup g x).granted = some (.charger g) ∧
      ∀ newer, takeGroup newer (takeGroup g x) = { takeGroup g x with charger := some newer }) ∧
    (∀ g, x.state ≠ .idle → takeGroup g x = { x with charger := some g }) ∧
    (∀ (p : PortId) (n : Nat) (s : State), s.port p = x → x.state = .idle → nothingWaits x = true →
      ∀ w, w = .poll n ∨ w = .host n →
        ((offerWork p w s).port p).state = .busy ∧ ((offerWork p w s).port p).granted = some w ∧
        nothingWaits ((offerWork p w s).port p) = true)

/-! ### Poll engines -/

/-- R87, R92: the round timer's expiry in WAITING starts the next round, numbered modulo 65536; while the round runs it holds a
start, and only the first of a run of overruns is reported. -/
def Obligations.RoundTimer : Prop :=
  (∀ (p : PortId) (line : BusLine) (s : State), s.inReset = false → (s.engine p).round = .waiting →
     ∃ u, exec (.roundStart p line) s = .next (settle u) ∧
       (u.engine p).number = ((s.engine p).number + 1) % 65536 ∧ (u.engine p).held = false ∧
       (u.engine p).overrun = false ∧ u.line p = line) ∧
  (∀ (p : PortId) (s : State), s.inReset = false → (s.engine p).round = .running →
     (s.engine p).timerMs.isSome = true → ∃ u, exec (.roundOverrun p) s = .next (settle u) ∧
       u.engine p = { s.engine p with held := true, overrun := true, timerMs := none } ∧
       u.portA = s.portA ∧ u.portB = s.portB ∧ u.power = s.power ∧ u.kbd = s.kbd ∧ samePacks s u ∧ sameControl s u ∧
       sameButQueue s u ∧
       ((s.engine p).prevOverrun = true → u.queue = s.queue ∧ u.mem = s.mem) ∧
       ((s.engine p).prevOverrun = false → s.queue.stale = emptyStale → 1 ≤ room s.queue →
         u.queue.write = (s.queue.write + 1) % 128))

/-- R89, R93: the end of an entry writes its row: outcome, skip reason, round number, and with OK the value read. -/
def Obligations.EntryEndWritesRow : Prop :=
  ∀ (p : PortId) (n : Nat) (o : BusOutcome) (reason : SkipReason) (data : List Byte) (s : State),
    n < (s.engine p).rows.length → ∃ row, (entryEnd p n o reason data s |>.engine p).rows[n]? = some row ∧
      row.outcome = o ∧ row.skip = reason ∧ row.round = (s.engine p).number ∧
      (o = .ok → isRead (entryOf (s.engine p).list n).kind = true → row.lastValue = wordOf data) ∧
      (o ≠ .ok → row.lastValue = ((s.engine p).rows.getD n neverRow).lastValue)

/-! ### Battery packs -/

/-- R119: a change of DSG_SEL starts the 2 ms timer; while it runs no CURRENT delivery enters a fault window, though a
good one is stored with age 0; its end changes nothing else but what the pack records publish. -/
def Obligations.SwitchSettle : Prop :=
  (∀ (sel : Option PackId) (s : State), s.dsg.selected ≠ sel →
    (setDischarge sel s).dsg = { s.dsg with selected := sel, settleMs := some 0 }) ∧
  (∀ (sel : Option PackId) (s : State), s.dsg.selected = sel → setDischarge sel s = s) ∧
  (∀ (o : BusOutcome) (w : Nat) (p : Pack), (delivered true .current o w p).window = p.window ∧
    (o = .ok → p.ages.length = 7 → (delivered true .current o w p).values.current = signed16 w ∧
      (delivered true .current o w p).ages[1]? = some (some 0))) ∧
  (∀ s : State, s.inReset = false → s.dsg.settleMs.isSome = true → ∃ t, exec .settleTimerExpiry s = .next t ∧
    t.dsg = { s.dsg with settleMs := none } ∧ t.pack0 = s.pack0 ∧ t.pack1 = s.pack1 ∧ t.mem = s.mem ∧
    samePlatform s t ∧ sameBus s t ∧ sameControl s t)

/-- R109, R110: the fault window after a delivery, and the first criterion met. R112, R113, R115, R116: the end of a probe's step
`x` in the pack that makes the probe: a step that fails ends the probe, an OK step is followed by the next, the identity and the
ALARM word of an OK probe are stored and the pack is ONLINE; a step of an abandoned probe does nothing (log 30). -/
def Obligations.FaultWindow : Prop :=
  (∀ (o : WindowOutcome) (w : List WindowOutcome), w.length < 8 → enterWindow (some o) w = w ++ [o]) ∧
  (∀ (o x : WindowOutcome) (w : List WindowOutcome), w.length = 7 → enterWindow (some o) (x :: w) = w ++ [o]) ∧
  (∀ (p : Pack) (i : Identity) (w : Nat), p.identity = some i →
    (implausibleVoltage p w = true ↔ w * 100 < i.designVoltage * 60 ∨ i.designVoltage * 140 < w * 100)) ∧
  (∀ (c : ChargeProfile) (p : Pack), criterionMet c p =
    if c.nackEnable = true ∧ c.nackLimit ≤ p.window.count .nack then some .nackLimit
    else if c.pecEnable = true ∧ c.pecLimit ≤ p.window.count .pecFail then some .pecLimit
    else if c.implausibleEnable = true ∧ 3 ≤ p.implausibleRun then some .implausibleVoltage
    else none) ∧
  (∀ (x : ProbeUnit) (o : BusOutcome) (data : List Byte) (s : State),
    x.orphan = true ∨ (s.pack x.pack).probe = none → probeStepEnd x o data s = s) ∧
  (∀ (x : ProbeUnit) (run : ProbeRun) (o : BusOutcome) (data : List Byte) (s : State), x.orphan = false →
    (s.pack x.pack).probe = some run → 1 ≤ run.step → run.step ≤ 4 →
    let k := x.pack
    let t := probeStepEnd x o data s
    let i := identityOf data
    (t.pack (otherPack k) = s.pack (otherPack k) ∧ t.th = s.th ∧ t.engineA = s.engineA ∧ t.engineB = s.engineB ∧
      t.portB = s.portB) ∧
    (o ≠ .ok → probeFailedAt k run.step o s t) ∧
    (o = .ok → run.step = 3 → data.length ≠ 10 → probeFailedAt k 3 .short s t) ∧
    (o = .ok → run.step = 3 → data.length = 10 → i.designVoltage < 4000 ∨ 20000 < i.designVoltage →
      (t.pack k).state = .faulted ∧ (t.pack k).reason = .badIdentity ∧ probeOver k .badIdentity s t ∧
        (t.pack k).record.step3 = .ok ∧ (t.pack k).record.identity = some i ∧ sameHistory (s.pack k) (t.pack k) ∧
        (t.pack k).failures = (s.pack k).failures ∧ requestAnswered k .badIdentity i.designVoltage s t) ∧
    (o = .ok → s.portA.state ≠ .halted → s.portA.state ≠ .disabled →
      s.portA.state ≠ .idle ∨ (s.pack k).state ≠ .detected →
      let now := s.portA.state = .idle ∧ nothingWaits s.portA = true
      run.step = 1 ∨ run.step = 2 ∨
        run.step = 3 ∧ data.length = 10 ∧ 4000 ≤ i.designVoltage ∧ i.designVoltage ≤ 20000 →
      (t.pack k).probe = some { run with step := run.step + 1 } ∧ (t.pack k).state = (s.pack k).state ∧
        (t.pack k).record.state = (if now then .running else .waiting) ∧ stepOutcome (t.pack k).record run.step = .ok ∧
        (t.pack k).record.identity = (if run.step = 3 then some i else (s.pack k).record.identity) ∧
        sameHistory (s.pack k) (t.pack k) ∧ t.mem = s.mem ∧ t.chg = s.chg ∧ t.dsg = s.dsg ∧ samePlatform s t ∧
        ∃ y, t.portA = (if now then { s.portA with state := .busy, granted := some (.probe y), starting := true, second := false }
          else { s.portA with probes := s.portA.probes ++ [y] }) ∧ y.pack = k ∧ y.step = run.step + 1 ∧
          y.address = run.address ∧ y.pec = run.pec ∧ y.orphan = false ∧
          (run.step = 2 → y.command = s.engineA.list.identityCommand) ∧
          (run.step = 3 → ∀ e, s.engineA.list.entries.find? (fun e => e.binding == .pack k .alarm) = some e →
            y.command = e.command)) ∧
    (o = .ok → run.step = 4 → ∀ j, (s.pack k).record.identity = some j → (s.pack k).ages.length = 7 →
      let alarm := BitVec.ofNat 16 (wordOf data)
      (t.pack k).state = .online ∧ probeOver k .ok s t ∧ (t.pack k).record.step4 = .ok ∧
        (t.pack k).identity = some j ∧ (t.pack k).window = [] ∧ (t.pack k).implausibleRun = 0 ∧
        (t.pack k).failures = 0 ∧ requestAnswered k .ok 0 s t ∧
        ((∃ old, (s.pack k).identity = some old ∧ old.serial = j.serial) → (t.pack k).reason = .probeOk ∧
          (t.pack k).values = { (s.pack k).values with alarmWord := alarm } ∧
          (t.pack k).ages = (s.pack k).ages.set 6 (some 0)) ∧
        ((∀ old, (s.pack k).identity = some old → old.serial ≠ j.serial) → (t.pack k).reason = .newPack ∧
          (t.pack k).values = { clearedValues with alarmWord := alarm } ∧
          (t.pack k).ages = List.replicate 6 none ++ [some 0])))

/-- R117, R118: the discharge selection as decided, and critical battery decided right after it. -/
def Obligations.DischargeDecided : Prop :=
  ∀ s : State,
    (dischargeDecision s).dsg.selected =
      (if s.adapterIn = true then none
      else if qualifies s .pack1 = true then some .pack1
      else if qualifies s .pack0 = true then some .pack0
      else match s.dsg.selected with
        | some .pack0 => if s.seated .pack0 = true then some .pack0 else if s.seated .pack1 = true then some .pack1 else none
        | some .pack1 => if s.seated .pack1 = true then some .pack1 else if s.seated .pack0 = true then some .pack0 else none
        | none => if s.seated .pack0 = true then some .pack0 else if s.seated .pack1 = true then some .pack1 else none) ∧
    ((dischargeDecision s).dsg.critical = true ↔ s.adapterIn = false ∧
      ∃ k n, (dischargeDecision s).dsg.selected = some k ∧ (s.pack k).ages.getD 2 none = some n ∧
        (s.pack k).values.soc ≤ s.chg.profile.criticalSoc ∧ qualifies s (otherPack k) = false)

/-! ### Charge controller -/

/-- R133: the five holds in their order; one that applies gives HOLDING with its reason and a current of 0, and leaves the
values of the arithmetic as they were. -/
def Obligations.ChargeHolds : Prop :=
  ∀ (s : State) (k : PackId),
    holdReason s k =
      (if ∃ a ∈ (s.pack k).ages, a = none ∨ ∃ n, a = some n ∧ 3 < n then some .stale
      else if (s.pack k).values.voltage < 4000 ∨ 20000 < (s.pack k).values.voltage then some .implausible
      else if s.chg.latch = true then some .target
      else if s.chg.cap = some 0 then some .override
      else if (s.pack k).values.reqCurrent = 0 ∨ (s.pack k).values.reqVoltage = 0 then some .request
      else none) ∧
    ∀ r, holdReason { s with chg := { s.chg with
        latch := decideLatch s.chg (s.pack k).values.soc, switchWaiting := false } } k = some r →
      (computeFor s k).state = .holding ∧ (computeFor s k).limit = r ∧ (computeFor s k).desired.current = 0 ∧
        (computeFor s k).iIn = s.chg.iIn ∧ (computeFor s k).iTh = s.chg.iTh ∧ (computeFor s k).iRaw = s.chg.iRaw

/-- R136, R137: with no hold, the raw current quantised, tested against the minimum and the starvation rule, and slewed; the
voltage setpoint of a charging current; the bounds of a setpoint. `x` is the state with the latch decided (R128). R134: raw
current and binding term. R135: the derate terms, and D_pk and D_cs after each is decided again. R127, R128: eligible,
candidate, latch. R129: the desired selection. R123, R130, R132: what an evaluation makes of it. R138, R142: the write decision
and the record at its end; that a group on the bus gives the expected pair after a change of charger_target too is the model's
choice beside R144 (log 74). -/
def Obligations.ChargeSetpoint : Prop :=
  (∀ (s : State) (k : PackId),
      let x : State := { s with chg := { s.chg with
        latch := decideLatch s.chg (s.pack k).values.soc, switchWaiting := false } }
      let raw := rawCurrent x k
      let q := raw / 64 * 64
      let prev := previousCurrent s.chg
      let v := min (s.pack k).values.reqVoltage s.chg.profile.voltageMax / 16 * 16
      let c := computeFor s k
      holdReason x k = none → c.iRaw = raw ∧
        (q < 128 → c.state = .holding ∧ c.desired.current = 0 ∧ c.limit = bindingTerm x k) ∧
        (128 ≤ q → s.chg.state = .holding → s.chg.limit = .input → raw < 256 →
          c.state = .holding ∧ c.desired.current = 0 ∧ c.limit = .input) ∧
        (128 ≤ q → s.chg.state ≠ .holding ∨ s.chg.limit ≠ .input ∨ 256 ≤ raw →
          c.state = .charging ∧ c.desired.voltage = (if v < 4096 then 4096 else if 19200 < v then 19200 else v) ∧
          (prev + 512 < q → c.desired.current = prev + 512 ∧ c.limit = .slew) ∧
          (q ≤ prev + 512 → c.desired.current = q ∧ c.limit = bindingTerm x k))) ∧
  (∀ (s : State) (k : PackId), let c := (computeFor s k).desired.current
    previousCurrent s.chg % 64 = 0 → min s.chg.dPk (min s.chg.dCs s.chg.dFan) ≤ 100 →
      c % 64 = 0 ∧ (c = 0 ∨ 128 ≤ c) ∧ c ≤ 8128 ∧ c ≤ (s.pack k).values.reqCurrent ∧ c ≤ s.chg.profile.profileCap) ∧
  (∀ (s : State) (k : PackId), let p := s.chg.profile
    let limit := if p.adapterLimit = 0 then [2250, 3250, 4500].getD s.power.straps.adapterClass 6500 else p.adapterLimit
    let h : Int := (limit : Int) - (p.reserve : Int) - (s.chg.systemCurrent : Int)
    let d := min s.chg.dPk (min s.chg.dCs s.chg.dFan)
    let iIn := if h ≤ 0 then 0 else h.toNat * p.adapterVoltage * 29 / ((s.pack k).values.voltage * 32)
    let iTh := (s.pack k).values.reqCurrent * d / 100
    let raw := rawCurrent s k
    raw = min iTh (min iIn (min p.profileCap (min (s.chg.cap.getD 8128) 8128))) ∧
      bindingTerm s k =
        if iIn = raw then .input
        else if iTh = raw then (if d < 100 then .thermal else .request)
        else if p.profileCap = raw then .profile else .override) ∧
  (∀ s : State, decideDpk s none = 100 ∧
    (∀ k, decideDpk s (some k) =
      match s.chg.profile.bands.find? fun b =>
          decide (b.low ≤ (s.pack k).values.temperature ∧ (s.pack k).values.temperature < b.high) with
      | some b => b.percent
      | none => 0) ∧
    (s.chg.profile.chargerSensor = none → decideDcs s = 100) ∧
    (∀ n, s.chg.profile.chargerSensor = some n →
      let t := if (slotOf s n).state = .valid then (slotOf s n).reading else (slotConfig s n).fallback
      decideDcs s = if t < s.chg.profile.chargerHot then 100 else if t < s.chg.profile.chargerMax then 50 else 0) ∧
    decideDfan s = (if s.th.fan0.state = .faulted ∨ s.th.fan1.state = .faulted then 50 else 100) ∧
    (redecideDpk s).chg.dPk = decideDpk (redecideDpk s) (redecideDpk s).chg.selected ∧
    (decideDpk s s.chg.selected = s.chg.dPk → redecideDpk s = s) ∧
    (redecideDcs s).chg.dCs = decideDcs s ∧ (decideDcs s = s.chg.dCs → redecideDcs s = s) ∧
    (redecideDfan s).chg.dFan = decideDfan s ∧ (decideDfan s = s.chg.dFan → redecideDfan s = s)) ∧
  (∀ (s : State) (k : PackId), let c := s.chg
    let start := if c.mode = .full then c.profile.fullStart else c.profile.conserveStart
    let stop := if c.mode = .full then c.profile.fullStop else c.profile.conserveStop
    let soc := (s.pack k).values.soc
    (eligible s k = true ↔ (s.pack k).state = .online ∧ overTemp (s.pack k).values.alarmWord = false ∧
      terminateCharge (s.pack k).values.alarmWord = false) ∧
    (candidate s k = true ↔ eligible s k = true ∧
      (soc < start ∨ c.selected = some k ∧ c.latch = false ∧ soc < stop)) ∧
    (computeFor s k).latch = (if stop ≤ soc then true else if soc < start then false else c.latch)) ∧
  (∀ s : State, desiredSelection s =
    match s.chg.selected with
    | some k =>
      if eligible s k = false then none
      else if s.chg.latch = true ∧ candidate s (otherPack k) = true then some (otherPack k) else some k
    | none =>
      if candidate s .pack0 = true then some .pack0 else if candidate s .pack1 = true then some .pack1 else none) ∧
  (∀ s : State, let i := s.chg.inhibit
    let open_ := i.chargerLost = false ∧ i.port = false ∧ i.thermal = false
    let rest : Pair := ⟨0, (s.chg.written.map (·.voltage)).getD 4096⟩
    let c := evaluated s
    (¬ open_ → c.state = .inhibited ∧ c.selected = none ∧ c.limit = .none ∧ c.desired = rest) ∧
    (open_ → s.adapterIn = false → c.state = .idle ∧ c.selected = none ∧ c.limit = .none ∧ c.desired = rest) ∧
    (open_ → s.adapterIn = true → desiredSelection s = none →
      c.state = .ready ∧ c.selected = none ∧ c.limit = .none ∧ c.desired = rest) ∧
    (c.selected = none → s.chg.selected ≠ none → c.latch = false ∧ c.dPk = 100) ∧
    (open_ → s.adapterIn = true → ∀ k, desiredSelection s = some k →
      (s.chg.selected = some k → c = computeFor s k) ∧
      (s.chg.selected ≠ some k → (∃ w, s.chg.written = some w ∧ w.current = 0) → c = computeFor { s with chg :=
        { s.chg with selected := some k, latch := false, dPk := decideDpk s (some k) } } k) ∧
      (s.chg.selected ≠ some k → (∀ w, s.chg.written = some w → w.current ≠ 0) →
        c.selected = s.chg.selected ∧ c.desired = rest ∧ c.switchWaiting = true ∧
          (s.chg.selected = none → c.state = .ready ∧ c.limit = .none) ∧
          (s.chg.selected ≠ none → c.state = .holding ∧ c.limit = .switch)))) ∧
  (∀ s : State, let t := writeDecision s
    let expected := match s.portA.charger, s.portA.granted with
      | some g, _ => some (Pair.mk g.current g.voltage)
      | none, some (.charger g) => some (Pair.mk g.current g.voltage)
      | none, _ => s.chg.written
    let target := targetOf s.engineA.list s.chg.profile.chargerTarget
    (s.chg.inhibit.chargerLost = true ∨ s.chg.inhibit.port = true ∨ expected = some s.chg.desired → t = s) ∧
    (s.chg.inhibit.chargerLost = false → s.chg.inhibit.port = false → expected ≠ some s.chg.desired →
      s.portA.state ≠ .halted → s.portA.state ≠ .disabled → t.chg = s.chg ∧
        let g : WriteGroup := ⟨s.chg.desired.current, s.chg.desired.voltage,
          (match s.chg.written with | some w => decide (s.chg.desired.current < w.current) | none => true),
          target.address, target.pec, s.chg.profile.currentCommand, s.chg.profile.voltageCommand⟩
        t.portA = if s.portA.state = .idle then { s.portA with
            state := .busy, granted := some (.charger g), starting := true, second := false, charger := none }
          else { s.portA with charger := some g })) ∧
  (∀ (f : Charge → Charge) (s : State), let x := { s with chg := f s.chg }
    let t := evaluateOnce f s
    t.chg = (writeDecision { x with chg := evaluated x }).chg ∧ t.portA = (writeDecision { x with chg := evaluated x }).portA ∧
    t.pack0 = s.pack0 ∧ t.pack1 = s.pack1 ∧ t.dsg = s.dsg ∧ t.th = s.th ∧ t.power = s.power ∧ t.kbd = s.kbd ∧
    sameEngines s t ∧ sameButQueue s t ∧
    (t.chg.state = s.chg.state → (t.chg.state = .holding → t.chg.limit = s.chg.limit) →
      t.queue = s.queue ∧ t.mem = s.mem) ∧
    (t.chg.state ≠ s.chg.state ∨ t.chg.state = .holding ∧ t.chg.limit ≠ s.chg.limit → s.queue.stale = emptyStale →
      2 ≤ room s.queue → t.mem = unitsStored s.mem s.queue.write
        [firstUnit 8 2 s.chg.state.code t.chg.state.code s.link.partTime,
         secondUnit t.chg.limit.code 0 t.chg.desired.current (t.chg.desired.current / 256)]))

/-! ### Thermal unit -/

/-- R148, R151: a thermal update takes the results of the enabled local slots, a disabled slot is not measured; a stored reading
is clamped, and decides the slot's trip state and trip count. R153, R159 to R161: it closes each present fan's window, decides
the fan's state from it, computes the duty, brings the state into line with the duty and opens the next window. R154 to R158:
the computation of a duty; R160, R161: the state decided from a closed window `x`. -/
def Obligations.LocalSensorsMeasured : Prop :=
  (∀ (m0 m1 : Measurement) (s : State), s.inReset = false → slotsWhole s →
     ∃ u, exec (.thermalUpdate m0 m1) s = .next (settle u) ∧
       (∀ (n : Nat) (m : Measurement), n = 0 ∧ m = m0 ∨ n = 1 ∧ m = m1 →
         ((slotConfig s n).enable = false → slotOf u n = slotOf s n) ∧
         ((slotConfig s n).enable = true → ∀ t, m = .temperature t →
           slotOf u n = slotRead (slotConfig s n).critical t (slotOf s n)) ∧
         ((slotConfig s n).enable = true → m = .openElement ∨ m = .shortElement →
           (slotOf u n).state = .failed ∧ (slotOf u n).reading = (slotOf s n).reading ∧
           (slotOf u n).tripped = (slotOf s n).tripped)) ∧
       u.th.updateMs = 0 ∧ u.th.table = s.th.table ∧
       ∀ f, (s.fanPresent f = false → (u.fan f).duty = (s.fan f).duty ∧ (u.fan f).state = (s.fan f).state) ∧
         (s.fanPresent f = true →
           let y := u.fan f
           let w := decideFan s.th.table.stallRpm (closeWindow (s.fan f))
           y.tachCount = min (s.fan f).count 1023 ∧ y.rpm = min (s.fan f).count 1023 * 60 / (s.fan f).ppr ∧
           y.windowDuty = (s.fan f).openDuty ∧ y.count = 0 ∧ y.openDuty = y.duty ∧
           (w.state = .kicking ∨ w.state = .faulted → y.state = w.state) ∧
           (w.state = .stalled → y.state = if y.duty = 0 then .off else .stalled) ∧
           (w.state = .off ∨ w.state = .running → y.state = if y.duty = 0 then .off else .running) ∧
           (u.tripActive = true → s.th.table.startMin ≤ 100 → 100 ≤ y.duty) ∧
           ∃ x, x.curveDuty = (s.fan f).curveDuty ∧ x.offRun = (s.fan f).offRun ∧ x.override = y.override ∧
             (w.state ≠ .off → x.state = w.state) ∧ (w.state = .off → x.state = .off ∨ x.state = .running) ∧
             (u.tripActive = false → otherFaulted s f = otherFaulted u f → x.duty = (s.fan f).duty) ∧
             let c := computeFan false (u.setFan f x) f (otherFaulted s f || otherFaulted u f)
             y.duty = c.duty ∧ y.curveDuty = c.curveDuty ∧ y.target = c.target ∧ y.offRun = c.offRun ∧
               y.controlTemp = c.controlTemp ∧ y.curveClosed = c.curveClosed)) ∧
  (∀ (critical t : Int) (x : Slot),
     let c := max (-400) (min 1500 t)
     let y := slotRead critical t x
     y.state = .valid ∧ y.reading = c ∧ y.missCount = 0 ∧
     (x.tripped = false → c < critical → y.tripped = false ∧ y.tripCount = 0) ∧
     (x.tripped = false → critical ≤ c → x.tripCount = 0 → y.tripped = false ∧ y.tripCount = 1) ∧
     (x.tripped = false → critical ≤ c → 1 ≤ x.tripCount → y.tripped = true ∧ y.tripCount = 0) ∧
     (x.tripped = true → (y.tripped = true ↔ critical - 100 ≤ c))) ∧
  (∀ (s : State) (f : FanId) (other : Bool),
    let c := computeFan false s f other
    let x := s.fan f
    let t := controlTemperature s f
    let h := s.th.table.hysteresis
    let curve := curveInUse s f
    let last := curve.getLastD ⟨0, 0⟩
    let up := curveValue curve t
    let down := curveValue curve (t + h)
    let floor := max (if other = true then last.duty else 0)
      (if x.state = .kicking ∨ s.tripActive = true then 100 else 0)
    let slewed := if c.target ≤ x.duty + 8 ∧ x.duty ≤ c.target + 8 then c.target
      else if x.duty < c.target then x.duty + 8 else x.duty - 8
    c.controlTemp = t ∧ c.curveClosed = !s.lidOpen ∧
    c.curveDuty = (if x.curveDuty < up then up else if down < x.curveDuty then down else x.curveDuty) ∧
    c.offRun = (if s.th.table.offThreshold ≤ t then true
      else if t < s.th.table.offThreshold - h then false else x.offRun) ∧
    c.target = (if (s.power.state = .sleep ∨ s.power.state = .off) ∧ c.offRun = false then 0
      else if x.override ≠ 0 then (if last.temp ≤ t then max x.override up else x.override)
      else if s.th.boostMs.isSome = true then min 100 (c.curveDuty + 30) else c.curveDuty) ∧
    c.duty = (if slewed < floor then max floor s.th.table.startMin
      else if slewed < s.th.table.startMin then
        (if c.target = 0 then 0 else if slewed = 0 then 0 else s.th.table.startMin)
      else slewed) ∧
    curve = (if s.lidOpen = true then (curveOf s f).opened else (curveOf s f).closed)) ∧
  (∀ (s : State) (f : FanId), let bound := (curveOf s f).bound
    let on := bound.filter fun n => (slotConfig s n).enable
    (on ≠ [] → (∃ n ∈ on, controlTemperature s f = effective s n / 10) ∧
      ∀ n ∈ on, effective s n / 10 ≤ controlTemperature s f) ∧
    (on = [] → bound ≠ [] → (∃ n ∈ bound, controlTemperature s f = (slotConfig s n).fallback / 10) ∧
      ∀ n ∈ bound, (slotConfig s n).fallback / 10 ≤ controlTemperature s f)) ∧
  (∀ (l : List CurvePoint) (t : Int), l.Pairwise (fun p q => p.temp < q.temp) →
    (∀ p, l.head? = some p → t ≤ p.temp → curveValue l t = p.duty) ∧
    (∀ p, l.getLast? = some p → p.temp ≤ t → curveValue l t = p.duty) ∧
    (∀ i p q, l[i]? = some p → l[i + 1]? = some q → p.temp ≤ t → t < q.temp →
      curveValue l t = p.duty + ((t - p.temp) * ((q.duty : Int) - p.duty) / (q.temp - p.temp)).toNat)) ∧
  (∀ (stall : Nat) (x : Fan), let y := decideFan stall x
    let slow := 0 < x.windowDuty ∧ x.rpm < stall
    (x.state = .off → y = x) ∧
    (x.state = .running → ¬ slow → y = { x with low := 0 }) ∧
    (x.state = .running → slow → x.low ≠ 2 → y = { x with low := x.low + 1 }) ∧
    (x.state = .running → slow → x.low = 2 → y = { x with low := 3, state := .stalled }) ∧
    (x.state = .stalled → y = { x with state := .kicking, kickWindow := 0 }) ∧
    (x.state = .kicking → x.kickWindow = 0 → y = { x with kickWindow := 1 }) ∧
    (x.state = .kicking → 1 ≤ x.kickWindow → stall ≤ x.rpm →
      y.state = .running ∧ y.low = 0 ∧ y.kick = 0 ∧ y.duty = x.duty) ∧
    (x.state = .kicking → 1 ≤ x.kickWindow → x.rpm < stall → x.kick ≠ 2 →
      y = { x with kick := x.kick + 1, kickWindow := 0 }) ∧
    (x.state = .kicking → 1 ≤ x.kickWindow → x.rpm < stall → x.kick = 2 →
      y.state = .faulted ∧ y.recovery = 0 ∧ y.duty = x.duty) ∧
    (x.state = .faulted → ¬ (0 < x.windowDuty ∧ stall ≤ x.rpm) → y = { x with recovery := 0 }) ∧
    (x.state = .faulted → 0 < x.windowDuty → stall ≤ x.rpm → x.recovery ≠ 2 →
      y = { x with recovery := x.recovery + 1 }) ∧
    (x.state = .faulted → 0 < x.windowDuty → stall ≤ x.rpm → x.recovery = 2 → y = { x with
      state := if x.duty = 0 then .off else .running, kick := 0, low := 0, recovery := 0 }))

/-! ### Time -/

/-- R177 (log 3): a tick raises the part time and every running timer by one millisecond and changes nothing else: the state
after it is the state before it with these fields raised. -/
def Obligations.TickRaisesTimers : Prop :=
  ∀ s : State, s.inReset = false → exec .partTimeTick s = .next { s with
    link := { s.link with partTime := s.link.partTime + 1#32 }
    power := { s.power with
      counts := ⟨s.power.counts.lid.map (· + 1), s.power.counts.pwrbtn.map (· + 1), s.power.counts.acp.map (· + 1),
        s.power.counts.wakeAux.map (· + 1), s.power.counts.presence0.map (· + 1),
        s.power.counts.presence1.map (· + 1)⟩
      stepMs := if s.power.step = .none then s.power.stepMs else s.power.stepMs + 1
      delay := s.power.delay.map fun d => ⟨d.target, d.length, d.elapsed + 1⟩
      heldMs := s.power.heldMs.map (· + 1), comboMs := s.power.comboMs.map (· + 1)
      heartbeatMs := if s.power.heartbeat = .watching then s.power.heartbeatMs + 1 else s.power.heartbeatMs
      pulseMs := s.power.pulseMs.map (· + 1), graceMs := s.power.graceMs.map (· + 1) }
    kbd := { s.kbd with
      passMs := if s.kbd.mode = .full then s.kbd.passMs + 1 else s.kbd.passMs
      rowCount := s.kbd.rowCount.map (· + 1) }
    portA := { s.portA with retryMs := s.portA.retryMs.map (· + 1) }
    portB := { s.portB with retryMs := s.portB.retryMs.map (· + 1) }
    engineA := { s.engineA with timerMs := s.engineA.timerMs.map (· + 1) }
    engineB := { s.engineB with timerMs := s.engineB.timerMs.map (· + 1) }
    dsg := { s.dsg with settleMs := s.dsg.settleMs.map (· + 1) }
    th := { s.th with boostMs := s.th.boostMs.map (· + 1), updateMs := s.th.updateMs + 1 } }

/-! ### The window -/

/-- R170 to R173, R199: a write outside the window does nothing; a claimed write with a forbidden byte stores nothing, sets
PROTOCOL and notes its lowest offset as one update, or that or 0x0104 where it touches the read index word with a value that the
queue forbids (R199; the model leaves both, log 36); an allowed one without a word of consequence is stored whole, and nothing else changes. -/
def Obligations.HostWindowWriteJudged : Prop :=
  (∀ (address : Word32) (bytes : List Byte) (s : State), s.inReset = false →
     s.link.windowCtrl.getLsbD 0 = false ∨ address.toNat < (s.link.windowCtrl &&& 0xFFFFE000#32).toNat ∨
       (s.link.windowCtrl &&& 0xFFFFE000#32).toNat + 0x1FFF < address.toNat →
     exec (.hostWindowWrite address bytes) s = .next (settle s)) ∧
  (∀ (address : Word32) (bytes : List Byte) (s : State), s.inReset = false → claimed s address = true →
     let w : WindowWrite := ⟨address.toNat - windowBase s, bytes⟩
     writeAllowed s w = false → discardedSilently s w = false →
     ∃ u, exec (.hostWindowWrite address bytes) s = .next (settle u) ∧ u.mem = s.mem ∧
       u.link.alertCause = s.link.alertCause ||| 4#32 ∧
       (let open_ := w.offset ≤ 0x0105 ∧ 0x0104 < w.offset + bytes.length ∧
          readIndexAllowed s.queue (readIndexIfStored s w) = false
        (¬ open_ → u.link.lastProtocol = BitVec.ofNat 16 w.offset) ∧
        (open_ → u.link.lastProtocol = BitVec.ofNat 16 w.offset ∨ u.link.lastProtocol = 0x0104#16)) ∧
       (s.link.gens.length = 17 → u.gen .platform = s.gen .platform + 2#16) ∧ u.power = s.power ∧ u.queue = s.queue ∧
       u.posted = s.posted ∧ u.kbd = s.kbd ∧ sameBus s u ∧ samePacks s u ∧ sameControl s u) ∧
  (∀ (address : Word32) (bytes : List Byte) (s : State), s.inReset = false → memoryCanonical s →
     claimed s address = true →
     let w : WindowWrite := ⟨address.toNat - windowBase s, bytes⟩
     writeAllowed s w = true → significance s w = .plain →
     ∃ u, exec (.hostWindowWrite address bytes) s = .next (settle u) ∧
       Memory.readList u.mem w.offset bytes.length = bytes ∧
       (∀ a, a < w.offset ∨ w.offset + bytes.length ≤ a → Memory.read u.mem a = Memory.read s.mem a) ∧
       u = { s with mem := u.mem })

/-- R169, R171, R185: which bytes a host write may touch, and what the state word of a slot accepts. -/
def Obligations.AccessClasses : Prop :=
  (∀ (s : State) (w : WindowWrite) (o : Nat),
     (o < 0x00F0 ∨ 0x00F4 ≤ o ∧ o < 0x0104 ∨ 0x0106 ≤ o ∧ o < 0x0600 ∨ 0x0A00 ≤ o ∧ o < 0x1000 ∨ 0x2000 ≤ o →
       byteAllowed s w o = false) ∧
     (0x00F0 ≤ o → o < 0x00F4 → byteAllowed s w o = true) ∧
     (∀ t, 0x1000 ≤ o → o < 0x2000 → stagingOf o = some t → (byteAllowed s w o = true ↔ loadSlot s t = none)) ∧
     (∀ n, n < 16 → slotBase n + 2 ≤ o → o < slotBase n + 64 → (byteAllowed s w o = true ↔ slotState s n = slotFree))) ∧
  (∀ new : Nat,
     (stateWordAllowed slotFree new = true ↔ new = slotFree ∨ new = slotPosted) ∧
     (stateWordAllowed slotPosted new = true ↔ new = slotCancel) ∧
     (stateWordAllowed slotActive new = true ↔ new = slotCancel) ∧
     (stateWordAllowed slotDone new = true ↔ new = slotFree) ∧ stateWordAllowed slotCancel new = false)

/-- R185, R189: a DONE slot is returned to FREE, a request in progress is not freed; a cancel withdraws a waiting load or
transfer, marks work in flight (a granted transfer, a BUS_RESET, a probe) and a post not taken yet, is silent on a slot in
CANCEL, and is discarded on a DONE or FREE slot. -/
def Obligations.SlotStateWrites : Prop :=
  (∀ (n : Fin 16) (s : State), s.inReset = false → memoryCanonical s →
     ∃ u, exec (.slotFreeWrite n) s = .next (settle u) ∧
       (slotState s n.val = slotDone → slotState u n.val = slotFree ∧ u = { s with mem := u.mem } ∧
         ∀ a, a ≠ slotBase n.val → a ≠ slotBase n.val + 1 → Memory.read u.mem a = Memory.read s.mem a) ∧
       (slotState s n.val = slotPosted ∨ slotState s n.val = slotActive ∨ slotState s n.val = slotCancel →
         u.mem = s.mem ∧ u.posted = s.posted ∧ sameBus s u ∧ samePacks s u ∧ sameControl s u ∧ samePlatform s u ∧
         u.link.alertCause.getLsbD 2 = true ∧
         u.link.lastProtocol = BitVec.ofNat 16 (slotBase n.val))) ∧
  (∀ (n : Fin 16) (s : State), s.inReset = false → memoryCanonical s →
     ∃ u, exec (.cancelWrite n) s = .next (settle u) ∧
       (slotState s n.val = slotPosted ∨ slotState s n.val = slotActive →
         (∀ t, heldWork s n.val = some (.load t) → doneWith u n.val .cancelled 0 ∧ onlyCompletes n.val s u) ∧
         (∀ p, heldWork s n.val = some (.transfer p) → n.val ∈ (s.port p).hosts →
           doneWith u n.val .cancelled 0 ∧ n.val ∉ (u.port p).hosts ∧ sameButSlot n.val s u ∧ samePacks s u ∧
           sameControl s u ∧ samePlatform s u) ∧
         (∀ p, heldWork s n.val = some (.transfer p) → n.val ∉ (s.port p).hosts →
           slotState u n.val = slotCancel ∧ u.posted = s.posted ∧ u = { s with mem := u.mem }) ∧
         (heldWork s n.val = none ∨ (∃ p, heldWork s n.val = some (.busReset p)) ∨
             (∃ k, heldWork s n.val = some (.probe k)) →
           slotState u n.val = slotCancel ∧ u = { s with mem := u.mem } ∧
           ∀ a, a ≠ slotBase n.val → a ≠ slotBase n.val + 1 → Memory.read u.mem a = Memory.read s.mem a)) ∧
       (slotState s n.val = slotCancel → u = s) ∧
       (slotState s n.val = slotDone ∨ slotState s n.val = slotFree → u.mem = s.mem ∧ u.posted = s.posted ∧
         sameBus s u ∧ samePacks s u ∧ sameControl s u ∧ samePlatform s u ∧ u.link.alertCause.getLsbD 2 = true ∧
         u.link.lastProtocol = BitVec.ofNat 16 (slotBase n.val)))

/-- R199, R172: a read index on the path from Rd to W is taken; any other is discarded with PROTOCOL and offset 0x0104. -/
def Obligations.ReadIndexWriteJudged : Prop :=
  ∀ (value : Word16) (s : State), s.inReset = false → ∃ u, exec (.readIndexWrite value) s = .next (settle u) ∧
    (value.toNat < 128 → (value.toNat + 128 - s.queue.read) % 128 ≤ occupancy s.queue → u.queue.read = value.toNat) ∧
    u.power = s.power ∧ u.posted = s.posted ∧ u.kbd.table = s.kbd.table ∧ sameBus s u ∧ samePacks s u ∧
    sameControl s u ∧ sameButQueue s u ∧
    (128 ≤ value.toNat ∨ occupancy s.queue < (value.toNat + 128 - s.queue.read) % 128 →
      u.queue = s.queue ∧ u.mem = s.mem ∧ u.link.alertCause.getLsbD 2 = true ∧ u.link.lastProtocol = 0x0104#16)

/-- R178 to R180: the three register writes, by the lanes that the access covers, and nothing else changes; a write to IDENT or
to unlisted bits has no effect. -/
def Obligations.RegisterWritesByLane : Prop :=
  (∀ (first : Fin 4) (bytes : List Byte) (s : State), s.inReset = false →
     exec (.alertCauseWrite first bytes) s = .next { s with
       link := { s.link with alertCause := s.link.alertCause &&& ~~~(writeLanes 0#32 first.val bytes) } } ∧
     exec (.alertEnableWrite first bytes) s = .next { s with
       link := { s.link with alertEnable := writeLanes s.link.alertEnable first.val bytes &&& 0x7#32 } } ∧
     exec (.windowCtrlWrite first bytes) s = .next { s with
       link := { s.link with windowCtrl := writeLanes s.link.windowCtrl first.val bytes &&& 0xFFFFE001#32 } } ∧
     (∀ (w : Word32) (b : Byte) (i : Nat), i < 32 → (writeLanes w first.val [b]).getLsbD i =
       if 8 * first.val ≤ i ∧ i < 8 * first.val + 8 then b.getLsbD (i - 8 * first.val) else w.getLsbD i)) ∧
  (∀ (offset : Fin 16) (bytes : List Byte) (s : State), exec (.registerWriteOther offset bytes) s = .next s)

/-- R180: ALERT_N is the level of a set and enabled cause in RUN (released while RESET_N is low, log 31). -/
def Obligations.AlertLine : Prop :=
  ∀ s : State, s.inReset = false →
    (alertAsserted s = true ↔ s.power.state = .run ∧
      ∃ i, s.link.alertCause.getLsbD i = true ∧ s.link.alertEnable.getLsbD i = true)

/-! ### The report queue -/

/-- R198, R201, R202: a notice is placed whole where the room allows: its units stand in the ring from W on, W moves by their
number and REPORT is set; otherwise it is dropped with its stale class. R203: a room event places the owed releases from the
oldest on while there is room, then the RESYNC of the stale classes, which empties the set. -/
def Obligations.NoticeOffered : Prop :=
  (∀ (n : Notice) (s : State), s.queue.stale = emptyStale →
    ((n.units s.link.partTime).length ≤ room s.queue →
      (offer n s).mem = unitsStored s.mem s.queue.write (n.units s.link.partTime) ∧
      (offer n s).queue = { s.queue with write := (s.queue.write + (n.units s.link.partTime).length) % 128 } ∧
      (offer n s).link.alertCause = s.link.alertCause ||| 2#32) ∧
    (room s.queue < (n.units s.link.partTime).length →
      (offer n s).queue = { s.queue with stale := emptyStale.add n.staleClass } ∧ (offer n s).mem = s.mem ∧
      (offer n s).link.alertCause = s.link.alertCause)) ∧
  (∀ s : State, indicesInRing s →
    let n := min s.kbd.owed.length (room s.queue)
    let resync := s.queue.stale ≠ emptyStale ∧ s.kbd.owed.length < room s.queue
    let units := (s.kbd.owed.take n).map (fun r =>
        keyUnit (if r.sweep then .sweepUp else .up) r.position r.code s.link.partTime) ++
      if resync then [resyncUnit s.queue.stale s.link.partTime] else []
    let t := roomEvent s
    t.mem = unitsStored s.mem s.queue.write units ∧ t.kbd.owed = s.kbd.owed.drop n ∧
      t.queue = ⟨(s.queue.write + units.length) % 128, s.queue.read, if resync then emptyStale else s.queue.stale⟩ ∧
      t.link.alertCause = (if units = [] then s.link.alertCause else s.link.alertCause ||| 2#32) ∧
      t.kbd.table = s.kbd.table ∧ t.power = s.power ∧ t.posted = s.posted ∧ sameBus s t ∧ samePacks s t ∧
      sameControl s t)

/-! ### Requests -/

/-- R186, R188: a post whose cancel came first completes CANCELLED; one of an unknown kind completes UNKNOWN_KIND. -/
def Obligations.PostsWithoutWorkComplete : Prop :=
  ∀ (n : Fin 16) (s : State), s.inReset = false → memoryCanonical s →
    (slotState s n.val = slotCancel → isHeld s n.val = false →
      ∃ u, exec (.postFoundCancelled n) s = .next (settle u) ∧ doneWith u n.val .cancelled 0 ∧
        onlyCompletes n.val s u) ∧
    (slotState s n.val = slotPosted → slotKind s n.val = 0 ∨ 8 < slotKind s n.val →
      ∃ u, exec (.unknownKind n) s = .next (settle u) ∧ doneWith u n.val .unknownKind 0 ∧
        onlyCompletes n.val s u)

/-- R192, R193: the taking of a LOAD_TABLE: bad id, an earlier load, an invalid copy; a valid copy is adopted at once (R54, R97,
R144, R164, R195), but for a FAN_CURVES copy or the poll list of a running round, held until its adoption point. `h` is the
state that validation sees. The model's own: detail 0 of a completion with OK (log 47), that a list with the port on withdraws a
pending disable (log 58), and that a stopped engine keeps interval and overrun flag (log 60). -/
def Obligations.LoadTableTaken : Prop :=
  ∀ (n : Fin 16) (s : State), s.inReset = false → memoryCanonical s → postedKind s n.val kindLoadTable = true →
    isHeld s n.val = false → ∃ u, exec (.loadTable n) s = .next (settle u) ∧
      (tableOf (slotParam s n.val 0) = none → doneWith u n.val .badParam 1 ∧ onlyCompletes n.val s u) ∧
      ∀ t, tableOf (slotParam s n.val 0) = some t →
        (∀ e, loadSlot s t = some e → e < 16 → doneWith u n.val .busy e ∧ onlyCompletes n.val s u) ∧
        (loadSlot s t = none →
          let h := holdSlot n.val (.load t) (setSlotState n.val slotActive s)
          (∀ r d, validate t h = some (r, d) → d < 65536 →
            doneWith u n.val .tableInvalid d ∧ slotParam u n.val 1 = r.code ∧ onlyCompletes n.val s u ∧
            loadSlot u t = none) ∧
          (validate t h = none → t = .keymap → doneWith u n.val .ok 0 ∧ u.kbd.keymap = readKeymap h.mem ∧
            u.kbd = { s.kbd with keymap := u.kbd.keymap } ∧ sameButSlot n.val s u ∧ sameBus s u ∧ samePacks s u ∧
            sameControl s u ∧ u.power = s.power ∧ u.queue = s.queue) ∧
          (validate t h = none →
            t = .fanCurves ∨ t = .pollA ∧ s.engineA.round = .running ∨ t = .pollB ∧ s.engineB.round = .running →
            u = h ∧ slotState u n.val = slotActive ∧ loadSlot u t = some n.val) ∧
          (validate t h = none → t = .chargeProfile →
            profileAdopted (readProfile h.mem) s u ∧ slotState u n.val = slotDone ∧ isHeld u n.val = false ∧
            (s.portA.state ≠ .halted → s.portA.state ≠ .disabled →
              doneWith u n.val .ok 0 ∧ sameButSlotAndQueue n.val s u) ∧
            u.th = s.th ∧ u.engineA = s.engineA ∧ u.engineB = s.engineB ∧ u.portB = s.portB ∧
            (scanModeDecided s → u.kbd.table = s.kbd.table)) ∧
          (validate t h = none → t = .thermal → doneWith u n.val .ok 0 ∧ thermalAdopted (readThermal h.mem) s u ∧
            samePacks s u ∧ u.engineA = s.engineA ∧ u.engineB = s.engineB ∧ u.portB = s.portB ∧
            sameButSlotAndQueue n.val s u) ∧
          (validate t h = none → t = .platform → doneWith u n.val .ok 0 ∧ platformAdopted (readPlatform h.mem) s u ∧
            samePacks s u ∧ u.engineA = s.engineA ∧ u.engineB = s.engineB ∧ u.portB = s.portB ∧
            sameButSlotAndQueue n.val s u ∧ (pressMetBy (readPlatform h.mem) s = false → sameControl s u)) ∧
          (∀ p, t = pollTable p → validate t h = none → (s.engine p).round ≠ .running →
            let l := readPollList h.mem t
            listAdopted p l s u ∧ slotState u n.val = slotDone ∧ isHeld u n.val = false ∧
            (l.enable = true → p = .b ∨ s.portA.state ≠ .halted →
              doneWith u n.val .ok 0 ∧ sameButSlotAndQueue n.val s u) ∧
            (l.enable = true → (s.engine p).round = .waiting → samePacks s u ∧ u.power = s.power ∧ u.kbd = s.kbd)))

/-- R70, R72, R76: a BUS_TRANSFER is checked, refused by a HALTED or DISABLED port, granted at once by an IDLE port with empty
lists, or waits in its port's list; a BUS_RESET restarts
the recovery of a HALTED port and waits for it, at any other port it is done at once. The model's own: detail 0 of that completion
(log 47). -/
def Obligations.PortRequestsTaken : Prop :=
  (∀ (n : Fin 16) (s : State), s.inReset = false → memoryCanonical s → postedKind s n.val kindBusTransfer = true →
     isHeld s n.val = false →
     let p := portOfNat (slotParam s n.val 0)
     ∃ u, exec (.busTransfer n) s = .next (settle u) ∧
       (∀ d, transferFault s n.val = some d → doneWith u n.val .badParam d ∧ onlyCompletes n.val s u) ∧
       (transferFault s n.val = none → (s.port p).state = .halted →
         doneWith u n.val .portHalted 1 ∧ onlyCompletes n.val s u) ∧
       (transferFault s n.val = none → (s.port p).state = .disabled →
         doneWith u n.val .portHalted 2 ∧ onlyCompletes n.val s u) ∧
       (transferFault s n.val = none → (s.port p).state ≠ .halted → (s.port p).state ≠ .disabled →
         (u.port p = if (s.port p).state = .idle ∧ nothingWaits (s.port p) = true then { s.port p with
             state := .busy, granted := some (.host n.val), starting := true, second := false, fairness := 0 }
           else { s.port p with hosts := (s.port p).hosts ++ [n.val] }) ∧ slotState u n.val = slotActive ∧
         heldWork u n.val = some (.transfer p) ∧ sameButSlot n.val s u ∧ samePacks s u ∧ sameControl s u ∧
         samePlatform s u)) ∧
  (∀ (n : Fin 16) (s : State), s.inReset = false → memoryCanonical s → postedKind s n.val kindBusReset = true →
     isHeld s n.val = false →
     let p := portOfNat (slotParam s n.val 0)
     ∃ u, exec (.busReset n) s = .next (settle u) ∧
       (1 < slotParam s n.val 0 → doneWith u n.val .badParam 1 ∧ onlyCompletes n.val s u) ∧
       (slotParam s n.val 0 ≤ 1 → (s.port p).state = .halted →
         (u.port p).state = .recovering ∧ (u.port p).attempts = 0 ∧ (u.port p).retryMs = none ∧
         (u.port p).running = true ∧ (u.port p).busReset = some n.val ∧ slotState u n.val = slotActive) ∧
       (slotParam s n.val 0 ≤ 1 → (s.port p).state ≠ .halted →
         doneWith u n.val .ok 0 ∧ onlyCompletes n.val s u) ∧
       u.power = s.power ∧ u.kbd = s.kbd ∧ u.th = s.th ∧ samePacks s u ∧ sameButSlotAndQueue n.val s u)

/-- R116: a PROBE_PACK by the pack's state; the first row of the manual's table is checked first, then the last. The model's own:
detail 0 of BUSY and NO_PACK (log 47). -/
def Obligations.ProbePackTaken : Prop :=
  ∀ (n : Fin 16) (s : State), s.inReset = false → memoryCanonical s → postedKind s n.val kindProbePack = true →
    isHeld s n.val = false → ∃ u, exec (.probePack n) s = .next (settle u) ∧
      (packOfNat s (slotParam s n.val 0) = none → doneWith u n.val .badParam 1 ∧ onlyCompletes n.val s u) ∧
      ∀ k, packOfNat s (slotParam s n.val 0) = some k →
        ((s.pack k).request.isSome = true → doneWith u n.val .busy 0 ∧ onlyCompletes n.val s u) ∧
        ((s.pack k).request = none → (s.pack k).state = .absent →
          doneWith u n.val .noPack 0 ∧ onlyCompletes n.val s u) ∧
        ((s.pack k).request = none → (s.pack k).state = .online ∨ (s.pack k).state = .faulted →
          s.portA.state ≠ .halted → s.portA.state ≠ .disabled →
          (u.pack k).state = .probing ∧ (u.pack k).reason = .request ∧ (u.pack k).failures = 0 ∧
          (u.pack k).request = some n.val ∧ (u.pack k).probe.isSome = true) ∧
        ((s.pack k).request = none → (s.pack k).probe.isSome = true →
          (s.pack k).state = .detected ∨ (s.pack k).state = .probing ∨ (s.pack k).state = .lost →
          u.pack k = { s.pack k with request := some n.val }) ∧
        ((s.pack k).request = none → (s.pack k).probe = none → (s.pack k).state = .probing ∨ (s.pack k).state = .lost →
          s.portA.state ≠ .halted → s.portA.state ≠ .disabled →
          (u.pack k).state = (s.pack k).state ∧ (u.pack k).reason = (s.pack k).reason ∧
          (u.pack k).failures = (s.pack k).failures ∧ (u.pack k).request = some n.val ∧
          (u.pack k).probe = some ⟨1, (targetOf s.engineA.list (packTarget s.chg.profile k)).address,
            (targetOf s.engineA.list (packTarget s.chg.profile k)).pec⟩) ∧
        u.pack (otherPack k) = s.pack (otherPack k) ∧ u.th = s.th ∧ u.engineA = s.engineA ∧ u.engineB = s.engineB ∧
        u.portB = s.portB ∧ (s.portA.state ≠ .halted → s.portA.state ≠ .disabled → sameButSlotAndQueue n.val s u)

/-- R22, R127, R191: SET_OVERRIDE checks its parameters, then override validity; accepted, it sets duties and cap;
SET_CHARGE_MODE sets the mode. The model's own: detail 0 of a completion with OK (log 47). -/
def Obligations.OverrideAndModeTaken : Prop :=
  (∀ (n : Fin 16) (s : State), s.inReset = false → memoryCanonical s → postedKind s n.val kindSetOverride = true →
     ∃ u, exec (.setOverride n) s = .next (settle u) ∧
       (100 < slotParam s n.val 0 → doneWith u n.val .badParam 1 ∧ onlyCompletes n.val s u) ∧
       (slotParam s n.val 0 ≤ 100 → 100 < slotParam s n.val 1 →
         doneWith u n.val .badParam 2 ∧ onlyCompletes n.val s u) ∧
       (slotParam s n.val 0 ≤ 100 → slotParam s n.val 1 ≤ 100 → capOf (slotParam16 s n.val 2) = none →
         doneWith u n.val .badParam 3 ∧ onlyCompletes n.val s u) ∧
       u.power = s.power ∧ u.kbd = s.kbd ∧ samePacks s u ∧ sameButSlotAndQueue n.val s u ∧
       ∀ cap, slotParam s n.val 0 ≤ 100 → slotParam s n.val 1 ≤ 100 → capOf (slotParam16 s n.val 2) = some cap →
         (s.overrideValid = true → doneWith u n.val .ok 0 ∧ u.chg.cap = cap ∧
           u.th.fan0.override = slotParam s n.val 0 ∧
           u.th.fan1.override = if s.fanPresent .fan1 then slotParam s n.val 1 else s.th.fan1.override) ∧
         (s.overrideValid = false → doneWith u n.val .wrongState 0 ∧ onlyCompletes n.val s u)) ∧
  (∀ (n : Fin 16) (s : State), s.inReset = false → memoryCanonical s → postedKind s n.val kindSetChargeMode = true →
     ∃ u, exec (.setChargeMode n) s = .next (settle u) ∧
       (slotParam s n.val 0 = 0 → doneWith u n.val .ok 0 ∧ u.chg.mode = .full) ∧
       (slotParam s n.val 0 = 1 → doneWith u n.val .ok 0 ∧ u.chg.mode = .conserve) ∧
       (1 < slotParam s n.val 0 → doneWith u n.val .badParam 1 ∧ onlyCompletes n.val s u) ∧
       u.power = s.power ∧ u.kbd = s.kbd ∧ u.th = s.th ∧ samePacks s u ∧ sameButSlotAndQueue n.val s u)

/-- R14, R17, R190: SET_POWER_STATE's checks in their order, and its acceptance; `wakePending` leaves an ignored button
out (log 40). -/
def Obligations.SetPowerStateTaken : Prop :=
  ∀ (n : Fin 16) (s : State), s.inReset = false → memoryCanonical s → postedKind s n.val kindSetPowerState = true →
    let delay := slotParam16 s n.val 2
    ∃ u, exec (.setPowerState n) s = .next (settle u) ∧
      (1 < slotParam s n.val 0 → doneWith u n.val .badParam 1 ∧ onlyCompletes n.val s u) ∧
      samePacks s u ∧ u.engineA = s.engineA ∧ u.engineB = s.engineB ∧ sameButSlotAndQueue n.val s u ∧
      ∀ target, sleepTargetOf (slotParam s n.val 0) = some target →
        (1000 < delay → doneWith u n.val .badParam 2 ∧ onlyCompletes n.val s u) ∧
        (delay ≤ 1000 → s.power.state ≠ .run → doneWith u n.val .wrongState 0 ∧ onlyCompletes n.val s u) ∧
        (delay ≤ 1000 → s.power.state = .run → s.power.delay.isSome = true →
          doneWith u n.val .busy 0 ∧ onlyCompletes n.val s u) ∧
        (delay ≤ 1000 → s.power.state = .run → s.power.delay = none → wakePending s target = true →
          doneWith u n.val .wakePending 0 ∧ onlyCompletes n.val s u) ∧
        (delay ≤ 1000 → s.power.state = .run → s.power.delay = none → wakePending s target = false →
          doneWith u n.val .ok 0 ∧
          (0 < delay → u.power.delay = some ⟨target, delay, 0⟩ ∧ u.power.state = .run ∧
            (target = .sleep →
              u.power.snapshot = ⟨s.power.levels.lid, s.power.levels.acp, s.power.levels.wakeAux⟩)) ∧
          (delay = 0 → target = .off → shutDownWith u .request) ∧
          (delay = 0 → target = .sleep → s.pins.pgMain = true → u.power.state = .suspending))

/-- R196, R29, R183, R204: a warm restart completes its slot, frees the others, restarts every unit and leaves the RESYNC of all
classes at the head of the queue; `d` is the state at the completion. The model's own: the RESYNC's stamp and the place of the
completion in the restart (log 48), the reported mark and the timers that `restartPower` keeps (log 17, log 53), and the order
of what every unit then decides from `d` (log 44; port A's state after the evaluation, log 25; pack 0 before pack 1, log 63). -/
def Obligations.WarmRestartTaken : Prop :=
  ∀ (n : Fin 16) (s : State), s.inReset = false → memoryCanonical s → postedKind s n.val kindWarmRestart = true →
    ∃ d, exec (.warmRestart n) s = .next (settle (firstRound .b (firstRound .a (dischargeDecision (handPresence
        (handPortState (evaluate (scanModeDecision d)))))))) ∧
      doneWith d n.val .ok 0 ∧ d.posted = [] ∧ d.queue = ⟨1, 0, emptyStale⟩ ∧
      Memory.readList d.mem 0x0110 8 = resyncUnit allStale 0#32 ∧ d.link.alertCause = 3#32 ∧
      d.link.partTime = 0#32 ∧ d.link.windowCtrl = s.link.windowCtrl ∧ d.link.alertEnable = s.link.alertEnable ∧
      d.link.lastProtocol = s.link.lastProtocol ∧ d.power = restartPower s.power ∧
      d.power.state = s.power.state ∧ d.power.levels = s.power.levels ∧ d.power.counts = s.power.counts ∧
      d.power.table = s.power.table ∧ d.power.heartbeat = .disarmed ∧ d.power.ignore = s.power.ignore ∧
      d.power.pendingWake = s.power.pendingWake ∧ d.kbd = resetKeyboard s.kbd.keymap ∧
      d.engineA.list = s.engineA.list ∧ d.engineB.list = s.engineB.list ∧ d.chg.profile = s.chg.profile ∧
      d.chg.mode = s.chg.mode ∧ d.chg.inhibit = ⟨false, false, false⟩ ∧ d.th.table = s.th.table ∧
      d.th.curves = s.th.curves ∧ d.tripActive = false ∧ d.dsg.critical = s.dsg.critical ∧
      ∀ m, m < 16 → m ≠ n.val → slotState d m =
        if slotState s m = slotPosted ∨ slotState s m = slotActive ∨ slotState s m = slotCancel then slotFree
        else slotState s m

/-! ### Frames -/

/-- Log 10: what the settling at the end of a command leaves alone. -/
def Obligations.SettlingFrame : Prop :=
  ∀ s : State, (settle s).pins = s.pins ∧ (settle s).inReset = s.inReset ∧ (settle s).pending = s.pending ∧
    (settle s).power.levels = s.power.levels ∧ (settle s).power.straps = s.power.straps ∧
    (settle s).link.windowCtrl = s.link.windowCtrl ∧ (settle s).link.alertEnable = s.link.alertEnable ∧
    (settle s).link.partTime = s.link.partTime ∧ (settle s).link.lastProtocol = s.link.lastProtocol ∧
    ∀ i, s.link.alertCause.getLsbD i = true → (settle s).link.alertCause.getLsbD i = true

/-- R26, R170, R172, R177 to R180: outside restarts, ALERT_ENABLE, WINDOW_CTRL, the part time and last_protocol_offset change only
by the commands that write them, and no cause is cleared but by ALERT_CAUSE_WRITE; the pins move only by the commands that
bring a level (log 6), and the strap image only at restarts. -/
def Obligations.RegistersAndPinsMoveAtTheirCommands : Prop :=
  (∀ (c : Instr) (s t : State), exec c s = .next t → (∀ pins, c ≠ .coldStart pins) →
     (∀ a b d, c ≠ .pinResetRelease a b d) → (∀ r, c ≠ .powerGoodFall r) → c ≠ .railWaitTimeout →
     c ≠ .combinationTimerExpiry → (∀ n, c ≠ .warmRestart n) →
     ((∀ f b, c ≠ .alertEnableWrite f b) → t.link.alertEnable = s.link.alertEnable) ∧
     ((∀ f b, c ≠ .windowCtrlWrite f b) → t.link.windowCtrl = s.link.windowCtrl) ∧
     (c ≠ .partTimeTick → t.link.partTime = s.link.partTime) ∧
     ((∀ a b, c ≠ .hostWindowWrite a b) → (∀ f b, c ≠ .heartbeatWrite f b) → (∀ n, c ≠ .cancelWrite n) →
       (∀ n, c ≠ .slotFreeWrite n) → (∀ v, c ≠ .readIndexWrite v) → t.link.lastProtocol = s.link.lastProtocol) ∧
     ((∀ f b, c ≠ .alertCauseWrite f b) →
       ∀ i, s.link.alertCause.getLsbD i = true → t.link.alertCause.getLsbD i = true)) ∧
  (∀ (c : Instr) (s t : State), exec c s = .next t → (∀ pins, c ≠ .coldStart pins) →
     (∀ a b d, c ≠ .pinResetRelease a b d) → (∀ r, c ≠ .powerGoodFall r) →
     ((∀ i l, c ≠ .rawInputChange i l) → (∀ r, c ≠ .powerGoodRise r) → (∀ a, c ≠ .rawRowChange a) →
       (∀ p r l, c ≠ .transactionEnd p r l) → (∀ p x, c ≠ .recoveryAttemptEnd p x) → (∀ p l, c ≠ .roundStart p l) →
       t.pins = s.pins) ∧
     (c ≠ .railWaitTimeout → c ≠ .combinationTimerExpiry → t.power.straps = s.power.straps))

/-! ### Invariants of every step -/

/-- The state right after reset meets the invariants below (tier 1). -/
def Obligations.ResetIsSound : Prop :=
  memoryCanonical State.reset ∧ countsEven State.reset ∧ unlistedBitsClear State.reset ∧ indicesInRing State.reset ∧
    keyTableBounded State.reset ∧ faultWindowsBounded State.reset ∧ fairnessBounded State.reset ∧
    pollRowsWhole State.reset ∧ slotsWhole State.reset ∧ positionsWhole State.reset ∧ inhibitedExactly State.reset ∧
    thermalCauseExactly State.reset

/-- R169: every step keeps the exchange memory in its canonical form. -/
def Obligations.StepKeepsMemoryCanonical : Prop :=
  ∀ s t : State, memoryCanonical s → step s = .next t → memoryCanonical t

/-- R174: between two steps every generation count is even. -/
def Obligations.StepKeepsCountsEven : Prop := ∀ s t : State, countsEven s → step s = .next t → countsEven t

/-- R34, R36, R73, R93, R109, R147, R178, R198: every step keeps each bounded table, list, count and index within its bound, and the
unlisted bits of the three writable registers at 0. -/
def Obligations.StepKeepsBounds : Prop :=
  (∀ s t : State, unlistedBitsClear s → step s = .next t → unlistedBitsClear t) ∧
  (∀ s t : State, step s = .next t →
     (indicesInRing s → indicesInRing t) ∧ (keyTableBounded s → keyTableBounded t) ∧
     (faultWindowsBounded s → faultWindowsBounded t) ∧ (fairnessBounded s → fairnessBounded t) ∧
     (pollRowsWhole s → pollRowsWhole t) ∧ (slotsWhole s → slotsWhole t) ∧ (positionsWhole s → positionsWhole t))

/-- R123, R124: after every step the charge state is INHIBITED exactly while the inhibit set is not empty. -/
def Obligations.StepKeepsInhibitedExactly : Prop :=
  ∀ s t : State, inhibitedExactly s → step s = .next t → inhibitedExactly t

/-- R124, R152: after every step THERMAL is in the inhibit set exactly while a sensor is tripped. -/
def Obligations.StepKeepsThermalCause : Prop :=
  ∀ s t : State, thermalCauseExactly s → step s = .next t → thermalCauseExactly t

/-- R31 and log 9: in the state after reset, and after every step from a state where it holds, the scan mode is the one that the
power state, the lid and the KEY enables decide; and no update of the keyboard record or of a port record is left due between two
commands (the model's way to make one event one update, R50, R78). -/
def Obligations.StepKeepsScanMode : Prop :=
  (scanModeDecided State.reset ∧ noUpdateDue State.reset) ∧
  ∀ s t : State, step s = .next t → (scanModeDecided s → scanModeDecided t) ∧ (noUpdateDue s → noUpdateDue t)
end

