-- ==== Sys2Proof/Laws/Memory.lean ====
section
/-! SUPPORT. The canonical form of the exchange memory: every store keeps it, and reading after a store. -/
namespace Sys2Proof.Machine

theorem Memory.wfFrom_mono {lo lo' : Nat} (h : lo' ≤ lo) {m : List Host.Cell} (hm : Memory.wfFrom lo m = true) :
    Memory.wfFrom lo' m = true := by
  cases m with
  | nil => rfl
  | cons c rest =>
    obtain ⟨a, v⟩ := c
    simp only [Memory.wfFrom, Bool.and_eq_true, decide_eq_true_eq] at hm ⊢
    exact ⟨⟨by omega, hm.1.2⟩, hm.2⟩

/-- A store keeps the form of a memory whose addresses lie above a bound that the stored address meets. -/
theorem Memory.write_wfFrom {lo a : Nat} (ha : lo ≤ a) (v : Byte) :
    {m : List Host.Cell} → Memory.wfFrom lo m = true → Memory.wfFrom lo (Memory.write m a v) = true
  | [], _ => by
    unfold Memory.write
    split <;> simp_all [Memory.wfFrom]
  | (k, w) :: rest, hm => by
    have ih := fun (h : k + 1 ≤ a) (hr : Memory.wfFrom (k + 1) rest = true) => Memory.write_wfFrom h v hr
    simp only [Memory.wfFrom, Bool.and_eq_true, decide_eq_true_eq] at hm
    obtain ⟨⟨h1, h2⟩, h3⟩ := hm
    unfold Memory.write
    split
    · split
      · simp [Memory.wfFrom, h1, h2, h3]
      · simp only [Memory.wfFrom, Bool.and_eq_true, decide_eq_true_eq]
        exact ⟨⟨ha, by assumption⟩, ⟨by omega, h2⟩, h3⟩
    · split
      · split
        · exact Memory.wfFrom_mono (by omega) h3
        · simp only [Memory.wfFrom, Bool.and_eq_true, decide_eq_true_eq]
          exact ⟨⟨ha, by assumption⟩, by subst_vars; exact h3⟩
      · simp only [Memory.wfFrom, Bool.and_eq_true, decide_eq_true_eq]
        exact ⟨⟨h1, h2⟩, ih (by omega) h3⟩

theorem Memory.write_wf {m : Memory} (a : Nat) (v : Byte) (h : Memory.wf m = true) :
    Memory.wf (Memory.write m a v) = true :=
  Memory.write_wfFrom (Nat.zero_le a) v h

theorem Memory.writeList_wf {m : Memory} (h : Memory.wf m = true) :
    (a : Nat) → (b : List Byte) → Memory.wf (Memory.writeList m a b) = true
  | _, [] => h
  | a, v :: vs => Memory.writeList_wf (Memory.write_wf a v h) (a + 1) vs

/-- Every named memory operation keeps the canonical form. -/
theorem storeBytes_wf (a : Nat) (b : List Byte) {s : State} (h : Memory.wf s.mem = true) :
    Memory.wf (storeBytes a b s).mem = true :=
  Memory.writeList_wf h a b

/-- Below the first listed address nothing is listed. -/
theorem Memory.read_below {lo a : Nat} (ha : a < lo) :
    {m : List Host.Cell} → Memory.wfFrom lo m = true → Memory.read m a = 0#8
  | [], _ => rfl
  | (k, w) :: rest, hm => by
    simp only [Memory.wfFrom, Bool.and_eq_true, decide_eq_true_eq] at hm
    obtain ⟨⟨h1, _⟩, h3⟩ := hm
    simp only [Memory.read]
    rw [if_neg (by omega)]
    exact Memory.read_below (by omega) h3

/-- Reading after a store of one byte. -/
theorem Memory.read_write_from {lo : Nat} (a b : Nat) (v : Byte) :
    {m : List Host.Cell} → Memory.wfFrom lo m = true →
      Memory.read (Memory.write m a v) b = if b = a then v else Memory.read m b
  | [], _ => by
    unfold Memory.write
    split <;> rename_i hv
    · split <;> simp [Memory.read, hv]
    · simp only [Memory.read, eq_comm]
  | (k, w) :: rest, hm => by
    have ih := fun (hr : Memory.wfFrom (k + 1) rest = true) => Memory.read_write_from a b v hr
    simp only [Memory.wfFrom, Bool.and_eq_true, decide_eq_true_eq] at hm
    obtain ⟨⟨_, _⟩, h3⟩ := hm
    unfold Memory.write
    split <;> rename_i hak
    · split <;> rename_i hv
      · split <;> rename_i hb
        · subst hb hv
          simp only [Memory.read]
          rw [if_neg (by omega)]
          exact Memory.read_below (by omega) h3
        · rfl
      · simp only [Memory.read]
        by_cases hb : b = a
        · simp [hb]
        · rw [if_neg (fun h => hb h.symm), if_neg hb]
    · split <;> rename_i hak'
      · subst hak'
        split <;> rename_i hv
        · split <;> rename_i hb
          · subst hb hv
            exact Memory.read_below (by omega) h3
          · simp only [Memory.read]
            rw [if_neg (by omega)]
        · simp only [Memory.read]
          by_cases hb : b = a
          · simp [hb]
          · rw [if_neg (fun h => hb h.symm), if_neg hb, if_neg (fun h => hb h.symm)]
      · simp only [Memory.read]
        by_cases hb : k = b
        · subst hb
          simp
          intro h
          omega
        · simp only [if_neg hb]
          exact ih h3

theorem Memory.read_write {m : Memory} (hm : Memory.wf m = true) (a b : Nat) (v : Byte) :
    Memory.read (Memory.write m a v) b = if b = a then v else Memory.read m b :=
  Memory.read_write_from a b v hm

/-- Reading after a store of consecutive bytes. -/
theorem Memory.read_writeList {m : Memory} (hm : Memory.wf m = true) (b : Nat) :
    (a : Nat) → (vs : List Byte) → Memory.read (Memory.writeList m a vs) b =
      if a ≤ b ∧ b < a + vs.length then vs.getD (b - a) 0#8 else Memory.read m b
  | a, [] => by
    simp only [Memory.writeList, List.length_nil]
    rw [if_neg (by omega)]
  | a, v :: vs => by
    simp only [Memory.writeList]
    rw [Memory.read_writeList (Memory.write_wf a v hm) b (a + 1) vs, Memory.read_write hm]
    by_cases hb : b = a
    · subst hb
      rw [if_neg (by omega), if_pos rfl, if_pos (by simp)]
      simp
    · rw [if_neg hb]
      by_cases hin : a + 1 ≤ b ∧ b < a + 1 + vs.length
      · rw [if_pos hin, if_pos (by simp only [List.length_cons]; omega)]
        obtain ⟨d, hd⟩ : ∃ d, b - a = d + 1 := ⟨b - a - 1, by omega⟩
        rw [hd, show b - (a + 1) = d by omega]
        simp
      · rw [if_neg hin, if_neg (by simp only [List.length_cons]; omega)]

/-- A store leaves the bytes outside it. -/
theorem storeBytes_read_outside {s : State} (hm : Memory.wf s.mem = true) (a : Nat) (vs : List Byte) {b : Nat}
    (hb : b < a ∨ a + vs.length ≤ b) : Memory.read (storeBytes a vs s).mem b = Memory.read s.mem b := by
  simp only [storeBytes]
  rw [Memory.read_writeList hm, if_neg (by omega)]

end Sys2Proof.Machine
end

