-- ==== Sys2Proof/Laws/State.lean ====
section
/-! SUPPORT. What each field-wise update leaves unchanged, one lemma per field. -/
namespace Sys2Proof.Machine

/-! ### storeBytes -/

@[simp] theorem storeBytes_pins (a : Nat) (b : List Byte) (s : State) : (storeBytes a b s).pins = s.pins := rfl
@[simp] theorem storeBytes_inReset (a : Nat) (b : List Byte) (s : State) : (storeBytes a b s).inReset = s.inReset := rfl
@[simp] theorem storeBytes_link (a : Nat) (b : List Byte) (s : State) : (storeBytes a b s).link = s.link := rfl
@[simp] theorem storeBytes_queue (a : Nat) (b : List Byte) (s : State) : (storeBytes a b s).queue = s.queue := rfl
@[simp] theorem storeBytes_posted (a : Nat) (b : List Byte) (s : State) : (storeBytes a b s).posted = s.posted := rfl
@[simp] theorem storeBytes_power (a : Nat) (b : List Byte) (s : State) : (storeBytes a b s).power = s.power := rfl
@[simp] theorem storeBytes_kbd (a : Nat) (b : List Byte) (s : State) : (storeBytes a b s).kbd = s.kbd := rfl
@[simp] theorem storeBytes_portA (a : Nat) (b : List Byte) (s : State) : (storeBytes a b s).portA = s.portA := rfl
@[simp] theorem storeBytes_portB (a : Nat) (b : List Byte) (s : State) : (storeBytes a b s).portB = s.portB := rfl
@[simp] theorem storeBytes_engineA (a : Nat) (b : List Byte) (s : State) : (storeBytes a b s).engineA = s.engineA := rfl
@[simp] theorem storeBytes_engineB (a : Nat) (b : List Byte) (s : State) : (storeBytes a b s).engineB = s.engineB := rfl
@[simp] theorem storeBytes_pack0 (a : Nat) (b : List Byte) (s : State) : (storeBytes a b s).pack0 = s.pack0 := rfl
@[simp] theorem storeBytes_pack1 (a : Nat) (b : List Byte) (s : State) : (storeBytes a b s).pack1 = s.pack1 := rfl
@[simp] theorem storeBytes_dsg (a : Nat) (b : List Byte) (s : State) : (storeBytes a b s).dsg = s.dsg := rfl
@[simp] theorem storeBytes_chg (a : Nat) (b : List Byte) (s : State) : (storeBytes a b s).chg = s.chg := rfl
@[simp] theorem storeBytes_th (a : Nat) (b : List Byte) (s : State) : (storeBytes a b s).th = s.th := rfl
@[simp] theorem storeBytes_turns (a : Nat) (b : List Byte) (s : State) : (storeBytes a b s).turns = s.turns := rfl
@[simp] theorem storeBytes_pending (a : Nat) (b : List Byte) (s : State) : (storeBytes a b s).pending = s.pending := rfl
@[simp] theorem storeBytes_due (a : Nat) (b : List Byte) (s : State) : (storeBytes a b s).due = s.due := rfl

/-! ### setCause -/

@[simp] theorem setCause_pins (c : Word32) (s : State) : (setCause c s).pins = s.pins := rfl
@[simp] theorem setCause_inReset (c : Word32) (s : State) : (setCause c s).inReset = s.inReset := rfl
@[simp] theorem setCause_mem (c : Word32) (s : State) : (setCause c s).mem = s.mem := rfl
@[simp] theorem setCause_queue (c : Word32) (s : State) : (setCause c s).queue = s.queue := rfl
@[simp] theorem setCause_posted (c : Word32) (s : State) : (setCause c s).posted = s.posted := rfl
@[simp] theorem setCause_power (c : Word32) (s : State) : (setCause c s).power = s.power := rfl
@[simp] theorem setCause_kbd (c : Word32) (s : State) : (setCause c s).kbd = s.kbd := rfl
@[simp] theorem setCause_portA (c : Word32) (s : State) : (setCause c s).portA = s.portA := rfl
@[simp] theorem setCause_portB (c : Word32) (s : State) : (setCause c s).portB = s.portB := rfl
@[simp] theorem setCause_engineA (c : Word32) (s : State) : (setCause c s).engineA = s.engineA := rfl
@[simp] theorem setCause_engineB (c : Word32) (s : State) : (setCause c s).engineB = s.engineB := rfl
@[simp] theorem setCause_pack0 (c : Word32) (s : State) : (setCause c s).pack0 = s.pack0 := rfl
@[simp] theorem setCause_pack1 (c : Word32) (s : State) : (setCause c s).pack1 = s.pack1 := rfl
@[simp] theorem setCause_dsg (c : Word32) (s : State) : (setCause c s).dsg = s.dsg := rfl
@[simp] theorem setCause_chg (c : Word32) (s : State) : (setCause c s).chg = s.chg := rfl
@[simp] theorem setCause_th (c : Word32) (s : State) : (setCause c s).th = s.th := rfl
@[simp] theorem setCause_turns (c : Word32) (s : State) : (setCause c s).turns = s.turns := rfl
@[simp] theorem setCause_pending (c : Word32) (s : State) : (setCause c s).pending = s.pending := rfl
@[simp] theorem setCause_due (c : Word32) (s : State) : (setCause c s).due = s.due := rfl

/-! ### useTurn -/

@[simp] theorem useTurn_pins (s : State) : (useTurn s).pins = s.pins := rfl
@[simp] theorem useTurn_inReset (s : State) : (useTurn s).inReset = s.inReset := rfl
@[simp] theorem useTurn_mem (s : State) : (useTurn s).mem = s.mem := rfl
@[simp] theorem useTurn_link (s : State) : (useTurn s).link = s.link := rfl
@[simp] theorem useTurn_queue (s : State) : (useTurn s).queue = s.queue := rfl
@[simp] theorem useTurn_posted (s : State) : (useTurn s).posted = s.posted := rfl
@[simp] theorem useTurn_power (s : State) : (useTurn s).power = s.power := rfl
@[simp] theorem useTurn_kbd (s : State) : (useTurn s).kbd = s.kbd := rfl
@[simp] theorem useTurn_portA (s : State) : (useTurn s).portA = s.portA := rfl
@[simp] theorem useTurn_portB (s : State) : (useTurn s).portB = s.portB := rfl
@[simp] theorem useTurn_engineA (s : State) : (useTurn s).engineA = s.engineA := rfl
@[simp] theorem useTurn_engineB (s : State) : (useTurn s).engineB = s.engineB := rfl
@[simp] theorem useTurn_pack0 (s : State) : (useTurn s).pack0 = s.pack0 := rfl
@[simp] theorem useTurn_pack1 (s : State) : (useTurn s).pack1 = s.pack1 := rfl
@[simp] theorem useTurn_dsg (s : State) : (useTurn s).dsg = s.dsg := rfl
@[simp] theorem useTurn_chg (s : State) : (useTurn s).chg = s.chg := rfl
@[simp] theorem useTurn_th (s : State) : (useTurn s).th = s.th := rfl
@[simp] theorem useTurn_pending (s : State) : (useTurn s).pending = s.pending := rfl
@[simp] theorem useTurn_due (s : State) : (useTurn s).due = s.due := rfl

/-! ### raiseGen -/

@[simp] theorem raiseGen_pins (r : Rec) (s : State) : (raiseGen r s).pins = s.pins := rfl
@[simp] theorem raiseGen_inReset (r : Rec) (s : State) : (raiseGen r s).inReset = s.inReset := rfl
@[simp] theorem raiseGen_mem (r : Rec) (s : State) : (raiseGen r s).mem = s.mem := rfl
@[simp] theorem raiseGen_queue (r : Rec) (s : State) : (raiseGen r s).queue = s.queue := rfl
@[simp] theorem raiseGen_posted (r : Rec) (s : State) : (raiseGen r s).posted = s.posted := rfl
@[simp] theorem raiseGen_power (r : Rec) (s : State) : (raiseGen r s).power = s.power := rfl
@[simp] theorem raiseGen_kbd (r : Rec) (s : State) : (raiseGen r s).kbd = s.kbd := rfl
@[simp] theorem raiseGen_portA (r : Rec) (s : State) : (raiseGen r s).portA = s.portA := rfl
@[simp] theorem raiseGen_portB (r : Rec) (s : State) : (raiseGen r s).portB = s.portB := rfl
@[simp] theorem raiseGen_engineA (r : Rec) (s : State) : (raiseGen r s).engineA = s.engineA := rfl
@[simp] theorem raiseGen_engineB (r : Rec) (s : State) : (raiseGen r s).engineB = s.engineB := rfl
@[simp] theorem raiseGen_pack0 (r : Rec) (s : State) : (raiseGen r s).pack0 = s.pack0 := rfl
@[simp] theorem raiseGen_pack1 (r : Rec) (s : State) : (raiseGen r s).pack1 = s.pack1 := rfl
@[simp] theorem raiseGen_dsg (r : Rec) (s : State) : (raiseGen r s).dsg = s.dsg := rfl
@[simp] theorem raiseGen_chg (r : Rec) (s : State) : (raiseGen r s).chg = s.chg := rfl
@[simp] theorem raiseGen_th (r : Rec) (s : State) : (raiseGen r s).th = s.th := rfl
@[simp] theorem raiseGen_turns (r : Rec) (s : State) : (raiseGen r s).turns = s.turns := rfl
@[simp] theorem raiseGen_pending (r : Rec) (s : State) : (raiseGen r s).pending = s.pending := rfl
@[simp] theorem raiseGen_due (r : Rec) (s : State) : (raiseGen r s).due = s.due := rfl

/-! ### publish -/

@[simp] theorem publish_pins (r : Rec) (s : State) : (publish r s).pins = s.pins := rfl
@[simp] theorem publish_inReset (r : Rec) (s : State) : (publish r s).inReset = s.inReset := rfl
@[simp] theorem publish_mem (r : Rec) (s : State) : (publish r s).mem = s.mem := rfl
@[simp] theorem publish_queue (r : Rec) (s : State) : (publish r s).queue = s.queue := rfl
@[simp] theorem publish_posted (r : Rec) (s : State) : (publish r s).posted = s.posted := rfl
@[simp] theorem publish_power (r : Rec) (s : State) : (publish r s).power = s.power := rfl
@[simp] theorem publish_kbd (r : Rec) (s : State) : (publish r s).kbd = s.kbd := rfl
@[simp] theorem publish_portA (r : Rec) (s : State) : (publish r s).portA = s.portA := rfl
@[simp] theorem publish_portB (r : Rec) (s : State) : (publish r s).portB = s.portB := rfl
@[simp] theorem publish_engineA (r : Rec) (s : State) : (publish r s).engineA = s.engineA := rfl
@[simp] theorem publish_engineB (r : Rec) (s : State) : (publish r s).engineB = s.engineB := rfl
@[simp] theorem publish_pack0 (r : Rec) (s : State) : (publish r s).pack0 = s.pack0 := rfl
@[simp] theorem publish_pack1 (r : Rec) (s : State) : (publish r s).pack1 = s.pack1 := rfl
@[simp] theorem publish_dsg (r : Rec) (s : State) : (publish r s).dsg = s.dsg := rfl
@[simp] theorem publish_chg (r : Rec) (s : State) : (publish r s).chg = s.chg := rfl
@[simp] theorem publish_th (r : Rec) (s : State) : (publish r s).th = s.th := rfl
@[simp] theorem publish_turns (r : Rec) (s : State) : (publish r s).turns = s.turns := rfl
@[simp] theorem publish_pending (r : Rec) (s : State) : (publish r s).pending = s.pending := rfl
@[simp] theorem publish_due (r : Rec) (s : State) : (publish r s).due = s.due := rfl

/-! ### announce -/

@[simp] theorem announce_pins (r : Rec) (s : State) : (announce r s).pins = s.pins := by
  unfold announce; split <;> rfl
@[simp] theorem announce_inReset (r : Rec) (s : State) : (announce r s).inReset = s.inReset := by
  unfold announce; split <;> rfl
@[simp] theorem announce_mem (r : Rec) (s : State) : (announce r s).mem = s.mem := by
  unfold announce; split <;> rfl
@[simp] theorem announce_queue (r : Rec) (s : State) : (announce r s).queue = s.queue := by
  unfold announce; split <;> rfl
@[simp] theorem announce_posted (r : Rec) (s : State) : (announce r s).posted = s.posted := by
  unfold announce; split <;> rfl
@[simp] theorem announce_power (r : Rec) (s : State) : (announce r s).power = s.power := by
  unfold announce; split <;> rfl
@[simp] theorem announce_kbd (r : Rec) (s : State) : (announce r s).kbd = s.kbd := by
  unfold announce; split <;> rfl
@[simp] theorem announce_portA (r : Rec) (s : State) : (announce r s).portA = s.portA := by
  unfold announce; split <;> rfl
@[simp] theorem announce_portB (r : Rec) (s : State) : (announce r s).portB = s.portB := by
  unfold announce; split <;> rfl
@[simp] theorem announce_engineA (r : Rec) (s : State) : (announce r s).engineA = s.engineA := by
  unfold announce; split <;> rfl
@[simp] theorem announce_engineB (r : Rec) (s : State) : (announce r s).engineB = s.engineB := by
  unfold announce; split <;> rfl
@[simp] theorem announce_pack0 (r : Rec) (s : State) : (announce r s).pack0 = s.pack0 := by
  unfold announce; split <;> rfl
@[simp] theorem announce_pack1 (r : Rec) (s : State) : (announce r s).pack1 = s.pack1 := by
  unfold announce; split <;> rfl
@[simp] theorem announce_dsg (r : Rec) (s : State) : (announce r s).dsg = s.dsg := by
  unfold announce; split <;> rfl
@[simp] theorem announce_chg (r : Rec) (s : State) : (announce r s).chg = s.chg := by
  unfold announce; split <;> rfl
@[simp] theorem announce_th (r : Rec) (s : State) : (announce r s).th = s.th := by
  unfold announce; split <;> rfl
@[simp] theorem announce_turns (r : Rec) (s : State) : (announce r s).turns = s.turns := by
  unfold announce; split <;> rfl
@[simp] theorem announce_pending (r : Rec) (s : State) : (announce r s).pending = s.pending := by
  unfold announce; split <;> rfl
@[simp] theorem announce_windowCtrl (r : Rec) (s : State) : (announce r s).link.windowCtrl = s.link.windowCtrl := by
  unfold announce; split <;> rfl
@[simp] theorem announce_alertEnable (r : Rec) (s : State) : (announce r s).link.alertEnable = s.link.alertEnable := by
  unfold announce; split <;> rfl
@[simp] theorem announce_alertCause (r : Rec) (s : State) : (announce r s).link.alertCause = s.link.alertCause := by
  unfold announce; split <;> rfl
@[simp] theorem announce_partTime (r : Rec) (s : State) : (announce r s).link.partTime = s.link.partTime := by
  unfold announce; split <;> rfl
@[simp] theorem announce_lastProtocol (r : Rec) (s : State) : (announce r s).link.lastProtocol = s.link.lastProtocol := by
  unfold announce; split <;> rfl

/-! ### setPort -/

@[simp] theorem setPort_pins (p : PortId) (x : Port) (s : State) : (s.setPort p x).pins = s.pins := by cases p <;> rfl
@[simp] theorem setPort_inReset (p : PortId) (x : Port) (s : State) : (s.setPort p x).inReset = s.inReset := by cases p <;> rfl
@[simp] theorem setPort_mem (p : PortId) (x : Port) (s : State) : (s.setPort p x).mem = s.mem := by cases p <;> rfl
@[simp] theorem setPort_link (p : PortId) (x : Port) (s : State) : (s.setPort p x).link = s.link := by cases p <;> rfl
@[simp] theorem setPort_queue (p : PortId) (x : Port) (s : State) : (s.setPort p x).queue = s.queue := by cases p <;> rfl
@[simp] theorem setPort_posted (p : PortId) (x : Port) (s : State) : (s.setPort p x).posted = s.posted := by cases p <;> rfl
@[simp] theorem setPort_power (p : PortId) (x : Port) (s : State) : (s.setPort p x).power = s.power := by cases p <;> rfl
@[simp] theorem setPort_kbd (p : PortId) (x : Port) (s : State) : (s.setPort p x).kbd = s.kbd := by cases p <;> rfl
@[simp] theorem setPort_engineA (p : PortId) (x : Port) (s : State) : (s.setPort p x).engineA = s.engineA := by cases p <;> rfl
@[simp] theorem setPort_engineB (p : PortId) (x : Port) (s : State) : (s.setPort p x).engineB = s.engineB := by cases p <;> rfl
@[simp] theorem setPort_pack0 (p : PortId) (x : Port) (s : State) : (s.setPort p x).pack0 = s.pack0 := by cases p <;> rfl
@[simp] theorem setPort_pack1 (p : PortId) (x : Port) (s : State) : (s.setPort p x).pack1 = s.pack1 := by cases p <;> rfl
@[simp] theorem setPort_dsg (p : PortId) (x : Port) (s : State) : (s.setPort p x).dsg = s.dsg := by cases p <;> rfl
@[simp] theorem setPort_chg (p : PortId) (x : Port) (s : State) : (s.setPort p x).chg = s.chg := by cases p <;> rfl
@[simp] theorem setPort_th (p : PortId) (x : Port) (s : State) : (s.setPort p x).th = s.th := by cases p <;> rfl
@[simp] theorem setPort_turns (p : PortId) (x : Port) (s : State) : (s.setPort p x).turns = s.turns := by cases p <;> rfl
@[simp] theorem setPort_pending (p : PortId) (x : Port) (s : State) : (s.setPort p x).pending = s.pending := by cases p <;> rfl
@[simp] theorem setPort_due (p : PortId) (x : Port) (s : State) : (s.setPort p x).due = s.due := by cases p <;> rfl

/-! ### setEngine -/

@[simp] theorem setEngine_pins (p : PortId) (x : Engine) (s : State) : (s.setEngine p x).pins = s.pins := by cases p <;> rfl
@[simp] theorem setEngine_inReset (p : PortId) (x : Engine) (s : State) : (s.setEngine p x).inReset = s.inReset := by cases p <;> rfl
@[simp] theorem setEngine_mem (p : PortId) (x : Engine) (s : State) : (s.setEngine p x).mem = s.mem := by cases p <;> rfl
@[simp] theorem setEngine_link (p : PortId) (x : Engine) (s : State) : (s.setEngine p x).link = s.link := by cases p <;> rfl
@[simp] theorem setEngine_queue (p : PortId) (x : Engine) (s : State) : (s.setEngine p x).queue = s.queue := by cases p <;> rfl
@[simp] theorem setEngine_posted (p : PortId) (x : Engine) (s : State) : (s.setEngine p x).posted = s.posted := by cases p <;> rfl
@[simp] theorem setEngine_power (p : PortId) (x : Engine) (s : State) : (s.setEngine p x).power = s.power := by cases p <;> rfl
@[simp] theorem setEngine_kbd (p : PortId) (x : Engine) (s : State) : (s.setEngine p x).kbd = s.kbd := by cases p <;> rfl
@[simp] theorem setEngine_portA (p : PortId) (x : Engine) (s : State) : (s.setEngine p x).portA = s.portA := by cases p <;> rfl
@[simp] theorem setEngine_portB (p : PortId) (x : Engine) (s : State) : (s.setEngine p x).portB = s.portB := by cases p <;> rfl
@[simp] theorem setEngine_pack0 (p : PortId) (x : Engine) (s : State) : (s.setEngine p x).pack0 = s.pack0 := by cases p <;> rfl
@[simp] theorem setEngine_pack1 (p : PortId) (x : Engine) (s : State) : (s.setEngine p x).pack1 = s.pack1 := by cases p <;> rfl
@[simp] theorem setEngine_dsg (p : PortId) (x : Engine) (s : State) : (s.setEngine p x).dsg = s.dsg := by cases p <;> rfl
@[simp] theorem setEngine_chg (p : PortId) (x : Engine) (s : State) : (s.setEngine p x).chg = s.chg := by cases p <;> rfl
@[simp] theorem setEngine_th (p : PortId) (x : Engine) (s : State) : (s.setEngine p x).th = s.th := by cases p <;> rfl
@[simp] theorem setEngine_turns (p : PortId) (x : Engine) (s : State) : (s.setEngine p x).turns = s.turns := by cases p <;> rfl
@[simp] theorem setEngine_pending (p : PortId) (x : Engine) (s : State) : (s.setEngine p x).pending = s.pending := by cases p <;> rfl
@[simp] theorem setEngine_due (p : PortId) (x : Engine) (s : State) : (s.setEngine p x).due = s.due := by cases p <;> rfl

/-! ### setPack -/

@[simp] theorem setPack_pins (k : PackId) (x : Pack) (s : State) : (s.setPack k x).pins = s.pins := by cases k <;> rfl
@[simp] theorem setPack_inReset (k : PackId) (x : Pack) (s : State) : (s.setPack k x).inReset = s.inReset := by cases k <;> rfl
@[simp] theorem setPack_mem (k : PackId) (x : Pack) (s : State) : (s.setPack k x).mem = s.mem := by cases k <;> rfl
@[simp] theorem setPack_link (k : PackId) (x : Pack) (s : State) : (s.setPack k x).link = s.link := by cases k <;> rfl
@[simp] theorem setPack_queue (k : PackId) (x : Pack) (s : State) : (s.setPack k x).queue = s.queue := by cases k <;> rfl
@[simp] theorem setPack_posted (k : PackId) (x : Pack) (s : State) : (s.setPack k x).posted = s.posted := by cases k <;> rfl
@[simp] theorem setPack_power (k : PackId) (x : Pack) (s : State) : (s.setPack k x).power = s.power := by cases k <;> rfl
@[simp] theorem setPack_kbd (k : PackId) (x : Pack) (s : State) : (s.setPack k x).kbd = s.kbd := by cases k <;> rfl
@[simp] theorem setPack_portA (k : PackId) (x : Pack) (s : State) : (s.setPack k x).portA = s.portA := by cases k <;> rfl
@[simp] theorem setPack_portB (k : PackId) (x : Pack) (s : State) : (s.setPack k x).portB = s.portB := by cases k <;> rfl
@[simp] theorem setPack_engineA (k : PackId) (x : Pack) (s : State) : (s.setPack k x).engineA = s.engineA := by cases k <;> rfl
@[simp] theorem setPack_engineB (k : PackId) (x : Pack) (s : State) : (s.setPack k x).engineB = s.engineB := by cases k <;> rfl
@[simp] theorem setPack_dsg (k : PackId) (x : Pack) (s : State) : (s.setPack k x).dsg = s.dsg := by cases k <;> rfl
@[simp] theorem setPack_chg (k : PackId) (x : Pack) (s : State) : (s.setPack k x).chg = s.chg := by cases k <;> rfl
@[simp] theorem setPack_th (k : PackId) (x : Pack) (s : State) : (s.setPack k x).th = s.th := by cases k <;> rfl
@[simp] theorem setPack_turns (k : PackId) (x : Pack) (s : State) : (s.setPack k x).turns = s.turns := by cases k <;> rfl
@[simp] theorem setPack_pending (k : PackId) (x : Pack) (s : State) : (s.setPack k x).pending = s.pending := by cases k <;> rfl
@[simp] theorem setPack_due (k : PackId) (x : Pack) (s : State) : (s.setPack k x).due = s.due := by cases k <;> rfl

/-! ### setFan -/

@[simp] theorem setFan_pins (f : FanId) (x : Fan) (s : State) : (s.setFan f x).pins = s.pins := by cases f <;> rfl
@[simp] theorem setFan_inReset (f : FanId) (x : Fan) (s : State) : (s.setFan f x).inReset = s.inReset := by cases f <;> rfl
@[simp] theorem setFan_mem (f : FanId) (x : Fan) (s : State) : (s.setFan f x).mem = s.mem := by cases f <;> rfl
@[simp] theorem setFan_link (f : FanId) (x : Fan) (s : State) : (s.setFan f x).link = s.link := by cases f <;> rfl
@[simp] theorem setFan_queue (f : FanId) (x : Fan) (s : State) : (s.setFan f x).queue = s.queue := by cases f <;> rfl
@[simp] theorem setFan_posted (f : FanId) (x : Fan) (s : State) : (s.setFan f x).posted = s.posted := by cases f <;> rfl
@[simp] theorem setFan_power (f : FanId) (x : Fan) (s : State) : (s.setFan f x).power = s.power := by cases f <;> rfl
@[simp] theorem setFan_kbd (f : FanId) (x : Fan) (s : State) : (s.setFan f x).kbd = s.kbd := by cases f <;> rfl
@[simp] theorem setFan_portA (f : FanId) (x : Fan) (s : State) : (s.setFan f x).portA = s.portA := by cases f <;> rfl
@[simp] theorem setFan_portB (f : FanId) (x : Fan) (s : State) : (s.setFan f x).portB = s.portB := by cases f <;> rfl
@[simp] theorem setFan_engineA (f : FanId) (x : Fan) (s : State) : (s.setFan f x).engineA = s.engineA := by cases f <;> rfl
@[simp] theorem setFan_engineB (f : FanId) (x : Fan) (s : State) : (s.setFan f x).engineB = s.engineB := by cases f <;> rfl
@[simp] theorem setFan_pack0 (f : FanId) (x : Fan) (s : State) : (s.setFan f x).pack0 = s.pack0 := by cases f <;> rfl
@[simp] theorem setFan_pack1 (f : FanId) (x : Fan) (s : State) : (s.setFan f x).pack1 = s.pack1 := by cases f <;> rfl
@[simp] theorem setFan_dsg (f : FanId) (x : Fan) (s : State) : (s.setFan f x).dsg = s.dsg := by cases f <;> rfl
@[simp] theorem setFan_chg (f : FanId) (x : Fan) (s : State) : (s.setFan f x).chg = s.chg := by cases f <;> rfl
@[simp] theorem setFan_turns (f : FanId) (x : Fan) (s : State) : (s.setFan f x).turns = s.turns := by cases f <;> rfl
@[simp] theorem setFan_pending (f : FanId) (x : Fan) (s : State) : (s.setFan f x).pending = s.pending := by cases f <;> rfl
@[simp] theorem setFan_due (f : FanId) (x : Fan) (s : State) : (s.setFan f x).due = s.due := by cases f <;> rfl

/-! ### setLine -/

@[simp] theorem setLine_inReset (p : PortId) (l : BusLine) (s : State) : (s.setLine p l).inReset = s.inReset := by cases p <;> rfl
@[simp] theorem setLine_mem (p : PortId) (l : BusLine) (s : State) : (s.setLine p l).mem = s.mem := by cases p <;> rfl
@[simp] theorem setLine_link (p : PortId) (l : BusLine) (s : State) : (s.setLine p l).link = s.link := by cases p <;> rfl
@[simp] theorem setLine_queue (p : PortId) (l : BusLine) (s : State) : (s.setLine p l).queue = s.queue := by cases p <;> rfl
@[simp] theorem setLine_posted (p : PortId) (l : BusLine) (s : State) : (s.setLine p l).posted = s.posted := by cases p <;> rfl
@[simp] theorem setLine_power (p : PortId) (l : BusLine) (s : State) : (s.setLine p l).power = s.power := by cases p <;> rfl
@[simp] theorem setLine_kbd (p : PortId) (l : BusLine) (s : State) : (s.setLine p l).kbd = s.kbd := by cases p <;> rfl
@[simp] theorem setLine_portA (p : PortId) (l : BusLine) (s : State) : (s.setLine p l).portA = s.portA := by cases p <;> rfl
@[simp] theorem setLine_portB (p : PortId) (l : BusLine) (s : State) : (s.setLine p l).portB = s.portB := by cases p <;> rfl
@[simp] theorem setLine_engineA (p : PortId) (l : BusLine) (s : State) : (s.setLine p l).engineA = s.engineA := by cases p <;> rfl
@[simp] theorem setLine_engineB (p : PortId) (l : BusLine) (s : State) : (s.setLine p l).engineB = s.engineB := by cases p <;> rfl
@[simp] theorem setLine_pack0 (p : PortId) (l : BusLine) (s : State) : (s.setLine p l).pack0 = s.pack0 := by cases p <;> rfl
@[simp] theorem setLine_pack1 (p : PortId) (l : BusLine) (s : State) : (s.setLine p l).pack1 = s.pack1 := by cases p <;> rfl
@[simp] theorem setLine_dsg (p : PortId) (l : BusLine) (s : State) : (s.setLine p l).dsg = s.dsg := by cases p <;> rfl
@[simp] theorem setLine_chg (p : PortId) (l : BusLine) (s : State) : (s.setLine p l).chg = s.chg := by cases p <;> rfl
@[simp] theorem setLine_th (p : PortId) (l : BusLine) (s : State) : (s.setLine p l).th = s.th := by cases p <;> rfl
@[simp] theorem setLine_turns (p : PortId) (l : BusLine) (s : State) : (s.setLine p l).turns = s.turns := by cases p <;> rfl
@[simp] theorem setLine_pending (p : PortId) (l : BusLine) (s : State) : (s.setLine p l).pending = s.pending := by cases p <;> rfl
@[simp] theorem setLine_due (p : PortId) (l : BusLine) (s : State) : (s.setLine p l).due = s.due := by cases p <;> rfl

/-! ### Parts of the link -/

@[simp] theorem setCause_windowCtrl (c : Word32) (s : State) : (setCause c s).link.windowCtrl = s.link.windowCtrl := rfl
@[simp] theorem setCause_alertEnable (c : Word32) (s : State) : (setCause c s).link.alertEnable = s.link.alertEnable := rfl
@[simp] theorem setCause_partTime (c : Word32) (s : State) : (setCause c s).link.partTime = s.link.partTime := rfl
@[simp] theorem setCause_lastProtocol (c : Word32) (s : State) :
    (setCause c s).link.lastProtocol = s.link.lastProtocol := rfl
@[simp] theorem setCause_gens (c : Word32) (s : State) : (setCause c s).link.gens = s.link.gens := rfl
@[simp] theorem setCause_alertCause (c : Word32) (s : State) :
    (setCause c s).link.alertCause = s.link.alertCause ||| c := rfl
@[simp] theorem publish_windowCtrl (r : Rec) (s : State) : (publish r s).link.windowCtrl = s.link.windowCtrl := rfl
@[simp] theorem publish_alertEnable (r : Rec) (s : State) : (publish r s).link.alertEnable = s.link.alertEnable := rfl
@[simp] theorem publish_alertCause (r : Rec) (s : State) : (publish r s).link.alertCause = s.link.alertCause := rfl
@[simp] theorem publish_partTime (r : Rec) (s : State) : (publish r s).link.partTime = s.link.partTime := rfl
@[simp] theorem publish_lastProtocol (r : Rec) (s : State) : (publish r s).link.lastProtocol = s.link.lastProtocol := rfl
@[simp] theorem publish_gens (r : Rec) (s : State) :
    (publish r s).link.gens = (s.link.gens.modify r.index (· + 1#16)).modify r.index (· + 1#16) := rfl

/-! ### Reading a part that an update has written -/

@[simp] theorem port_setPort (p : PortId) (x : Port) (s : State) : (s.setPort p x).port p = x := by cases p <;> rfl
@[simp] theorem engine_setEngine (p : PortId) (x : Engine) (s : State) : (s.setEngine p x).engine p = x := by
  cases p <;> rfl
@[simp] theorem pack_setPack (k : PackId) (x : Pack) (s : State) : (s.setPack k x).pack k = x := by cases k <;> rfl
@[simp] theorem fan_setFan (f : FanId) (x : Fan) (s : State) : (s.setFan f x).fan f = x := by cases f <;> rfl
@[simp] theorem line_setLine (p : PortId) (l : BusLine) (s : State) : (s.setLine p l).line p = l := by cases p <;> rfl

theorem port_setPort_ne {p q : PortId} (h : q ≠ p) (x : Port) (s : State) : (s.setPort p x).port q = s.port q := by
  cases p <;> cases q <;> first | rfl | exact absurd rfl h
theorem engine_setEngine_ne {p q : PortId} (h : q ≠ p) (x : Engine) (s : State) :
    (s.setEngine p x).engine q = s.engine q := by
  cases p <;> cases q <;> first | rfl | exact absurd rfl h
theorem pack_setPack_ne {k j : PackId} (h : j ≠ k) (x : Pack) (s : State) : (s.setPack k x).pack j = s.pack j := by
  cases k <;> cases j <;> first | rfl | exact absurd rfl h
theorem fan_setFan_ne {f g : FanId} (h : g ≠ f) (x : Fan) (s : State) : (s.setFan f x).fan g = s.fan g := by
  cases f <;> cases g <;> first | rfl | exact absurd rfl h

@[simp] theorem port_setEngine (p q : PortId) (x : Engine) (s : State) : (s.setEngine p x).port q = s.port q := by
  cases p <;> cases q <;> rfl
@[simp] theorem engine_setPort (p q : PortId) (x : Port) (s : State) : (s.setPort p x).engine q = s.engine q := by
  cases p <;> cases q <;> rfl
@[simp] theorem port_setPack (k : PackId) (q : PortId) (x : Pack) (s : State) : (s.setPack k x).port q = s.port q := by
  cases k <;> cases q <;> rfl
@[simp] theorem engine_setPack (k : PackId) (q : PortId) (x : Pack) (s : State) :
    (s.setPack k x).engine q = s.engine q := by
  cases k <;> cases q <;> rfl
@[simp] theorem pack_setPort (p : PortId) (k : PackId) (x : Port) (s : State) : (s.setPort p x).pack k = s.pack k := by
  cases p <;> cases k <;> rfl
@[simp] theorem pack_setEngine (p : PortId) (k : PackId) (x : Engine) (s : State) :
    (s.setEngine p x).pack k = s.pack k := by
  cases p <;> cases k <;> rfl
@[simp] theorem port_publish (r : Rec) (q : PortId) (s : State) : (publish r s).port q = s.port q := by cases q <;> rfl
@[simp] theorem engine_publish (r : Rec) (q : PortId) (s : State) : (publish r s).engine q = s.engine q := by
  cases q <;> rfl
@[simp] theorem pack_publish (r : Rec) (k : PackId) (s : State) : (publish r s).pack k = s.pack k := by cases k <;> rfl
@[simp] theorem fan_publish (r : Rec) (f : FanId) (s : State) : (publish r s).fan f = s.fan f := by cases f <;> rfl
@[simp] theorem port_setCause (c : Word32) (q : PortId) (s : State) : (setCause c s).port q = s.port q := by
  cases q <;> rfl
@[simp] theorem port_storeBytes (a : Nat) (b : List Byte) (q : PortId) (s : State) :
    (storeBytes a b s).port q = s.port q := by
  cases q <;> rfl

end Sys2Proof.Machine
end

