-- ==== Sys2Proof/Laws/Frame.lean ====
section
/-! SUPPORT. What a function may change, as three relations between the state before and after: `Low` for the report queue,
the charge controller, the fans and the scanner; `Mid` for the power controller besides; `Keeps` for everything but the
commands that write pins, registers or reset values. With the flag `true` the THERMAL cause stands still with the trips. -/
namespace Sys2Proof.Laws

open Sys2Proof.Machine Sys2Proof.Safety

/-- What every function inside a command keeps. -/
structure Keeps (w : Bool) (s t : State) : Prop where
  pending : t.pending = s.pending := by rfl
  inReset : t.inReset = s.inReset := by rfl
  pins : t.pins = s.pins := by rfl
  straps : t.power.straps = s.power.straps := by rfl
  levels : t.power.levels = s.power.levels := by rfl
  windowCtrl : t.link.windowCtrl = s.link.windowCtrl := by rfl
  alertEnable : t.link.alertEnable = s.link.alertEnable := by rfl
  partTime : t.link.partTime = s.link.partTime := by rfl
  lastProtocol : t.link.lastProtocol = s.link.lastProtocol := by rfl
  causesStay : ∀ i, s.link.alertCause.getLsbD i = true → t.link.alertCause.getLsbD i = true := by exact fun _ h => h
  unlisted : s.link.alertCause &&& ~~~alertMask = 0#32 → t.link.alertCause &&& ~~~alertMask = 0#32 := by exact id
  memory : memoryCanonical s → memoryCanonical t := by exact id
  even : countsEven s → countsEven t := by exact id
  ring : indicesInRing s → indicesInRing t := by exact id
  keys : keyTableBounded s → keyTableBounded t := by exact id
  windows : faultWindowsBounded s → faultWindowsBounded t := by exact id
  fairness : fairnessBounded s → fairnessBounded t := by exact id
  rows : pollRowsWhole s → pollRowsWhole t := by exact id
  slotsKept : slotsWhole s → slotsWhole t := by exact id
  positions : positionsWhole s → positionsWhole t := by exact id
  inhibit : inhibitedExactly s → inhibitedExactly t := by exact id
  thermal : w = true → thermalCauseExactly s → thermalCauseExactly t := by exact fun _ h => h

/-- What the power controller's functions keep besides. -/
structure Mid (w : Bool) (s t : State) : Prop extends Keeps w s t where
  posted : t.posted = s.posted := by rfl
  portA : ∃ g st w b c, t.portA = { s.portA with charger := g, state := st, granted := w, starting := b, second := c } := by
    exact ⟨_, _, _, _, _, rfl⟩
  portB : t.portB = s.portB := by rfl
  engineA : t.engineA = s.engineA := by rfl
  engineB : t.engineB = s.engineB := by rfl
  pack0 : t.pack0 = s.pack0 := by rfl
  pack1 : t.pack1 = s.pack1 := by rfl
  slots : t.th.slots = s.th.slots := by rfl
  thermalTable : t.th.table = s.th.table := by rfl
  curves : t.th.curves = s.th.curves := by rfl
  keymap : t.kbd.keymap = s.kbd.keymap := by rfl
  profile : t.chg.profile = s.chg.profile := by rfl
  cause : w = true → t.chg.inhibit.thermal = s.chg.inhibit.thermal := by exact fun _ => rfl
  readIndex : t.queue.read = s.queue.read ∨ t.queue.read = 0 := by exact Or.inl rfl

/-- What the units below the power controller keep besides. -/
structure Low (w : Bool) (s t : State) : Prop extends Mid w s t where
  power : t.power = s.power := by rfl
  dsg : t.dsg = s.dsg := by rfl
  turns : t.turns = s.turns := by rfl

theorem Keeps.refl (w : Bool) (s : State) : Keeps w s s := {}
theorem Mid.refl (w : Bool) (s : State) : Mid w s s := {}
theorem Low.refl (w : Bool) (s : State) : Low w s s := {}

theorem Keeps.trans {w : Bool} {s t u : State} (a : Keeps w s t) (b : Keeps w t u) : Keeps w s u where
  pending := b.pending.trans a.pending
  inReset := b.inReset.trans a.inReset
  pins := b.pins.trans a.pins
  straps := b.straps.trans a.straps
  levels := b.levels.trans a.levels
  windowCtrl := b.windowCtrl.trans a.windowCtrl
  alertEnable := b.alertEnable.trans a.alertEnable
  partTime := b.partTime.trans a.partTime
  lastProtocol := b.lastProtocol.trans a.lastProtocol
  causesStay := fun i h => b.causesStay i (a.causesStay i h)
  unlisted := b.unlisted ∘ a.unlisted
  memory := b.memory ∘ a.memory
  even := b.even ∘ a.even
  ring := b.ring ∘ a.ring
  keys := b.keys ∘ a.keys
  windows := b.windows ∘ a.windows
  fairness := b.fairness ∘ a.fairness
  rows := b.rows ∘ a.rows
  slotsKept := b.slotsKept ∘ a.slotsKept
  positions := b.positions ∘ a.positions
  inhibit := b.inhibit ∘ a.inhibit
  thermal := fun h => b.thermal h ∘ a.thermal h

theorem Mid.trans {w : Bool} {s t u : State} (a : Mid w s t) (b : Mid w t u) : Mid w s u where
  toKeeps := a.toKeeps.trans b.toKeeps
  posted := b.posted.trans a.posted
  portA := by
    obtain ⟨_, _, _, _, _, ha⟩ := a.portA
    obtain ⟨g, st, w, b, c, hb⟩ := b.portA
    exact ⟨g, st, w, b, c, by rw [hb, ha]⟩
  portB := b.portB.trans a.portB
  engineA := b.engineA.trans a.engineA
  engineB := b.engineB.trans a.engineB
  pack0 := b.pack0.trans a.pack0
  pack1 := b.pack1.trans a.pack1
  slots := b.slots.trans a.slots
  thermalTable := b.thermalTable.trans a.thermalTable
  curves := b.curves.trans a.curves
  keymap := b.keymap.trans a.keymap
  profile := b.profile.trans a.profile
  cause := fun h => (b.cause h).trans (a.cause h)
  readIndex := by
    rcases b.readIndex with h | h
    · rcases a.readIndex with h' | h' <;> simp [h, h']
    · exact Or.inr h

theorem Low.trans {w : Bool} {s t u : State} (a : Low w s t) (b : Low w t u) : Low w s u where
  toMid := a.toMid.trans b.toMid
  power := b.power.trans a.power
  dsg := b.dsg.trans a.dsg
  turns := b.turns.trans a.turns

/-- The last change first: the state between is then known. -/
theorem Keeps.after {w : Bool} {s t u : State} (b : Keeps w t u) (a : Keeps w s t) : Keeps w s u := a.trans b
theorem Mid.after {w : Bool} {s t u : State} (b : Mid w t u) (a : Mid w s t) : Mid w s u := a.trans b
theorem Low.after {w : Bool} {s t u : State} (b : Low w t u) (a : Low w s t) : Low w s u := a.trans b

/-- Without the THERMAL cause there is less to keep. -/
theorem Keeps.weaken {w : Bool} {s t : State} (h : Keeps true s t) : Keeps w s t :=
  { h with thermal := fun _ => h.thermal rfl }
theorem Mid.weaken {w : Bool} {s t : State} (h : Mid true s t) : Mid w s t :=
  { h with toKeeps := h.toKeeps.weaken, cause := fun _ => h.cause rfl }
theorem Low.weaken {w : Bool} {s t : State} (h : Low true s t) : Low w s t :=
  { h with toMid := h.toMid.weaken }

/-- A choice between two functions. -/
theorem Keeps.ite {w : Bool} {s a b : State} {c : Prop} [Decidable c] (ha : Keeps w s a) (hb : Keeps w s b) :
    Keeps w s (if c then a else b) := by split <;> assumption
theorem Mid.ite {w : Bool} {s a b : State} {c : Prop} [Decidable c] (ha : Mid w s a) (hb : Mid w s b) :
    Mid w s (if c then a else b) := by split <;> assumption
theorem Low.ite {w : Bool} {s a b : State} {c : Prop} [Decidable c] (ha : Low w s a) (hb : Low w s b) :
    Low w s (if c then a else b) := by split <;> assumption

/-! ### Primitive updates -/

theorem low_mem (m : Memory) (s : State) (h : Memory.wf s.mem = true → Memory.wf m = true) :
    Low true s { s with mem := m } := { memory := h }

theorem low_storeBytes (a : Nat) (b : List Byte) (s : State) : Low true s (storeBytes a b s) :=
  { memory := storeBytes_wf a b }

theorem low_kbd (k : Keyboard) (s : State) (hm : k.keymap = s.kbd.keymap)
    (ht : s.kbd.table.length ≤ Config.tableSize → k.table.length ≤ Config.tableSize)
    (hp : k.positions.length = s.kbd.positions.length ∨ k.positions.length = 144 := by exact Or.inl rfl) :
    Low true s { s with kbd := k } :=
  { keymap := hm, keys := ht
    positions := fun h => by
      rcases hp with e | e
      · exact e.trans h
      · exact e }

theorem low_queue (q : Queue) (s : State) (hr : q.read = s.queue.read ∨ q.read = 0)
    (hq : s.queue.write < 128 → q.write < 128) : Low true s { s with queue := q } :=
  { readIndex := hr
    ring := fun h => ⟨hq h.1, by
      have h2 := h.2
      rcases hr with e | e <;> simp only [e] <;> omega⟩ }

/-- Raising a count twice leaves every count's lowest bit as it is. -/
theorem even_modify_twice (l : List Word16) (i : Nat) (h : ∀ g ∈ l, g.getLsbD 0 = false) :
    ∀ g ∈ (l.modify i (· + 1#16)).modify i (· + 1#16), g.getLsbD 0 = false := by
  intro g hg
  rw [List.mem_iff_getElem] at hg
  obtain ⟨n, hn, rfl⟩ := hg
  simp only [List.getElem_modify]
  have hmem : l[n]'(by simpa using hn) ∈ l := List.getElem_mem _
  have h0 := h _ hmem
  split
  · generalize l[n]'(by simpa using hn) = x at h0
    have : x + 1#16 + 1#16 = x + 2#16 := by rw [BitVec.add_assoc]; rfl
    rw [this]
    revert h0
    simp only [BitVec.getLsbD, BitVec.toNat_add, BitVec.toNat_ofNat, Nat.testBit_zero]
    simp only [decide_eq_false_iff_not]
    omega
  · exact h0

theorem low_publish (r : Rec) (s : State) : Low true s (publish r s) :=
  { even := fun h => even_modify_twice _ _ h }

/-- A changed record: its update now, or due at the end of the event. -/
theorem low_announce (r : Rec) (s : State) : Low true s (announce r s) := by
  unfold announce
  split
  · exact {}
  · exact {}
  · exact {}
  all_goals exact low_publish _ s

/-- The updates due at the end of an event. -/
theorem low_publishDue (s : State) : Low true s (publishDue s) := by
  have h : ∀ (b : Bool) (r : Rec) (x : State), Low true x (if b then publish r x else x) :=
    fun _ r x => Low.ite (low_publish r x) (Low.refl true x)
  have h0 : Low true s { s with due := noneDue } := {}
  unfold publishDue
  exact Low.after (h _ _ _) (Low.after (h _ _ _) (Low.after (h _ _ _) h0))

/-- The listed causes. -/
theorem low_setCause (c : Word32) (s : State) (hc : c &&& ~~~alertMask = 0#32) : Low true s (setCause c s) :=
  { causesStay := fun i h => by simp [h]
    unlisted := fun h => by
      simp only [setCause_alertCause]
      have : (s.link.alertCause ||| c) &&& ~~~alertMask =
          (s.link.alertCause &&& ~~~alertMask) ||| (c &&& ~~~alertMask) := by
        ext i
        simp [Bool.and_or_distrib_right]
      rw [this, h, hc]
      rfl }

theorem low_chg (c : Charge) (s : State) (hp : c.profile = s.chg.profile)
    (ht : c.inhibit.thermal = s.chg.inhibit.thermal)
    (hi : (s.chg.state = .inhibited ↔ inhibited s.chg.inhibit = true) →
      (c.state = .inhibited ↔ inhibited c.inhibit = true)) : Low true s { s with chg := c } :=
  { profile := hp, cause := fun _ => ht, inhibit := hi
    thermal := fun _ h => ht.trans h }

/-- The counted updates. -/
theorem low_commit (r : Rec) {w : Bool} {s a : State} (b : State) (h : Low w s a) : Low w s (commit r b a) := by
  unfold commit
  split
  · exact h
  · exact h.trans (low_announce r a).weaken

theorem mid_commit (r : Rec) {w : Bool} {s a : State} (b : State) (h : Mid w s a) : Mid w s (commit r b a) := by
  unfold commit
  split
  · exact h
  · exact h.trans (low_announce r a).weaken.toMid

theorem keeps_commit (r : Rec) {w : Bool} {s a : State} (b : State) (h : Keeps w s a) : Keeps w s (commit r b a) := by
  unfold commit
  split
  · exact h
  · exact h.trans (low_announce r a).weaken.toKeeps

theorem low_updating (r : Rec) {w : Bool} {f : State → State} {s : State} (h : Low w s (f s)) :
    Low w s (updating r f s) := low_commit r s h
theorem mid_updating (r : Rec) {w : Bool} {f : State → State} {s : State} (h : Mid w s (f s)) :
    Mid w s (updating r f s) := mid_commit r s h
theorem keeps_updating (r : Rec) {w : Bool} {f : State → State} {s : State} (h : Keeps w s (f s)) :
    Keeps w s (updating r f s) := keeps_commit r s h

theorem mid_updatingPower {w : Bool} {f : State → State} {s : State} (h : Mid w s (f s)) :
    Mid w s (updatingPower f s) := by
  unfold updatingPower commitPower
  split
  · exact h
  · exact h.trans (low_publish .platform _).weaken.toMid

theorem low_updatingFans {w : Bool} {f : State → State} {s : State} (h : Low w s (f s)) :
    Low w s (updatingFans f s) := low_commit _ s (low_commit _ s h)
theorem keeps_updatingFans {w : Bool} {f : State → State} {s : State} (h : Keeps w s (f s)) :
    Keeps w s (updatingFans f s) := keeps_commit _ s (keeps_commit _ s h)
theorem mid_updatingPacks {w : Bool} {f : State → State} {s : State} (h : Mid w s (f s)) :
    Mid w s (updatingPacks f s) := mid_commit _ s (mid_commit _ s h)
theorem keeps_updatingPacks {w : Bool} {f : State → State} {s : State} (h : Keeps w s (f s)) :
    Keeps w s (updatingPacks f s) := keeps_commit _ s (keeps_commit _ s h)

end Sys2Proof.Laws
end

