-- ==== Sys2Proof/Laws/LowUnits.lean ====
section
/-! SUPPORT. One frame lemma for each function of the report queue, the charge controller, the fans and the scanner. -/
namespace Sys2Proof.Laws

open Sys2Proof.Machine Sys2Proof.Safety

/-! ### Report queue -/

theorem low_storeUnits : (n : Nat) → (us : List (List Byte)) → (s : State) → Low true s (storeUnits n us s)
  | _, [], s => Low.refl true s
  | n, u :: rest, s => (low_storeBytes _ u s).trans (low_storeUnits (n + 1) rest _)

theorem low_place (us : List (List Byte)) (s : State) : Low true s (place us s) := by
  unfold place
  refine Low.after (low_setCause causeReport _ (by decide)) (Low.after (low_queue _ _ ?_ ?_) (low_storeUnits _ us s))
  · exact Or.inl rfl
  · exact fun _ => Nat.mod_lt _ (by omega)

theorem low_setStale (x : StaleSet) (s : State) : Low true s (setStale x s) := by
  unfold setStale
  split
  · exact Low.refl true s
  · exact (low_queue { s.queue with stale := x } s (Or.inl rfl) id).trans (low_publish _ _)

theorem low_placeResync (s : State) : Low true s (placeResync s) := (low_place _ s).trans (low_setStale _ _)

theorem low_resyncIfDue (s : State) : Low true s (resyncIfDue s) := (low_placeResync s).ite (Low.refl true s)

theorem low_offer (n : Notice) (s : State) : Low true s (offer n s) :=
  (low_resyncIfDue s).trans ((low_place _ _).ite (low_setStale _ _))

theorem low_offerKeyDown (late : Bool) (p : Nat) (c : Word16) (s : State) :
    Low true s (offerKeyDown late p c s).1 := by
  unfold offerKeyDown
  simp only
  split
  · exact (low_resyncIfDue s).trans (low_place _ _)
  · exact low_resyncIfDue s

theorem low_offerKeyUp (sweep : Bool) (p : Nat) (c : Word16) (s : State) : Low true s (offerKeyUp sweep p c s).1 := by
  unfold offerKeyUp
  simp only
  split
  · exact (low_resyncIfDue s).trans (low_place _ _)
  · exact low_resyncIfDue s

theorem low_placeOwed : (l : List OwedRelease) → (s : State) → Low true s (placeOwed l s)
  | [], s => Low.refl true s
  | r :: rest, s => by
    unfold placeOwed
    split
    · exact (low_kbd { s.kbd with owed := rest } s rfl id).trans ((low_place _ _).trans (low_placeOwed rest _))
    · exact Low.refl true s

theorem resetPressCount_table (k : Keyboard) : (resetPressCount k).table = k.table := by
  unfold resetPressCount; split <;> rfl
theorem resetPressCount_keymap (k : Keyboard) : (resetPressCount k).keymap = k.keymap := by
  unfold resetPressCount; split <;> rfl

theorem resetPressCount_positions (k : Keyboard) : (resetPressCount k).positions = k.positions := by
  unfold resetPressCount; split <;> rfl

theorem low_pressCount (s : State) : Low true s { s with kbd := resetPressCount s.kbd } :=
  low_kbd _ s (resetPressCount_keymap _) (by rw [resetPressCount_table]; exact id)
    (Or.inl (by rw [resetPressCount_positions]))

theorem low_roomEvent (s : State) : Low true s (roomEvent s) :=
  (low_updating _ ((low_placeOwed _ s).trans (low_pressCount _))).trans (low_resyncIfDue _)

theorem low_emptyQueue (s : State) : Low true s (emptyQueue s) := by
  unfold emptyQueue
  refine Low.after (low_setStale _ _) (Low.after (low_queue _ _ ?_ ?_) ?_)
  · exact Or.inr rfl
  · exact fun _ => Nat.zero_lt_succ 127
  · exact low_updating _ (low_kbd _ s (resetPressCount_keymap _) (by rw [resetPressCount_table]; exact id)
      (Or.inl (by rw [resetPressCount_positions])))

/-! ### Charge controller -/

theorem select_profile (s : State) (x : Option PackId) : (select s x).profile = s.chg.profile := by
  unfold select; split <;> rfl
theorem select_inhibit (s : State) (x : Option PackId) : (select s x).inhibit = s.chg.inhibit := by
  unfold select; split <;> rfl

theorem computeFor_profile (s : State) (k : PackId) : (computeFor s k).profile = s.chg.profile := by
  unfold computeFor; dsimp only; split <;> rfl
theorem computeFor_inhibit (s : State) (k : PackId) : (computeFor s k).inhibit = s.chg.inhibit := by
  unfold computeFor; dsimp only; split <;> rfl

theorem setpoint_state (b : Bool) (raw prev : Nat) (r : LimitReason) : (setpoint b raw prev r).1 ≠ .inhibited := by
  unfold setpoint
  dsimp only
  repeat' split
  all_goals simp

theorem computeFor_state (s : State) (k : PackId) : (computeFor s k).state ≠ .inhibited := by
  unfold computeFor
  dsimp only
  split
  · simp
  · exact setpoint_state _ _ _ _

theorem waitingSwitch_state (s : State) : (waitingSwitch s).state ≠ .inhibited := by
  unfold waitingSwitch
  dsimp only
  split <;> simp

theorem evaluated_profile (s : State) : (evaluated s).profile = s.chg.profile := by
  unfold evaluated
  repeat' split
  all_goals first
    | exact select_profile s _
    | exact (computeFor_profile _ _).trans (select_profile s _)
    | exact computeFor_profile s _
    | (unfold waitingSwitch; dsimp only; split <;> rfl)

theorem evaluated_inhibit (s : State) : (evaluated s).inhibit = s.chg.inhibit := by
  unfold evaluated
  repeat' split
  all_goals first
    | exact select_inhibit s _
    | exact (computeFor_inhibit _ _).trans (select_inhibit s _)
    | exact computeFor_inhibit s _
    | (unfold waitingSwitch; dsimp only; split <;> rfl)

/-- R123, R132: an evaluation leaves INHIBITED exactly while the inhibit set is not empty. -/
theorem evaluated_state (s : State) : (evaluated s).state = .inhibited ↔ inhibited (evaluated s).inhibit = true := by
  rw [evaluated_inhibit]
  unfold evaluated
  split
  · next h => exact ⟨fun _ => h, fun _ => rfl⟩
  · next h =>
    have hf : ¬ inhibited s.chg.inhibit = true := h
    refine ⟨fun e => absurd e ?_, fun e => absurd e hf⟩
    repeat' split
    all_goals first
      | exact computeFor_state _ _
      | exact waitingSwitch_state _
      | simp [withoutPack]

/-- The controller's state after an evaluation is taken. -/
theorem low_evaluated (c : Charge) (s : State) (hp : c.profile = s.chg.profile)
    (ht : c.inhibit.thermal = s.chg.inhibit.thermal) :
    Low true s { s with chg := evaluated { s with chg := c } } :=
  low_chg _ s ((evaluated_profile _).trans hp) (by rw [evaluated_inhibit]; exact ht) (fun _ => evaluated_state _)

/-- A group that joins the port is granted or waits; it changes these fields of the port only. -/
theorem takeGroup_fields (g : WriteGroup) (x : Port) :
    ∃ c st w b d, takeGroup g x = { x with charger := c, state := st, granted := w, starting := b, second := d } := by
  unfold takeGroup
  split
  · exact ⟨_, _, _, _, _, rfl⟩
  · exact ⟨_, _, _, _, _, rfl⟩

/-- R72: an IDLE port grants an offered group at once. -/
theorem takeGroup_idle (g : WriteGroup) (x : Port) (h : x.state = .idle) :
    takeGroup g x = putOnBus (.charger g) { x with charger := none } := if_pos h

/-- R71: at any other port an offered group waits, in place of an older one. -/
theorem takeGroup_waits (g : WriteGroup) (x : Port) (h : x.state ≠ .idle) :
    takeGroup g x = { x with charger := some g } := if_neg h

theorem low_takeGroup (g : WriteGroup) (s : State) : Low true s { s with portA := takeGroup g s.portA } := by
  obtain ⟨_, _, _, _, _, h⟩ := takeGroup_fields g s.portA
  rw [h]
  exact { fairness := fun h p => by
            cases p with
            | a => exact h .a
            | b => exact h .b }

theorem low_offerGroup (s : State) : Low true s (offerGroup s) := by
  unfold offerGroup
  split
  · exact low_chg _ s rfl rfl id
  · exact low_updating (.port .a) (low_takeGroup _ s)

theorem low_writeDecision (s : State) : Low true s (writeDecision s) := (Low.refl true s).ite (low_offerGroup s)

theorem low_chargeNotice (old : Charge) (s : State) : Low true s (chargeNotice old s) :=
  (low_offer _ s).ite (Low.refl true s)

theorem low_evaluateOnce (f : Charge → Charge) (s : State) (hp : (f s.chg).profile = s.chg.profile)
    (ht : (f s.chg).inhibit.thermal = s.chg.inhibit.thermal) : Low true s (evaluateOnce f s) :=
  (low_updating .charger
    (f := fun x => writeDecision { x with chg := evaluated { x with chg := f x.chg } })
    ((low_evaluated _ s hp ht).trans (low_writeDecision _))).trans (low_chargeNotice _ _)

theorem low_evaluateAgain : (n d : Nat) → (s : State) → Low true s (evaluateAgain n d s)
  | 0, _, s => Low.refl true s
  | n + 1, _, s => (Low.refl true s).ite ((low_evaluateOnce id s rfl rfl).trans (low_evaluateAgain n _ _))

theorem low_evaluateWith (f : Charge → Charge) (s : State) (hp : (f s.chg).profile = s.chg.profile)
    (ht : (f s.chg).inhibit.thermal = s.chg.inhibit.thermal) : Low true s (evaluateWith f s) :=
  (low_evaluateOnce f s hp ht).trans (low_evaluateAgain _ _ _)

theorem low_evaluate (s : State) : Low true s (evaluate s) := low_evaluateWith id s rfl rfl

theorem low_evaluateTimes : (n : Nat) → (s : State) → Low true s (evaluateTimes n s)
  | 0, s => Low.refl true s
  | n + 1, s => (low_evaluate s).trans (low_evaluateTimes n _)

theorem low_redecideDpk (s : State) : Low true s (redecideDpk s) :=
  (Low.refl true s).ite (low_evaluateWith _ s rfl rfl)
theorem low_redecideDcs (s : State) : Low true s (redecideDcs s) :=
  (Low.refl true s).ite (low_evaluateWith _ s rfl rfl)
theorem low_redecideDfan (s : State) : Low true s (redecideDfan s) :=
  (Low.refl true s).ite (low_evaluateWith _ s rfl rfl)

theorem low_setInhibit (i : InhibitSet) (s : State) (h : i.thermal = s.chg.inhibit.thermal) :
    Low true s (setInhibit i s) :=
  (Low.refl true s).ite (low_evaluateWith _ s rfl h)

theorem low_setPortCause (b : Bool) (s : State) : Low true s (setPortCause b s) := low_setInhibit _ s rfl

theorem low_loseCharger (s : State) : Low true s (loseCharger s) :=
  (low_evaluateWith _ s rfl rfl).ite (Low.refl true s)
theorem low_findCharger (s : State) : Low true s (findCharger s) :=
  (low_evaluateWith _ s rfl rfl).ite (Low.refl true s)

theorem countRead_parts (o : BusOutcome) (c : Charge) :
    (countRead o c).profile = c.profile ∧ (countRead o c).inhibit = c.inhibit ∧ (countRead o c).state = c.state := by
  unfold countRead; repeat' split
  all_goals exact ⟨rfl, rfl, rfl⟩

theorem storeReading_parts (f : ChargerField) (v : Nat) (c : Charge) :
    (storeReading f v c).profile = c.profile ∧ (storeReading f v c).inhibit = c.inhibit ∧
      (storeReading f v c).state = c.state := by
  unfold storeReading; split <;> exact ⟨rfl, rfl, rfl⟩

/-- A change of the controller's counts and values. -/
theorem low_chg_parts (c : Charge) (s : State)
    (h : c.profile = s.chg.profile ∧ c.inhibit = s.chg.inhibit ∧ c.state = s.chg.state) :
    Low true s { s with chg := c } :=
  low_chg c s h.1 (by rw [h.2.1]) (by rw [h.2.1, h.2.2]; exact id)

theorem low_chargerDelivery (f : ChargerField) (o : BusOutcome) (v : Nat) (s : State) :
    Low true s (chargerDelivery f o v s) := by
  have hc : ∀ c, c = (if f = .systemCurrent then countRead o s.chg else s.chg) →
      c.profile = s.chg.profile ∧ c.inhibit = s.chg.inhibit ∧ c.state = s.chg.state := by
    intro c h
    subst h
    split
    · exact countRead_parts o s.chg
    · exact ⟨rfl, rfl, rfl⟩
  unfold chargerDelivery
  dsimp only
  split
  · refine (low_chg_parts _ s ?_).trans ((low_publish _ _).trans (low_findCharger _))
    obtain ⟨a, b, c⟩ := storeReading_parts f v (if f = .systemCurrent then countRead o s.chg else s.chg)
    obtain ⟨a', b', c'⟩ := hc _ rfl
    exact ⟨a.trans a', b.trans b', c.trans c'⟩
  · exact (low_updating _ (low_chg_parts _ s (hc _ rfl))).trans (low_loseCharger _)

theorem groupOutcome_parts (g : WriteGroup) (o : BusOutcome) (c : Charge) :
    (groupOutcome g o c).profile = c.profile ∧ (groupOutcome g o c).inhibit = c.inhibit ∧
      (groupOutcome g o c).state = c.state := by
  unfold groupOutcome; repeat' split
  all_goals exact ⟨rfl, rfl, rfl⟩

theorem low_groupEnd (g : WriteGroup) (o : BusOutcome) (s : State) : Low true s (groupEnd g o s) := by
  unfold groupEnd
  exact (low_updating .charger (f := fun x => { x with chg := groupOutcome g o x.chg })
    (low_chg_parts _ s (groupOutcome_parts g o s.chg))).trans ((low_evaluate _).ite (low_loseCharger _))

theorem low_setChargeMode (m : ChargeMode) (s : State) : Low true s (setChargeMode m s) :=
  low_evaluateWith _ s rfl rfl
theorem low_setCap (c : Option Nat) (s : State) : Low true s (setCap c s) := low_evaluateWith _ s rfl rfl

/-! ### Fans -/

/-- A change of the fans and of boost. -/
theorem low_th (x : Thermal) (s : State) (h1 : x.slots = s.th.slots) (h2 : x.table = s.th.table)
    (h3 : x.curves = s.th.curves) : Low true s { s with th := x } :=
  { slots := h1, thermalTable := h2, curves := h3
    slotsKept := fun h => (congrArg List.length h1).trans h
    thermal := fun _ h => by
      unfold thermalCauseExactly State.tripActive at *
      simpa only [h1] using h }

theorem low_setFan (f : FanId) (x : Fan) (s : State) : Low true s (s.setFan f x) := by
  cases f <;> exact low_th _ s rfl rfl rfl

theorem low_raiseToFloor (f : FanId) (s : State) : Low true s (raiseToFloor f s) :=
  (low_setFan f _ s).ite (Low.refl true s)

theorem low_driveFan (b : State) (f : FanId) (s : State) : Low true s (driveFan b f s) :=
  (low_setFan f _ s).ite (Low.refl true s)

theorem low_setBoost (t : Option Nat) (s : State) : Low true s (setBoost t s) :=
  low_updatingFans (low_th _ s rfl rfl rfl)

theorem low_toggleBoost (s : State) : Low true s (toggleBoost s) := low_setBoost _ s
theorem low_endBoost (s : State) : Low true s (endBoost s) := (low_setBoost _ s).ite (Low.refl true s)

theorem low_setOverrides (a b : Nat) (s : State) : Low true s (setOverrides a b s) :=
  low_updatingFans ((low_setFan .fan0 _ s).trans ((low_setFan .fan1 _ _).ite (Low.refl true _)))

theorem low_clearOverrides (s : State) : Low true s (clearOverrides s) :=
  low_updatingFans (low_th _ s rfl rfl rfl)

theorem low_openWindow (f : FanId) (s : State) : Low true s (openWindow f s) :=
  (low_setFan f _ s).ite (Low.refl true s)

theorem low_fanNotice (f : FanId) (e : Option FanEvent) (s : State) : Low true s (fanNotice f e s) := by
  unfold fanNotice; split
  · exact low_offer _ s
  · exact Low.refl true s

theorem low_closeFan (f : FanId) (s : State) : Low true s (closeFan f s) := by
  unfold closeFan
  split
  · exact ((low_setFan f _ s).trans (low_fanNotice _ _ _)).trans
      (((low_raiseToFloor _ _).ite (Low.refl true _)).trans (low_redecideDfan _))
  · exact Low.refl true s

theorem low_startFan (f : FanId) (s : State) : Low true s (startFan f s) :=
  (low_setFan f _ s).ite (Low.refl true s)

/-! ### Scanner -/

theorem low_owe (e : DownKey) (b : Bool) (s : State) : Low true s (owe e b s) := low_kbd _ s rfl id

theorem low_releaseReported (e : DownKey) (b : Bool) (s : State) : Low true s (releaseReported e b s) := by
  unfold releaseReported
  split
  · exact (low_offerKeyUp _ _ _ s).trans ((Low.refl true _).ite (low_owe _ _ _))
  · exact low_owe _ _ s

theorem changeEntry_length (n : Nat) (f : DownKey → DownKey) (k : Keyboard) :
    (changeEntry n f k).table.length = k.table.length := by simp [changeEntry]

theorem low_changeEntry (n : Nat) (f : DownKey → DownKey) (s : State) :
    Low true s { s with kbd := changeEntry n f s.kbd } :=
  low_kbd _ s rfl (by rw [changeEntry_length]; exact id)

theorem low_performAction (a : LocalAction) (s : State) : Low true s (performAction a s) := by
  unfold performAction
  split
  · exact Low.refl true s
  · exact Low.refl true s
  · exact (low_toggleBoost s).trans (low_offer _ _)
  · exact (low_setChargeMode _ s).trans (low_offer _ _)

theorem low_reportDown (late : Bool) (n : Nat) (c : Word16) (s : State) : Low true s (reportDown late n c s) := by
  unfold reportDown
  dsimp only
  split
  · exact (low_offerKeyDown _ _ _ s).trans (low_changeEntry _ _ _)
  · exact (low_offerKeyDown _ _ _ s).trans (low_kbd _ _ rfl id)

theorem low_actOrReport (late : Bool) (n : Nat) (c : Word16) (s : State) : Low true s (actOrReport late n c s) :=
  (low_reportDown late n c s).ite (low_performAction _ s)

theorem low_ignoreForRoom (s : State) : Low true s (ignoreForRoom s) := by
  unfold ignoreForRoom
  split
  · exact (low_offer _ s).trans (low_kbd _ _ rfl id)
  · exact Low.refl true s

/-- R37: an entry joins a table that has room. -/
theorem low_addEntry (n : Nat) (c : Word16) (l f : Bool) (s : State) (h : s.kbd.table.length < Config.tableSize) :
    Low true s { s with kbd := addEntry n c l f s.kbd } :=
  low_kbd _ s rfl (fun _ => by simp only [addEntry, List.length_append, List.length_singleton]; omega)

theorem low_press (n : Nat) (s : State) : Low true s (press n s) := by
  unfold press
  dsimp only
  split
  · exact low_ignoreForRoom s
  · next h =>
    have hl : s.kbd.table.length < Config.tableSize := by omega
    split
    · exact Low.refl true s
    · split
      · exact low_addEntry _ _ _ _ s hl
      · exact (low_addEntry _ _ _ _ s hl).trans (low_actOrReport _ _ _ _)

theorem tableEmptied_table (k : Keyboard) : (tableEmptied k).table = k.table := by
  unfold tableEmptied; split <;> rfl
theorem tableEmptied_keymap (k : Keyboard) : (tableEmptied k).keymap = k.keymap := by
  unfold tableEmptied; split <;> rfl

theorem tableEmptied_positions (k : Keyboard) : (tableEmptied k).positions = k.positions := by
  unfold tableEmptied; split <;> rfl

theorem passFrom_length (cols : List Byte) (d l : Nat) : (n : Nat) → (ps : List KeyPosition) →
    (passFrom cols d l n ps).length = ps.length
  | _, [] => rfl
  | n, _ :: rest => congrArg (· + 1) (passFrom_length cols d l (n + 1) rest)

theorem low_removeEntry (n : Nat) (s : State) :
    Low true s { s with kbd := resetPressCount (removeEntry n s.kbd) } :=
  low_kbd _ s (by rw [resetPressCount_keymap]; exact tableEmptied_keymap _) (fun h => by
    simp only [resetPressCount_table, removeEntry, tableEmptied_table]
    exact Nat.le_trans (List.length_filter_le _ _) h)
    (Or.inl (by rw [resetPressCount_positions]; simp only [removeEntry, tableEmptied_positions]))

theorem low_release (n : Nat) (s : State) : Low true s (release n s).1 := by
  unfold release
  split
  · exact Low.refl true s
  · exact ((low_releaseReported _ _ s).ite (Low.refl true s)).trans (low_removeEntry _ _)

theorem low_promote : (l : List Nat) → (s : State) → Low true s (promote l s)
  | [], s => Low.refl true s
  | n :: rest, s => by
    unfold promote
    split
    · exact low_promote rest s
    · split
      · exact low_promote rest s
      · exact (low_changeEntry _ _ s).trans ((low_actOrReport _ _ _ _).trans (low_promote rest _))

theorem low_handleChanges : (l : List (Nat × Bool)) → (s : State) → (b : Bool) → Low true s (handleChanges l s b).1
  | [], s, _ => Low.refl true s
  | (n, true) :: rest, s, b => (low_press n s).trans (low_handleChanges rest _ b)
  | (n, false) :: rest, s, _ => (low_release n s).trans (low_handleChanges rest _ _)

theorem low_scanPass (cols : List Byte) (s : State) : Low true s (scanPass cols s) := by
  unfold scanPass
  refine low_updating _ ?_
  dsimp only
  refine Low.after (Low.ite ?_ (Low.refl true _)) (Low.after (low_handleChanges _ _ _)
    (low_kbd _ s rfl id (Or.inl (passFrom_length _ _ _ _ _))))
  exact low_promote _ _

theorem low_sweepEntries : (l : List DownKey) → (s : State) → Low true s (sweepEntries l s)
  | [], s => Low.refl true s
  | _ :: rest, s => ((low_releaseReported _ _ s).ite (Low.refl true s)).trans (low_sweepEntries rest _)

theorem low_releaseSweep (s : State) : Low true s (releaseSweep s) := by
  unfold releaseSweep
  refine (low_sweepEntries _ s).trans (low_kbd _ _ ?_ (fun _ => ?_)
    (Or.inl (by rw [resetPressCount_positions, tableEmptied_positions])))
  · rw [resetPressCount_keymap, tableEmptied_keymap]
  · simp [resetPressCount_table, tableEmptied_table]

theorem low_leaveMode (s : State) : Low true s (leaveMode s) := by
  unfold leaveMode
  split
  · exact Low.refl true s
  · exact (low_releaseSweep s).trans (low_kbd _ _ rfl id (Or.inr rfl))
  · exact low_kbd _ s rfl id

theorem low_enterMode (m : ScanMode) (s : State) : Low true s (enterMode m s) := by
  cases m with
  | idle => exact low_kbd _ s rfl id
  | full => exact low_kbd _ s rfl id (Or.inr rfl)
  | wakeScan => exact low_kbd _ s rfl id

theorem low_scanModeDecision (s : State) : Low true s (scanModeDecision s) :=
  (Low.refl true s).ite (low_updating _ ((low_leaveMode s).trans (low_enterMode _ _)))

theorem low_rowFilterDone (s : State) : Low true s (rowFilterDone s) := by
  unfold rowFilterDone
  refine Low.ite (low_updating _ ?_) (Low.refl true s)
  exact low_kbd _ s rfl id

end Sys2Proof.Laws
end

