-- ==== Sys2Proof/Laws/MidUnits.lean ====
section
/-! SUPPORT. One frame lemma for each function of the platform power controller. -/
namespace Sys2Proof.Laws

open Sys2Proof.Machine Sys2Proof.Safety

/-- A change of the controller's own fields. -/
theorem mid_power (p : Power) (s : State) (hl : p.levels = s.power.levels) (hs : p.straps = s.power.straps) :
    Mid true s { s with power := p } :=
  { levels := hl, straps := hs }

theorem mid_useTurn (s : State) : Mid true s (useTurn s) := {}

theorem mid_eitherOrder (f g : State → State) (s : State) (hf : ∀ x, Mid true x (f x)) (hg : ∀ x, Mid true x (g x)) :
    Mid true s (eitherOrder f g s) :=
  Mid.ite (((mid_useTurn s).trans (hf _)).trans (hg _)) (((mid_useTurn s).trans (hg _)).trans (hf _))

theorem mid_anyOrder (f g h : State → State) (s : State) (hf : ∀ x, Mid true x (f x)) (hg : ∀ x, Mid true x (g x))
    (hh : ∀ x, Mid true x (h x)) : Mid true s (anyOrder f g h s) := by
  unfold anyOrder
  refine (mid_useTurn s).trans ?_
  dsimp only
  split
  · exact ((hf _).trans (hg _)).trans (hh _)
  · exact ((hf _).trans (hh _)).trans (hg _)
  · exact ((hg _).trans (hf _)).trans (hh _)
  · exact ((hg _).trans (hh _)).trans (hf _)
  · exact ((hh _).trans (hf _)).trans (hg _)
  · exact ((hh _).trans (hg _)).trans (hf _)

theorem mid_offer (n : Notice) (s : State) : Mid true s (offer n s) := (low_offer n s).toMid

theorem mid_withdrawOverrides (s : State) : Mid true s (withdrawOverrides s) :=
  ((low_setCap none s).trans (low_clearOverrides _)).toMid

theorem powerAfter_levels (new : PowerState) (c : Cause) (f : Power → Power) (p : Power)
    (h : ∀ q, (f q).levels = q.levels) : (powerAfter new c f p).levels = p.levels := by
  unfold powerAfter
  simp only [h]
  split <;> rfl

theorem powerAfter_straps (new : PowerState) (c : Cause) (f : Power → Power) (p : Power)
    (h : ∀ q, (f q).straps = q.straps) : (powerAfter new c f p).straps = p.straps := by
  unfold powerAfter
  simp only [h]
  split <;> rfl

theorem mid_changePower (new : PowerState) (c : Cause) (f : Power → Power) (s : State)
    (hl : ∀ q, (f q).levels = q.levels) (hs : ∀ q, (f q).straps = q.straps) :
    Mid true s (changePower new c f s) := by
  unfold changePower
  refine Mid.after (mid_anyOrder _ _ _ _ ?_ ?_ ?_) (mid_updatingPower (mid_power _ s ?_ ?_))
  · exact fun x => Mid.ite ((low_scanModeDecision x).trans (low_endBoost _)).toMid (low_scanModeDecision x).toMid
  · exact fun x => Mid.ite (mid_withdrawOverrides x) (Mid.refl true x)
  · exact fun x => mid_offer _ x
  · exact powerAfter_levels _ _ _ _ hl
  · exact powerAfter_straps _ _ _ _ hs

theorem mid_snapshot (s : State) : Mid true s { s with power := takeSnapshot s.power } := mid_power _ s rfl rfl

theorem mid_reachOff (s : State) : Mid true s (reachOff s) := by
  refine Mid.trans (t := offer (.power .off (completionCause s.power)) (emptyQueue (scanModeDecision _))) ?_
    (mid_snapshot _)
  exact Mid.after (mid_offer _ _) (Mid.after (low_emptyQueue _).toMid
    (Mid.after (low_scanModeDecision _).toMid (mid_updatingPower (mid_power _ s rfl rfl))))

theorem mid_dropStandby (s : State) : Mid true s (dropStandby s) := by
  unfold dropStandby
  dsimp only
  split
  · exact mid_power _ s rfl rfl
  · exact Mid.after (mid_reachOff _) (mid_power _ s rfl rfl)

theorem mid_enterShutdown (c : Cause) (s : State) : Mid true s (enterShutdown c s) := by
  unfold enterShutdown
  split
  · dsimp only
    split
    · exact mid_changePower _ _ _ s (fun _ => rfl) (fun _ => rfl)
    · exact Mid.after (mid_dropStandby _) (mid_changePower _ _ _ s (fun _ => rfl) (fun _ => rfl))
  · exact Mid.refl true s

theorem mid_beginHold (s : State) : Mid true s (beginHold s) := mid_power _ s rfl rfl

theorem mid_raiseMain (s : State) : Mid true s (raiseMain s) := by
  unfold raiseMain
  dsimp only
  split
  · exact Mid.after (mid_beginHold _) (mid_power _ s rfl rfl)
  · exact mid_power _ s rfl rfl

theorem mid_standbyUp (s : State) : Mid true s (standbyUp s) :=
  Mid.after (mid_raiseMain _) (mid_power _ s rfl rfl)

theorem mid_enterWaking (fs : List Factor) (first : Option Factor) (s : State) :
    Mid true s (enterWaking fs first s) := by
  have h : ∀ b x, Mid true s (changePower .waking .wake (fun p => { p with
      wakeFactors := fs, wakeFirst := first, pendingWake := [], seqCause := .wake, timedOut := false
      seenStby := b, seenMain := false, enStby := true, step := x, stepMs := 0 }) s) :=
    fun b x => mid_changePower _ _ _ s (fun _ => rfl) (fun _ => rfl)
  unfold enterWaking
  dsimp only
  split
  · split
    · exact (h _ _).trans (mid_standbyUp _)
    · exact h _ _
  · exact (h _ _).trans (mid_raiseMain _)

theorem mid_latch (fs : List Factor) (s : State) : Mid true s (latch fs s) := by
  unfold latch
  dsimp only
  split
  · exact Mid.after (mid_power _ _ rfl rfl) (mid_useTurn s)
  · exact mid_power _ s rfl rfl

theorem mid_takeWake (fs : List Factor) (s : State) : Mid true s (takeWake fs s) :=
  (mid_latch _ s).trans (mid_enterWaking _ _ _)

theorem mid_powerOn (f : Factor) (s : State) : Mid true s (powerOn f s) := Mid.ite (Mid.refl true s) (mid_takeWake _ s)

theorem mid_reachSleep (s : State) : Mid true s (reachSleep s) := by
  unfold reachSleep
  dsimp only
  split
  · exact mid_changePower _ _ _ s (fun _ => rfl) (fun _ => rfl)
  · exact Mid.after (mid_takeWake _ _) (mid_changePower _ _ _ s (fun _ => rfl) (fun _ => rfl))

theorem mid_enterSuspending (s : State) : Mid true s (enterSuspending s) := by
  unfold enterSuspending
  dsimp only
  split
  · exact mid_changePower _ _ _ s (fun _ => rfl) (fun _ => rfl)
  · exact Mid.after (mid_reachSleep _) (mid_changePower _ _ _ s (fun _ => rfl) (fun _ => rfl))

theorem mid_delayExpires (s : State) : Mid true s (delayExpires s) := by
  unfold delayExpires
  split
  · exact Mid.refl true s
  · split
    · exact mid_enterSuspending s
    · exact mid_enterShutdown _ s

/-- A change of the critical-battery condition. -/
theorem mid_critical (b : Bool) (p : Power) (s : State) (hl : p.levels = s.power.levels)
    (hs : p.straps = s.power.straps) :
    Mid true s { s with dsg := { s.dsg with critical := b }, power := p } :=
  { levels := hl, straps := hs }

theorem mid_criticalNotice (s : State) : Mid true s (criticalNotice s) :=
  Mid.after (mid_offer _ _) (mid_updatingPower (mid_power _ s rfl rfl))

theorem mid_latchCritical (s : State) : Mid true s (latchCritical s) := mid_latch _ s

theorem mid_criticalRise (s : State) : Mid true s (criticalRise s) := by
  have h : Mid true s (updatingPower (fun x => { x with dsg := { x.dsg with critical := true } }) s) :=
    mid_updatingPower (mid_critical true s.power s rfl rfl)
  unfold criticalRise
  dsimp only
  split
  · split
    · exact h.trans (mid_latchCritical _)
    · exact Mid.after (mid_offer _ _) (mid_updatingPower (mid_critical true _ s rfl rfl))
  · exact h.trans (mid_latchCritical _)
  · exact h.trans (mid_takeWake _ _)
  · exact h
  · exact h
  · exact h

theorem mid_criticalWithdrawal (s : State) : Mid true s (criticalWithdrawal s) :=
  mid_updatingPower (mid_critical false _ s rfl rfl)

theorem mid_setCritical (b : Bool) (s : State) : Mid true s (setCritical b s) :=
  Mid.ite (Mid.refl true s) (Mid.ite (mid_criticalRise s) (mid_criticalWithdrawal s))

theorem mid_reachRun (s : State) : Mid true s (reachRun s) := by
  unfold reachRun
  dsimp only
  have h := fun c => mid_changePower .run c (fun p => { p with hrstAsserted := false, step := .none, stepMs := 0 }) s
    (fun _ => rfl) (fun _ => rfl)
  split
  · exact Mid.after (mid_criticalNotice _) (Mid.after (mid_offer _ _) (h _))
  · exact Mid.after (mid_offer _ _) (h _)

theorem mid_powerGoodUp (r : Rail) (s : State) : Mid true s (powerGoodUp r s) := by
  unfold powerGoodUp
  split
  · exact mid_standbyUp s
  · exact mid_beginHold s
  · exact Mid.refl true s

theorem mid_powerGoodDown (r : Rail) (s : State) : Mid true s (powerGoodDown r s) := by
  unfold powerGoodDown
  split
  · exact Mid.ite (mid_enterShutdown _ s) (Mid.refl true s)
  · exact Mid.ite (mid_enterShutdown _ s) (Mid.refl true s)
  · exact mid_enterShutdown _ s
  · exact mid_enterShutdown _ s
  · exact mid_reachSleep s
  · exact mid_enterShutdown _ s
  · exact Mid.refl true s
  · exact Mid.ite (mid_dropStandby s) (Mid.refl true s)
  · exact Mid.ite (mid_reachOff s) (Mid.refl true s)
  · exact Mid.refl true s

theorem mid_waitRunsOut (s : State) : Mid true s (waitRunsOut s) := by
  unfold waitRunsOut
  dsimp only
  split
  · exact mid_enterShutdown _ s
  · exact mid_enterShutdown _ s
  · split
    · exact Mid.after (mid_reachSleep _) (mid_power _ s rfl rfl)
    · exact Mid.after (mid_dropStandby _) (mid_power _ s rfl rfl)
  · exact Mid.after (mid_reachOff _) (mid_power _ s rfl rfl)
  · exact Mid.refl true s
  · exact Mid.refl true s

theorem mid_longPress (s : State) : Mid true s (longPress s) :=
  Mid.after (mid_power _ _ rfl rfl) (mid_enterShutdown _ s)

theorem mid_buttonPress (s : State) : Mid true s (buttonPress s) := by
  unfold buttonPress
  split
  · exact Mid.refl true s
  · dsimp only
    split
    · split
      · exact Mid.after (mid_latch _ _) (mid_power _ s rfl rfl)
      · exact Mid.after (mid_offer _ _) (mid_power _ s rfl rfl)
    · exact Mid.after (mid_latch _ _) (mid_power _ s rfl rfl)
    · exact Mid.after (mid_takeWake _ _) (mid_power _ s rfl rfl)
    · exact Mid.after (mid_powerOn _ _) (mid_power _ s rfl rfl)
    · exact mid_power _ s rfl rfl
    · exact mid_power _ s rfl rfl

theorem mid_buttonRelease (s : State) : Mid true s (buttonRelease s) := by
  unfold buttonRelease
  dsimp only
  split
  · exact Mid.after (mid_offer _ _) (mid_power _ s rfl rfl)
  · exact mid_power _ s rfl rfl

theorem mid_comboSettle (s : State) : Mid true s (comboSettle s) := by
  unfold comboSettle
  dsimp only
  split
  · exact Mid.ite (Mid.refl true s) (mid_power _ s rfl rfl)
  · split
    · split
      · exact Mid.after (mid_longPress _) (mid_power _ s rfl rfl)
      · exact mid_power _ s rfl rfl
    · exact Mid.refl true s

theorem mid_comboExpires (s : State) : Mid true s (comboExpires s) :=
  Mid.after (mid_enterShutdown _ _) (mid_power _ s rfl rfl)

theorem mid_wakeSettle (s : State) : Mid true s (wakeSettle s) := by
  unfold wakeSettle
  split
  · exact mid_latch _ s
  · split
    · exact Mid.ite (Mid.refl true s) (mid_takeWake _ s)
    · exact Mid.ite (Mid.refl true s) (mid_takeWake _ s)
    · exact Mid.refl true s
    · exact Mid.refl true s
    · exact Mid.refl true s
    · exact Mid.refl true s

theorem mid_powerSettle (s : State) : Mid true s (powerSettle s) := (mid_comboSettle s).trans (mid_wakeSettle _)

theorem mid_heartbeatEvent (s : State) : Mid true s (heartbeatEvent s) := by
  unfold heartbeatEvent
  split
  · split
    · exact mid_updatingPower (mid_power _ s rfl rfl)
    · exact mid_updatingPower (mid_power _ s rfl rfl)
    · exact Mid.ite (Mid.refl true s) (Mid.after (mid_offer _ _) (mid_updatingPower (mid_power _ s rfl rfl)))
  · exact Mid.refl true s

theorem abandonDelay_levels (p : Power) : (abandonDelay p).levels = p.levels := by
  unfold abandonDelay; split <;> rfl
theorem abandonDelay_straps (p : Power) : (abandonDelay p).straps = p.straps := by
  unfold abandonDelay; split <;> rfl

theorem mid_heartbeatAct (s : State) : Mid true s (heartbeatAct s) := by
  unfold heartbeatAct
  split
  · exact Mid.refl true s
  · exact mid_power _ s (abandonDelay_levels s.power) (abandonDelay_straps s.power)
  · exact mid_enterShutdown _ s

theorem mid_heartbeatExpires (s : State) : Mid true s (heartbeatExpires s) := by
  unfold heartbeatExpires
  exact Mid.after (mid_heartbeatAct _) (Mid.after (mid_offer _ _) (Mid.after (mid_withdrawOverrides _)
    (mid_updatingPower (mid_power _ s rfl rfl))))

theorem mid_pulseEnds (s : State) : Mid true s (pulseEnds s) := by
  unfold pulseEnds
  dsimp only
  split
  · exact Mid.after (mid_withdrawOverrides _) (mid_updatingPower (mid_power _ s rfl rfl))
  · exact mid_updatingPower (mid_power _ s rfl rfl)

theorem mid_startDelay (t : SleepTarget) (n : Nat) (s : State) : Mid true s (startDelay t n s) := by
  unfold startDelay
  dsimp only
  split <;> exact mid_power _ s rfl rfl

theorem mid_adoptPlatform (t : PlatformTable) (s : State) : Mid true s (adoptPlatform t s) := by
  unfold adoptPlatform
  dsimp only
  split
  · exact Mid.after (mid_longPress _) (Mid.after (low_scanModeDecision _).toMid (mid_power _ s rfl rfl))
  · exact Mid.after (low_scanModeDecision _).toMid (mid_power _ s rfl rfl)

/-! ### Critical battery and the discharge selection (R117, R118) -/

theorem mid_criticalDecision (s : State) : Mid true s (criticalDecision s) := mid_setCritical _ s

theorem mid_setDischarge (x : Option PackId) (s : State) : Mid true s (setDischarge x s) :=
  Mid.ite (Mid.refl true s) (mid_updatingPacks { })

theorem mid_dischargeDecision (s : State) : Mid true s (dischargeDecision s) :=
  (mid_setDischarge _ s).trans (mid_criticalDecision _)

end Sys2Proof.Laws
end

