-- ==== Sys2Proof/Laws/KeepUnits.lean ====
section
/-! SUPPORT. One frame lemma for each function of the request slots, the pack monitor and the thermal unit. -/
namespace Sys2Proof.Laws

open Sys2Proof.Machine Sys2Proof.Safety

/-! ### Request slots -/

theorem low_storeReply (n : Nat) : (l : List ReplyBytes) → (s : State) → Low true s (storeReply n l s)
  | [], s => Low.refl true s
  | (_, b) :: rest, s => (low_storeBytes _ b s).trans (low_storeReply n rest _)

theorem low_setSlotState (n v : Nat) (s : State) : Low true s (setSlotState n v s) := low_storeBytes _ _ s

/-- The list of held slots. -/
theorem keeps_posted (l : List Held) (s : State) : Keeps true s { s with posted := l } := {}

theorem keeps_holdSlot (n : Nat) (w : HeldWork) (s : State) : Keeps true s (holdSlot n w s) := keeps_posted _ s

theorem keeps_completeSlot (n : Nat) (r : Result) (d : Nat) (l : List ReplyBytes) (s : State) :
    Keeps true s (completeSlot n r d l s) := by
  unfold completeSlot
  exact Keeps.after (low_setCause causeSlotDone _ (by decide)).toKeeps (Keeps.after (keeps_posted _ _)
    (Keeps.after (low_setSlotState _ _ _).toKeeps (Keeps.after (low_storeBytes _ _ _).toKeeps
      (Keeps.after (low_storeBytes _ _ _).toKeeps (low_storeReply n l s).toKeeps))))

/-! ### Parts that come in pairs -/

theorem keeps_setPack (k : PackId) (x : Pack) (s : State)
    (h : (s.pack k).window.length ≤ 8 → x.window.length ≤ 8) : Keeps true s (s.setPack k x) := by
  cases k
  · exact { windows := fun hw j => by
              cases j with
              | pack0 => exact h (hw .pack0)
              | pack1 => exact hw .pack1 }
  · exact { windows := fun hw j => by
              cases j with
              | pack0 => exact hw .pack0
              | pack1 => exact h (hw .pack1) }

theorem keeps_setPort (p : PortId) (x : Port) (s : State)
    (h : (s.port p).fairness ≤ 4 → x.fairness ≤ 4) : Keeps true s (s.setPort p x) := by
  cases p
  · exact { fairness := fun hw j => by
              cases j with
              | a => exact h (hw .a)
              | b => exact hw .b }
  · exact { fairness := fun hw j => by
              cases j with
              | a => exact hw .a
              | b => exact h (hw .b) }

theorem keeps_setEngine (p : PortId) (x : Engine) (s : State)
    (h : (s.engine p).rows.length = 32 → x.rows.length = 32) : Keeps true s (s.setEngine p x) := by
  cases p
  · exact { rows := fun hw j => by
              cases j with
              | a => exact h (hw .a)
              | b => exact hw .b }
  · exact { rows := fun hw j => by
              cases j with
              | a => exact hw .a
              | b => exact h (hw .b) }

/-! ### The arbiter's choice -/

theorem keeps_updatingPort (p : PortId) (f : Port → Port) (s : State)
    (h : ∀ x, x.fairness ≤ 4 → (f x).fairness ≤ 4) : Keeps true s (updatingPort p f s) :=
  keeps_updating _ (keeps_setPort p _ s (h _))

theorem fairnessAfter_le (w : Work) (x : Port) (h : x.fairness ≤ 4) : fairnessAfter w x ≤ 4 := by
  unfold fairnessAfter
  split
  · exact Nat.zero_le 4
  · split
    · exact h
    · exact Nat.min_le_left ..
  all_goals exact h

theorem takeHost_fairness {x y : Port} {w : Work} (h : takeHost x = some (w, y)) : y.fairness = x.fairness := by
  unfold takeHost at h
  split at h
  · simp at h
  · cases h; rfl

theorem takePoll_fairness {x y : Port} {w : Work} (h : takePoll x = some (w, y)) : y.fairness = x.fairness := by
  unfold takePoll at h
  split at h
  · simp at h
  · cases h; rfl

theorem takeProbe_fairness {x y : Port} {w : Work} (h : takeProbe x = some (w, y)) : y.fairness = x.fairness := by
  unfold takeProbe at h
  split at h
  · simp at h
  · cases h; rfl

/-- Choosing a unit leaves the fairness count alone. -/
theorem chooseWork_fairness {x y : Port} {w : Work} (h : chooseWork x = some (w, y)) : y.fairness = x.fairness := by
  unfold chooseWork at h
  split at h
  · cases h; rfl
  · dsimp only at h
    have hh : ∀ a b : Option (Work × Port), (a <|> b) = some (w, y) → a = some (w, y) ∨ b = some (w, y) := by
      intro a b e
      cases a with
      | none => exact Or.inr e
      | some v => exact Or.inl e
    rcases hh _ _ h with h | h
    · split at h
      · exact takeHost_fairness h
      · simp at h
    · rcases hh _ _ h with h | h
      · exact takeProbe_fairness h
      · rcases hh _ _ h with h | h
        · exact takePoll_fairness h
        · exact takeHost_fairness h

/-! ### Pack monitor -/

theorem keeps_setPackState (k : PackId) (new : PackState) (r : PackReason) (f : Pack → Pack) (s : State)
    (h : ∀ p, p.window.length ≤ 8 → (f p).window.length ≤ 8) : Keeps true s (setPackState k new r f s) := by
  unfold setPackState
  exact Keeps.after (low_evaluate _).toKeeps (Keeps.after (mid_dischargeDecision _).toKeeps
    (Keeps.after (low_offer _ _).toKeeps (keeps_commit _ s (keeps_updating _ (keeps_setPack k _ s (h _))))))

theorem keeps_completeProbeRequest (k : PackId) (r : Result) (d : Nat) (s : State) :
    Keeps true s (completeProbeRequest k r d s) := by
  unfold completeProbeRequest
  split
  · exact Keeps.refl true s
  · exact Keeps.after (keeps_completeSlot _ _ _ _ _) (keeps_setPack k _ s id)

theorem keeps_probeBegun (k : PackId) (s : State) : Keeps true s (probeBegun k s) :=
  Keeps.ite (keeps_setPackState _ _ _ _ s (fun _ => id)) (Keeps.refl true s)

theorem keeps_recordFailure (k : PackId) (n : Nat) (o : BusOutcome) (s : State) :
    Keeps true s (recordFailure k n o s) :=
  keeps_commit _ s (keeps_updating _ (keeps_setPack k _ s id))

theorem keeps_probeFails (k : PackId) (n : Nat) (o : BusOutcome) (s : State) : Keeps true s (probeFails k n o s) := by
  unfold probeFails
  exact Keeps.after (keeps_completeProbeRequest _ _ _ _)
    (Keeps.after (Keeps.ite (keeps_setPackState _ _ _ _ _ (fun _ => id)) (Keeps.refl true _)) (keeps_recordFailure k n o s))

theorem keeps_probes (l : List ProbeUnit) (g : Option Work) (s : State) :
    Keeps true s { s with portA := { s.portA with probes := l, granted := g } } :=
  keeps_setPort .a _ s id

theorem keeps_probeGranted (u : ProbeUnit) (s : State) : Keeps true s (probeGranted u s) :=
  Keeps.after (keeps_probeBegun _ _) (keeps_updating _ (keeps_setPack u.pack _ s id))

theorem keeps_grantNotice (w : Work) (s : State) : Keeps true s (grantNotice w s) := by
  cases w
  case probe u => exact keeps_probeGranted u s
  all_goals exact Keeps.refl true s

theorem joinList_fairness (w : Work) (x : Port) : (joinList w x).fairness = x.fairness := by cases w <;> rfl

/-- R72: offered work keeps what every function keeps. -/
theorem keeps_offerWork (p : PortId) (w : Work) (s : State) : Keeps true s (offerWork p w s) :=
  Keeps.ite (Keeps.after (keeps_grantNotice w _) (keeps_updatingPort p _ s (fun x h => fairnessAfter_le w x h)))
    (keeps_updatingPort p _ s (fun x h => by rw [joinList_fairness]; exact h))

/-- R72: an IDLE port with empty lists grants offered work at once. -/
theorem offerWork_idle (p : PortId) (w : Work) (s : State) (h : (s.port p).state = .idle)
    (he : nothingWaits (s.port p) = true) : offerWork p w s = grantNotice w (updatingPort p (putOnBus w) s) := if_pos ⟨h, he⟩

/-- R72: at any other port offered work joins its list. -/
theorem offerWork_waits (p : PortId) (w : Work) (s : State) (h : (s.port p).state ≠ .idle) :
    offerWork p w s = updatingPort p (joinList w) s := if_neg (fun e => h e.1)

theorem keeps_offerStep (k : PackId) (run : ProbeRun) (s : State) : Keeps true s (offerStep k run s) := by
  unfold offerStep
  dsimp only
  split
  · exact Keeps.after (keeps_probeFails _ _ _ _) (Keeps.after (keeps_probeBegun _ _)
      (keeps_updating _ (keeps_setPack k _ s id)))
  · exact Keeps.after (keeps_offerWork .a _ _) (keeps_updating _ (keeps_setPack k _ s id))

theorem keeps_startProbe (k : PackId) (s : State) : Keeps true s (startProbe k s) :=
  Keeps.after (keeps_offerStep _ _ _) (keeps_updating _ (keeps_setPack k _ s id))

theorem keeps_flagReactions (a b : Word16) (s : State) : Keeps true s (flagReactions a b s) := by
  have h1 : Keeps true s (if terminateDischarge a = terminateDischarge b then s else dischargeDecision s) :=
    Keeps.ite (Keeps.refl true s) (mid_dischargeDecision s).toKeeps
  exact Keeps.ite h1 (h1.trans (low_evaluate _).toKeeps)

theorem keeps_probeSucceeds (k : PackId) (i : Identity) (w : Nat) (s : State) :
    Keeps true s (probeSucceeds k i w s) := by
  unfold probeSucceeds
  exact Keeps.after (keeps_completeProbeRequest _ _ _ _) (Keeps.after
    (keeps_setPackState _ _ _ _ _ (fun _ _ => Nat.zero_le 8))
    (Keeps.after (keeps_flagReactions _ _ _) (Keeps.after (keeps_updating _ (keeps_setPack k _ _ id))
      (keeps_updating _ (keeps_setPack k _ s id)))))

theorem keeps_probeBadIdentity (k : PackId) (i : Identity) (s : State) : Keeps true s (probeBadIdentity k i s) := by
  unfold probeBadIdentity
  exact Keeps.after (keeps_completeProbeRequest _ _ _ _) (Keeps.after (keeps_setPackState _ _ _ _ _ (fun _ => id))
    (keeps_updating _ (keeps_setPack k _ s id)))

theorem keeps_nextStep (k : PackId) (run : ProbeRun) (f : ProbeRecord → ProbeRecord) (s : State) :
    Keeps true s (nextStep k run f s) :=
  Keeps.after (keeps_offerStep _ _ _) (keeps_updating _ (keeps_setPack k _ s id))

theorem keeps_probeStepEnd (u : ProbeUnit) (o : BusOutcome) (d : List Byte) (s : State) :
    Keeps true s (probeStepEnd u o d s) := by
  unfold probeStepEnd
  dsimp only
  split
  · exact Keeps.refl true s
  · refine Keeps.ite (Keeps.refl true s) (Keeps.ite (keeps_probeFails _ _ _ s) ?_)
    split
    · exact keeps_nextStep _ _ _ s
    · exact keeps_nextStep _ _ _ s
    · exact Keeps.ite (keeps_probeFails _ _ _ s) (Keeps.ite (keeps_probeBadIdentity _ _ s) (keeps_nextStep _ _ _ s))
    · split
      · exact keeps_probeSucceeds _ _ _ s
      · exact keeps_probeFails _ _ _ s

theorem keeps_probeSentBack (u : ProbeUnit) (s : State) : Keeps true s (probeSentBack u s) :=
  Keeps.ite (Keeps.refl true s) (keeps_updating _ (keeps_setPack u.pack _ s id))

theorem keeps_abandonProbe (k : PackId) (s : State) : Keeps true s (abandonProbe k s) := by
  unfold abandonProbe
  split
  · exact Keeps.refl true s
  · exact Keeps.after (keeps_updating _ (keeps_setPort .a _ _ id)) (keeps_updating _ (keeps_setPack k _ s id))

theorem keeps_presenceRise (k : PackId) (s : State) : Keeps true s (presenceRise k s) :=
  Keeps.ite (Keeps.after (keeps_startProbe _ _) (keeps_setPackState _ _ _ _ s (fun _ => id))) (Keeps.refl true s)

theorem keeps_presenceFall (k : PackId) (s : State) : Keeps true s (presenceFall k s) :=
  Keeps.ite (Keeps.refl true s) (Keeps.after (keeps_completeProbeRequest _ _ _ _) (Keeps.after
    (keeps_setPackState _ _ _ _ _ (fun _ _ => Nat.zero_le 8)) (keeps_abandonProbe k s)))

theorem enterWindow_length (o : Option WindowOutcome) (w : List WindowOutcome) (h : w.length ≤ 8) :
    (enterWindow o w).length ≤ 8 := by
  unfold enterWindow
  split
  · exact h
  · rw [List.length_append, List.length_singleton]
    split
    · omega
    · rw [List.length_drop]; omega

theorem delivered_window (b : Bool) (f : PackField) (o : BusOutcome) (w : Nat) (p : Pack)
    (h : p.window.length ≤ 8) : (delivered b f o w p).window.length ≤ 8 := by
  unfold delivered
  dsimp only
  split
  · split <;> exact h
  · dsimp only
    split
    · split <;> exact h
    · refine enterWindow_length _ _ ?_
      split <;> exact h

theorem keeps_criteriaCheck (k : PackId) (s : State) : Keeps true s (criteriaCheck k s) := by
  unfold criteriaCheck
  split
  · split
    · exact Keeps.after (keeps_startProbe _ _) (keeps_setPackState _ _ _ _ s (fun _ => id))
    · exact Keeps.refl true s
  · exact Keeps.refl true s

theorem keeps_storedReactions (k : PackId) (f : PackField) (old : Pack) (s : State) :
    Keeps true s (storedReactions k f old s) := by
  unfold storedReactions
  split
  · exact Keeps.ite (mid_dischargeDecision s).toKeeps (Keeps.refl true s)
  · exact keeps_flagReactions _ _ s
  · exact Keeps.ite (low_redecideDpk s).toKeeps (Keeps.refl true s)
  all_goals exact Keeps.refl true s

theorem keeps_packDelivery (k : PackId) (f : PackField) (o : BusOutcome) (w : Nat) (s : State) :
    Keeps true s (packDelivery k f o w s) := by
  have h : Keeps true s (updating (.pack k)
      (fun x => x.setPack k (delivered x.dsg.settleMs.isSome f o w (x.pack k))) s) :=
    keeps_updating _ (keeps_setPack k _ s (delivered_window _ _ _ _ _))
  exact Keeps.ite (Keeps.after (keeps_criteriaCheck _ _) (Keeps.ite (h.trans (keeps_storedReactions _ _ _ _)) h))
    (Keeps.refl true s)

theorem keeps_ageOne (k : PackId) (s : State) :
    Keeps true s (updating (.pack k) (fun x => x.setPack k (agePack (x.pack k))) s) :=
  keeps_updating _ (keeps_setPack k _ s (fun h => h))

theorem keeps_packRoundEnd (s : State) : Keeps true s (packRoundEnd s) :=
  Keeps.after (keeps_ageOne .pack1 _) (keeps_ageOne .pack0 s)

theorem keeps_retryOne (k : PackId) (s : State) :
    Keeps true s (if retryDue (s.pack k) then startProbe k s else s) :=
  Keeps.ite (keeps_startProbe k s) (Keeps.refl true s)

theorem keeps_packRoundStart (s : State) : Keeps true s (packRoundStart s) :=
  Keeps.after (keeps_retryOne .pack1 _) (keeps_retryOne .pack0 s)

theorem keeps_profileReactions (s : State) : Keeps true s (profileReactions s) :=
  Keeps.after (mid_criticalDecision _).toKeeps (Keeps.after (keeps_criteriaCheck _ _) (keeps_criteriaCheck _ s))

theorem keeps_attachRequest (k : PackId) (n : Nat) (s : State) : Keeps true s (attachRequest k n s) :=
  keeps_setPack k _ s id

theorem keeps_freshProbe (k : PackId) (n : Nat) (s : State) :
    Keeps true s (startProbe k
      (setPackState k .probing .request (fun p => { p with failures := 0 }) (attachRequest k n s))) :=
  Keeps.after (keeps_startProbe _ _) (Keeps.after (keeps_setPackState _ _ _ _ _ (fun _ h => h)) (keeps_attachRequest k n s))

theorem keeps_joinProbe (k : PackId) (n : Nat) (s : State) :
    Keeps true s (if (s.pack k).probe.isSome then attachRequest k n s else startProbe k (attachRequest k n s)) :=
  Keeps.ite (keeps_attachRequest k n s) (Keeps.after (keeps_startProbe _ _) (keeps_attachRequest k n s))

theorem keeps_probeRequest (n : Nat) (s : State) : Keeps true s (probeRequest n s) := by
  unfold probeRequest
  generalize packOfNat s (slotParam s n 0) = r
  cases r with
  | none => exact keeps_completeSlot n .badParam 1 [] s
  | some k =>
    refine Keeps.ite (keeps_completeSlot n .busy 0 [] s) ?_
    generalize (s.pack k).state = st
    cases st with
    | absent => exact keeps_completeSlot n .noPack 0 [] s
    | online => exact keeps_freshProbe k n s
    | faulted => exact keeps_freshProbe k n s
    | detected => exact keeps_joinProbe k n s
    | probing => exact keeps_joinProbe k n s
    | lost => exact keeps_joinProbe k n s

/-! ### Thermal unit -/

/-! ### The THERMAL cause (R124, R152) -/

/-- A change of the controller whatever it does to the THERMAL cause. -/
theorem low_chgAny (c : Charge) (s : State) (hp : c.profile = s.chg.profile)
    (hi : c.state = .inhibited ↔ inhibited c.inhibit = true) : Low false s { s with chg := c } :=
  { profile := hp, cause := fun h => Bool.noConfusion h, inhibit := fun _ => hi, thermal := fun h => Bool.noConfusion h }

theorem low_evaluateOnceAny (f : Charge → Charge) (s : State) (hp : (f s.chg).profile = s.chg.profile) :
    Low false s (evaluateOnce f s) :=
  (low_updating .charger
    (f := fun x => writeDecision { x with chg := evaluated { x with chg := f x.chg } })
    ((low_chgAny _ s ((evaluated_profile _).trans hp) (evaluated_state _)).trans
      (low_writeDecision _).weaken)).trans (low_chargeNotice _ _).weaken

theorem evaluateOnce_thermal (f : Charge → Charge) (s : State) :
    (evaluateOnce f s).chg.inhibit.thermal = (f s.chg).inhibit.thermal := by
  have h : Low true { s with chg := evaluated { s with chg := f s.chg } } (evaluateOnce f s) :=
    Low.after (low_chargeNotice _ _) (low_commit .charger s (low_writeDecision _))
  rw [h.cause rfl]
  exact congrArg InhibitSet.thermal (evaluated_inhibit _)

theorem low_evaluateWithAny (f : Charge → Charge) (s : State) (hp : (f s.chg).profile = s.chg.profile) :
    Low false s (evaluateWith f s) :=
  (low_evaluateOnceAny f s hp).trans (low_evaluateAgain _ _ _).weaken

theorem evaluateWith_thermal (f : Charge → Charge) (s : State) :
    (evaluateWith f s).chg.inhibit.thermal = (f s.chg).inhibit.thermal :=
  ((low_evaluateAgain _ _ _).cause rfl).trans (evaluateOnce_thermal f s)

theorem low_setThermalCause (b : Bool) (s : State) : Low false s (setThermalCause b s) :=
  Low.ite (Low.refl false s) (low_evaluateWithAny _ s rfl)

theorem setThermalCause_thermal (b : Bool) (s : State) : (setThermalCause b s).chg.inhibit.thermal = b := by
  unfold setThermalCause setInhibit
  split
  · next h => rw [h]
  · exact evaluateWith_thermal _ s

theorem tripActive_of_slots {s t : State} (h : t.th.slots = s.th.slots) : t.tripActive = s.tripActive := by
  unfold State.tripActive; rw [h]

theorem mid_wakeAfterTrip (s : State) : Mid true s (wakeAfterTrip s) := Mid.ite (mid_takeWake _ s) (Mid.refl true s)

theorem mid_tripChange (b : Bool) (s : State) : Mid false s (tripChange b s) := by
  refine Mid.ite (Mid.refl false s) (Mid.ite ?_ ?_)
  · exact Mid.after (mid_enterShutdown _ _).weaken (low_setThermalCause true s).toMid
  · exact Mid.after (mid_wakeAfterTrip _).weaken (low_setThermalCause false s).toMid

/-- R152: after the trip rules the THERMAL cause stands exactly with the trips again. -/
theorem tripChange_exact (b : Bool) (s : State) (h : s.chg.inhibit.thermal = b) :
    thermalCauseExactly (tripChange b s) := by
  unfold thermalCauseExactly
  rw [tripActive_of_slots (mid_tripChange b s).slots]
  unfold tripChange
  split
  · next e => rw [h, e]
  · split
    · next e =>
      rw [e]
      exact ((mid_enterShutdown _ _).cause rfl).trans (setThermalCause_thermal true s)
    · next e =>
      have : s.tripActive = false := by simpa using e
      rw [this]
      exact ((mid_wakeAfterTrip _).cause rfl).trans (setThermalCause_thermal false s)

/-! ### Thermal unit -/

/-- A change of the unit's fields, with the sensor slots. -/
theorem keeps_thAny (x : Thermal) (s : State) (hs : x.slots.length = s.th.slots.length) :
    Keeps false s { s with th := x } :=
  { thermal := fun h => Bool.noConfusion h, slotsKept := fun h => hs.trans h }

theorem keeps_setSlot (n : Nat) (x : Slot) (s : State) : Keeps false s (setSlot n x s) :=
  keeps_thAny _ s (List.length_set ..)

theorem low_raiseFans (b : Bool) (s : State) : Low true s (raiseFans b s) :=
  Low.ite ((low_raiseToFloor .fan0 s).trans (low_raiseToFloor .fan1 _)) (Low.refl true s)

theorem low_thermalNotice (n : Nat) (e : Option ThermalEvent) (s : State) : Low true s (thermalNotice n e s) := by
  unfold thermalNotice
  split
  · exact low_offer _ s
  · exact Low.refl true s

theorem keeps_redecideIf (n : Nat) (s : State) :
    Low true s (if s.chg.profile.chargerSensor = some n then redecideDcs s else s) :=
  Low.ite (low_redecideDcs s) (Low.refl true s)

/-- What an event of a slot does before the trip rules. -/
theorem low_slotEvents (n : Nat) (stored : Bool) (x : Slot) (s : State) :
    Low true (setSlot n x s)
      (thermalNotice n (tripEvent (slotOf s n).tripped x.tripped) (thermalNotice n (slotEvent (slotOf s n).state x.state)
        (updatingFans (fun y => raiseFans s.tripActive
          (if stored then publish (.sensor n) (setSlot n x y) else updating (.sensor n) (setSlot n x) y)) s))) := by
  refine Low.after (low_thermalNotice _ _ _) (Low.after (low_thermalNotice _ _ _) ?_)
  refine low_commit (.fan .fan1) s (low_commit (.fan .fan0) s (Low.after (low_raiseFans _ _) ?_))
  exact Low.ite (low_publish (.sensor n) _) (low_commit (.sensor n) s (Low.refl true _))

theorem keeps_slotChange (n : Nat) (stored : Bool) (x : Slot) (s : State) :
    Keeps true s (slotChange n stored x s) := by
  have h2 := low_slotEvents n stored x s
  have hk : Keeps false s (slotChange n stored x s) := by
    unfold slotChange
    dsimp only
    split
    · exact Keeps.after (low_redecideDcs _).weaken.toKeeps (Keeps.after (mid_tripChange _ _).toKeeps
        (Keeps.after h2.weaken.toKeeps (keeps_setSlot n x s)))
    · exact Keeps.after (mid_tripChange _ _).toKeeps (Keeps.after h2.weaken.toKeeps (keeps_setSlot n x s))
  refine { hk with thermal := fun _ h => ?_ }
  have h3 := tripChange_exact s.tripActive _ ((h2.cause rfl).trans h)
  unfold slotChange
  dsimp only
  split
  · exact (low_redecideDcs _).thermal rfl h3
  · exact h3

theorem keeps_measureLocal (n : Nat) (m : Measurement) (s : State) : Keeps true s (measureLocal n m s) := by
  unfold measureLocal
  split
  · split
    · exact keeps_slotChange _ _ _ s
    · exact keeps_slotChange _ _ _ s
    · exact keeps_slotChange _ _ _ s
  · exact Keeps.refl true s

theorem keeps_sensorDelivery (n : Nat) (o : BusOutcome) (r : SkipReason) (w : Nat) (s : State) :
    Keeps true s (sensorDelivery n o r w s) := by
  unfold sensorDelivery
  dsimp only
  split
  · cases o <;> dsimp only
    all_goals first
      | exact Keeps.refl true s
      | exact keeps_slotChange _ _ _ s
      | exact Keeps.ite (Keeps.refl true s) (keeps_slotChange _ _ _ s)
  · exact Keeps.refl true s

theorem keeps_unbindSlots (l : PollList) : (ns : List Nat) → (s : State) → Keeps true s (unbindSlots l ns s)
  | [], s => Keeps.refl true s
  | n :: rest, s => by
    unfold unbindSlots
    exact Keeps.after (keeps_unbindSlots l rest _) (Keeps.ite (keeps_slotChange n _ _ s) (Keeps.refl true s))

theorem low_commitSensors (b : State) : (ns : List Nat) → (s : State) → Low true s (commitSensors b ns s)
  | [], s => Low.refl true s
  | n :: rest, s => (low_commit (.sensor n) b (Low.refl true s)).trans (low_commitSensors b rest _)

theorem low_clearNotices (b : State) : (ns : List Nat) → (s : State) → Low true s (clearNotices b ns s)
  | [], s => Low.refl true s
  | n :: rest, s => (low_thermalNotice n _ s).trans (low_clearNotices b rest _)

theorem keeps_adoptThermal (t : ThermalTable) (s : State) : Keeps true s (adoptThermal t s) := by
  have h2 : Low true { s with th := takeThermal t s.th } (clearNotices s allSlots
      (commitSensors s allSlots (updatingFans (fun x => { x with th := takeThermal t x.th }) s))) :=
    Low.after (low_clearNotices _ _ _) (Low.after (low_commitSensors _ _ _)
      (low_commit (.fan .fan1) s (low_commit (.fan .fan0) s (Low.refl true _))))
  have hk : Keeps false s (adoptThermal t s) :=
    Keeps.after (low_redecideDcs _).weaken.toKeeps (Keeps.after (mid_tripChange _ _).toKeeps
      (Keeps.after h2.weaken.toKeeps (keeps_thAny _ s (List.length_mapIdx ..))))
  exact { hk with thermal := fun _ h =>
    (low_redecideDcs _).thermal rfl (tripChange_exact s.tripActive _ ((h2.cause rfl).trans h)) }

/-- A change of the unit's fields that leaves the sensor slots alone. -/
theorem keeps_th (x : Thermal) (s : State) (h1 : x.slots = s.th.slots) : Keeps true s { s with th := x } :=
  { slotsKept := fun h => (congrArg List.length h1).trans h
    thermal := fun _ h => by
      unfold thermalCauseExactly State.tripActive at *
      simpa only [h1] using h }

theorem keeps_adoptCurves (s : State) : Keeps true s (adoptCurves s) := by
  unfold adoptCurves
  split
  · exact Keeps.refl true s
  · exact Keeps.after (keeps_completeSlot _ _ _ _ _) (keeps_th _ s rfl)

theorem keeps_refreshBoost (s : State) : Keeps true s (refreshBoost s) := keeps_th _ s rfl

theorem keeps_fanUpdate (s : State) : Keeps true s (fanUpdate s) := by
  unfold fanUpdate
  exact Keeps.after (low_openWindow _ _).toKeeps (Keeps.after (low_openWindow _ _).toKeeps
    (Keeps.after (keeps_refreshBoost _) (Keeps.after (low_driveFan _ _ _).toKeeps (Keeps.after (low_driveFan _ _ _).toKeeps
      (Keeps.after (keeps_adoptCurves _) (Keeps.after (low_closeFan _ _).toKeeps (low_closeFan _ s).toKeeps))))))

theorem keeps_thermalUpdate (m0 m1 : Measurement) (s : State) : Keeps true s (thermalUpdate m0 m1 s) := by
  unfold thermalUpdate
  exact Keeps.after (keeps_updatingFans (keeps_fanUpdate _)) (Keeps.after (keeps_measureLocal _ _ _)
    (Keeps.after (keeps_measureLocal _ _ _) (keeps_th _ s rfl)))

theorem low_startFans (s : State) : Low true s (startFans s) := (low_startFan .fan0 s).trans (low_startFan .fan1 _)

end Sys2Proof.Laws
end

