-- ==== Sys2Proof/Laws/KeepPorts.lean ====
section
/-! SUPPORT. One frame lemma for each function of the side-bus ports, the poll engines and the arbiters, up to `settle`. -/
namespace Sys2Proof.Laws

open Sys2Proof.Machine Sys2Proof.Safety

/-! ### Ports -/

theorem keeps_portCause (p : PortId) (b : Bool) (s : State) : Keeps true s (portCause p b s) := by
  cases p
  · exact (low_setPortCause b s).toKeeps
  · exact Keeps.refl true s

theorem keeps_transferEnds (n : Nat) (o : BusOutcome) (d : List Byte) (s : State) :
    Keeps true s (transferEnds n o d s) := keeps_completeSlot _ _ _ _ s

theorem keeps_refuseHosts (d : Nat) : (l : List Nat) → (s : State) → Keeps true s (refuseHosts d l s)
  | [], s => Keeps.refl true s
  | n :: rest, s => Keeps.after (keeps_refuseHosts d rest _) (keeps_completeSlot n _ _ _ s)

theorem keeps_offerTransfer (n : Nat) (s : State) : Keeps true s (offerTransfer n s) := by
  unfold offerTransfer
  dsimp only
  split
  · exact keeps_completeSlot _ _ _ _ s
  · exact keeps_completeSlot _ _ _ _ s
  all_goals exact keeps_offerWork _ _ s

theorem keeps_withdrawTransfer (p : PortId) (n : Nat) (s : State) : Keeps true s (withdrawTransfer p n s) := by
  unfold withdrawTransfer
  refine Keeps.after (keeps_completeSlot _ _ _ _ _) (keeps_updatingPort _ _ s ?_)
  intro x h
  dsimp only
  split
  · exact Nat.zero_le 4
  · exact h

theorem keeps_refuseProbes : (l : List ProbeUnit) → (s : State) → Keeps true s (refuseProbes l s)
  | [], s => Keeps.refl true s
  | u :: rest, s =>
    Keeps.after (keeps_refuseProbes rest _) (Keeps.after (keeps_probeStepEnd u _ _ _) (keeps_probeBegun _ s))

theorem keeps_refuseGroup (g : Option WriteGroup) (s : State) : Keeps true s (refuseGroup g s) := by
  cases g with
  | none => exact Keeps.refl true s
  | some g => exact (low_groupEnd g .portHalted s).toKeeps

theorem keeps_endBusReset (p : PortId) (r : Result) (d : Nat) (s : State) : Keeps true s (endBusReset p r d s) := by
  unfold endBusReset
  split
  · exact Keeps.refl true s
  · exact Keeps.after (keeps_completeSlot _ _ _ _ _) (keeps_setPort p _ s (fun h => h))

theorem emptyLists_fairness (x : Port) (h : x.fairness ≤ 4) : (emptyLists x).fairness ≤ 4 := by
  unfold emptyLists
  dsimp only
  split
  · exact h
  · exact Nat.zero_le 4

theorem keeps_refuseWaiting (p : PortId) (old : Port) (d : Nat) (s : State) :
    Keeps true s (refuseWaiting p old d s) := by
  unfold refuseWaiting
  exact Keeps.after (keeps_endBusReset _ _ _ _) (Keeps.after (keeps_refuseProbes _ _)
    (Keeps.after (keeps_refuseGroup _ _) (keeps_refuseHosts _ _ s)))

theorem keeps_enterDisabled (p : PortId) (s : State) : Keeps true s (enterDisabled p s) := by
  unfold enterDisabled
  exact Keeps.after (keeps_portCause _ _ _) (Keeps.after (keeps_refuseWaiting _ _ _ _)
    (keeps_updatingPort _ _ s (fun x h => emptyLists_fairness x h)))

theorem keeps_enterHalted (p : PortId) (f : Port → Port) (s : State) (hf : ∀ x, (f x).fairness = x.fairness) :
    Keeps true s (enterHalted p f s) := by
  unfold enterHalted
  exact Keeps.after (keeps_portCause _ _ _) (Keeps.after (keeps_refuseWaiting _ _ _ _)
    (Keeps.after (low_offer _ _).toKeeps
      (keeps_updatingPort _ _ s (fun x h => emptyLists_fairness (f x) (by rw [hf]; exact h)))))

theorem keeps_enterRecovering (p : PortId) (c : StuckCause) (f : Port → Port) (s : State)
    (hf : ∀ x, (f x).fairness = x.fairness) : Keeps true s (enterRecovering p c f s) := by
  unfold enterRecovering
  exact Keeps.after (low_offer _ _).toKeeps (keeps_updatingPort _ _ s (fun x h => by
    show (f x).fairness ≤ 4
    rw [hf]; exact h))

theorem sendBack_fairness (w : Work) (x : Port) : (sendBack w x).fairness = x.fairness := by
  unfold sendBack
  split
  · rfl
  · split <;> rfl
  · rfl
  · rfl

theorem keeps_sentBack (w : Work) (s : State) : Keeps true s (sentBack w s) := by
  unfold sentBack
  split
  · exact keeps_probeSentBack _ s
  all_goals exact Keeps.refl true s

theorem keeps_stuckData (p : PortId) (w : Work) (s : State) : Keeps true s (stuckData p w s) :=
  Keeps.after (keeps_enterRecovering _ _ _ _ (sendBack_fairness w)) (keeps_sentBack w s)

theorem keeps_attemptSucceeds (p : PortId) (r : Nat × Bool) (s : State) : Keeps true s (attemptSucceeds p r s) := by
  unfold attemptSucceeds
  exact Keeps.after (keeps_portCause _ _ _) (Keeps.after (keeps_endBusReset _ _ _ _)
    (Keeps.after (low_offer _ _).toKeeps (keeps_updatingPort _ _ s (fun _ h => h))))

theorem keeps_attemptFails (p : PortId) (r : Nat × Bool) (s : State) : Keeps true s (attemptFails p r s) :=
  Keeps.ite (keeps_enterHalted _ _ s (fun _ => rfl)) (keeps_updatingPort _ _ s (fun _ h => h))

theorem keeps_retryFails (p : PortId) (r : Nat × Bool) (s : State) : Keeps true s (retryFails p r s) :=
  keeps_updatingPort _ _ s (fun _ h => h)

theorem keeps_attemptThenDisabled (p : PortId) (r : Nat × Bool) (s : State) :
    Keeps true s (attemptThenDisabled p r s) :=
  Keeps.after (keeps_enterDisabled _ _) (keeps_updatingPort _ _ s (fun _ h => h))

theorem keeps_unitDone (p : PortId) (s : State) : Keeps true s (unitDone p s) :=
  Keeps.ite (keeps_enterDisabled p s) (keeps_updatingPort _ _ s (fun _ h => h))

theorem keeps_recoveryStepEnds (p : PortId) (u : ProbeUnit) (r : Nat × Bool) (s : State) :
    Keeps true s (recoveryStepEnds p u r s) := by
  have h1 : Keeps true s (updatingPort p (fun x => { noteAttempt r x with granted := none }) s) :=
    keeps_updatingPort _ _ s (fun _ h => h)
  unfold recoveryStepEnds
  dsimp only
  split
  · exact Keeps.after (keeps_unitDone _ _) (h1.trans (keeps_probeStepEnd _ _ _ _))
  · exact Keeps.ite (Keeps.after (keeps_enterDisabled _ _) (h1.trans (keeps_probeStepEnd _ _ _ _)))
      (Keeps.after (low_offer _ _).toKeeps (Keeps.after (keeps_updatingPort _ _ _ (fun _ h => h))
        (h1.trans (keeps_probeStepEnd _ _ _ _))))

theorem keeps_attemptEnds (p : PortId) (r : Nat × Bool) (s : State) : Keeps true s (attemptEnds p r s) := by
  unfold attemptEnds
  dsimp only
  split
  · exact Keeps.ite (Keeps.ite (keeps_attemptThenDisabled _ _ s)
      (Keeps.ite (keeps_attemptSucceeds _ _ s) (keeps_attemptFails _ _ s))) (Keeps.refl true s)
  · exact Keeps.ite (Keeps.ite (keeps_attemptThenDisabled _ _ s)
      (Keeps.ite (keeps_attemptSucceeds _ _ s) (keeps_retryFails _ _ s))) (Keeps.refl true s)
  · exact Keeps.ite (keeps_recoveryStepEnds _ _ _ s) (Keeps.refl true s)
  · exact Keeps.refl true s

theorem keeps_retryBegins (p : PortId) (s : State) : Keeps true s (retryBegins p s) :=
  keeps_updatingPort _ _ s (fun _ h => h)

theorem keeps_portRoundStart (p : PortId) (s : State) : Keeps true s (portRoundStart p s) :=
  Keeps.ite (keeps_updatingPort _ _ s (fun _ h => h)) (Keeps.refl true s)

theorem keeps_busResetRequest (n : Nat) (p : PortId) (s : State) : Keeps true s (busResetRequest n p s) :=
  Keeps.ite (Keeps.after (keeps_portCause _ _ _) (keeps_updatingPort _ _ s (fun _ h => h)))
    (keeps_completeSlot _ _ _ _ s)

theorem keeps_disablePort (p : PortId) (s : State) : Keeps true s (disablePort p s) := by
  have hl : Keeps true s (s.setPort p { s.port p with disableDue := true }) := keeps_setPort p _ s (fun h => h)
  unfold disablePort
  dsimp only
  split
  · exact Keeps.refl true s
  · exact keeps_enterDisabled p s
  · exact hl
  · exact Keeps.ite hl (keeps_enterDisabled p s)
  · exact Keeps.ite hl (keeps_enterDisabled p s)

theorem keeps_enablePort (p : PortId) (s : State) : Keeps true s (enablePort p s) :=
  Keeps.ite (Keeps.after (keeps_portCause _ _ _) (keeps_updatingPort _ _ s (fun _ h => h)))
    (keeps_setPort p _ s (fun h => h))

theorem keeps_takeHeader (p : PortId) (l : PollList) (s : State) : Keeps true s (takeHeader p l s) := by
  have h1 : Keeps true s (updatingPort p (fun x => { x with fast := l.fast, clockLow := l.clockLow }) s) :=
    keeps_updatingPort _ _ s (fun _ h => h)
  exact Keeps.ite (h1.trans (keeps_enablePort _ _)) (h1.trans (keeps_disablePort _ _))

/-! ### Poll engines -/

theorem keeps_deliver (e : PollEntry) (o : BusOutcome) (r : SkipReason) (d : List Byte) (s : State) :
    Keeps true s (deliver e o r d s) := by
  unfold deliver
  split
  · exact Keeps.refl true s
  · exact Keeps.ite (low_storeBytes _ _ s).toKeeps (Keeps.refl true s)
  · exact keeps_packDelivery _ _ _ _ s
  · exact (low_chargerDelivery _ _ _ s).toKeeps
  · exact keeps_sensorDelivery _ _ _ _ s

theorem keeps_setWatch (p : PortId) (n : Nat) (r : WatchResult) (s : State) :
    Keeps true s (s.setEngine p (setWatchResult n r (s.engine p))) :=
  keeps_setEngine p _ s (fun h => (List.length_set ..).trans h)

theorem keeps_evaluateWatch (p : PortId) (n : Nat) (w : Watch) (v : Nat) (s : State) :
    Keeps true s (evaluateWatch p n w v s) := by
  unfold evaluateWatch
  dsimp only
  split
  · split
    · exact keeps_setWatch p n _ s
    · split
      · exact Keeps.after (low_evaluate _).toKeeps (Keeps.after (low_offer _ _).toKeeps (keeps_setWatch p n _ s))
      · exact Keeps.after (low_offer _ _).toKeeps (keeps_setWatch p n _ s)
  · exact keeps_setWatch p n _ s

theorem keeps_watchStep (p : PortId) (n : Nat) (e : PollEntry) (o : BusOutcome) (d : List Byte) (s : State) :
    Keeps true s (watchStep p n e o d s) := by
  unfold watchStep
  split
  · exact Keeps.refl true s
  · exact Keeps.ite (keeps_evaluateWatch _ _ _ _ s) (Keeps.refl true s)

theorem writeRow_rows (n : Nat) (e : PollEntry) (o : BusOutcome) (r : SkipReason) (d : List Byte) (x : Engine) :
    (writeRow n e o r d x).rows.length = x.rows.length := List.length_set ..

theorem errorPolicy_rows (e : PollEntry) (o : BusOutcome) (x : Engine) : (errorPolicy e o x).rows = x.rows := by
  unfold errorPolicy; split <;> rfl

theorem keeps_entryEnd (p : PortId) (n : Nat) (o : BusOutcome) (r : SkipReason) (d : List Byte) (s : State) :
    Keeps true s (entryEnd p n o r d s) := by
  unfold entryEnd
  dsimp only
  exact Keeps.after (keeps_setEngine p _ _ (fun h => by rw [errorPolicy_rows]; exact h))
    (Keeps.after (keeps_watchStep _ _ _ _ _ _) (Keeps.after
      (keeps_setEngine p _ _ (fun h => (writeRow_rows _ _ _ _ _ _).trans h)) (keeps_deliver _ _ _ _ s)))

theorem keeps_unboundSlots (p : PortId) (l : PollList) (s : State) : Keeps true s (unboundSlots p l s) := by
  cases p
  · exact Keeps.refl true s
  · exact keeps_unbindSlots l _ s

theorem keeps_adoptList (p : PortId) (n : Nat) (s : State) : Keeps true s (adoptList p n s).1 := by
  unfold adoptList
  dsimp only
  split
  · exact keeps_completeSlot _ _ _ _ s
  · have h2 : Keeps true s (unboundSlots p (readPollList s.mem (pollTable p))
        (takeHeader p (readPollList s.mem (pollTable p)) (completeSlot n .ok 0 [(1, [0#8])]
          (s.setEngine p (takeList (readPollList s.mem (pollTable p)) (s.engine p)))))) :=
      Keeps.after (keeps_unboundSlots _ _ _) (Keeps.after (keeps_takeHeader _ _ _)
        (Keeps.after (keeps_completeSlot _ _ _ _ _)
          (keeps_setEngine p _ s (fun _ => by simp only [takeList, List.length_replicate]))))
    dsimp only
    exact Keeps.ite h2 (Keeps.after (keeps_updating _ (keeps_setEngine p _ _ (fun h => h))) h2)

theorem keeps_restartInterval (p : PortId) (s : State) : Keeps true s (restartInterval p s) :=
  keeps_updating _ (keeps_setEngine p _ s (fun h => h))

theorem keeps_handRoundEnd (p : PortId) (s : State) : Keeps true s (handRoundEnd p s) := by
  cases p
  · exact Keeps.ite ((keeps_packRoundEnd s).trans (low_evaluate _).toKeeps) (keeps_packRoundEnd s)
  · exact Keeps.refl true s

theorem keeps_afterBoundary (p : PortId) (b : Bool) (f : State → State) (s : State)
    (hf : ∀ x, Keeps true x (f x)) : Keeps true s (afterBoundary p b f s) := by
  have h1 : Keeps true s (s.setEngine p { s.engine p with prevOverrun := (s.engine p).overrun }) :=
    keeps_setEngine p _ s (fun h => h)
  unfold afterBoundary
  dsimp only
  split
  · exact h1
  · split
    · exact h1.trans (hf _)
    · split
      · exact h1.trans (keeps_restartInterval _ _)
      · exact h1.trans (keeps_updating _ (keeps_setEngine p _ _ (fun h => h)))

theorem keeps_boundary (f : State → State) (p : PortId) (s : State) (hf : ∀ x, Keeps true x (f x)) :
    Keeps true s (boundary f p s) := by
  unfold boundary
  dsimp only
  split
  · exact Keeps.after (keeps_afterBoundary _ _ _ _ hf) (keeps_handRoundEnd p s)
  · exact Keeps.after (keeps_afterBoundary _ _ _ _ hf)
      (Keeps.after (keeps_adoptList p _ _) (keeps_handRoundEnd p s))

theorem keeps_offerEntry (p : PortId) (n : Nat) (s : State) : Keeps true s (offerEntry p n s) := by
  unfold offerEntry
  exact Keeps.after (keeps_offerWork p _ _) (keeps_setEngine p _ s (fun h => h))

theorem keeps_takeEntries (p : PortId) (f : State → State) (hf : ∀ x, Keeps true x (f x)) :
    (n : Nat) → (l : List PollEntry) → (s : State) → Keeps true s (takeEntries p f n l s)
  | _, [], s => hf s
  | n, e :: rest, s => by
    unfold takeEntries
    refine Keeps.ite (Keeps.ite ?_ (Keeps.ite (keeps_offerEntry p n s) ?_)) (keeps_takeEntries p f hf _ rest s)
    · exact Keeps.after (keeps_takeEntries p f hf _ rest _) (keeps_entryEnd p n _ _ _ s)
    · exact Keeps.after (keeps_takeEntries p f hf _ rest _) (keeps_entryEnd p n _ _ _ s)

theorem keeps_startRound (f : State → State) (p : PortId) (n : Nat) (s : State) (hf : ∀ x, Keeps true x (f x)) :
    Keeps true s (startRound f p n s) := by
  have h2 : Keeps true s (portRoundStart p
      (updating (.port p) (fun x => x.setEngine p (beginRound n x (x.engine p))) s)) :=
    Keeps.after (keeps_portRoundStart p _) (keeps_updating _ (keeps_setEngine p _ s (fun h => h)))
  cases p
  · exact Keeps.after (keeps_takeEntries .a f hf 0 _ _) (h2.trans (keeps_packRoundStart _))
  · exact Keeps.after (keeps_takeEntries .b f hf 0 _ _) h2

theorem keeps_lastBoundary (p : PortId) (s : State) : Keeps true s (lastBoundary p s) :=
  keeps_boundary id p s (fun x => Keeps.refl true x)

theorem keeps_nextRound (p : PortId) (s : State) : Keeps true s (nextRound p s) :=
  keeps_startRound _ p _ s (keeps_lastBoundary p)

theorem keeps_roundBoundary (p : PortId) (s : State) : Keeps true s (roundBoundary p s) :=
  keeps_boundary _ p s (fun x => keeps_startRound _ p _ x (keeps_lastBoundary p))

theorem keeps_firstRound (p : PortId) (s : State) : Keeps true s (firstRound p s) :=
  Keeps.ite (keeps_startRound _ p 0 s (keeps_lastBoundary p)) (Keeps.refl true s)

theorem keeps_nextEntries (p : PortId) (n : Nat) (s : State) : Keeps true s (nextEntries p n s) := by
  unfold nextEntries
  exact Keeps.after (keeps_takeEntries p _ (keeps_roundBoundary p) _ _ _) (keeps_setEngine p _ s (fun h => h))

theorem keeps_offeredEnds (p : PortId) (n : Nat) (o : BusOutcome) (r : SkipReason) (d : List Byte) (s : State) :
    Keeps true s (offeredEnds p n o r d s) :=
  Keeps.after (keeps_nextEntries p n _) (keeps_entryEnd p n o r d s)

theorem keeps_overrun (p : PortId) (s : State) : Keeps true s (overrun p s) := by
  have h1 : Keeps true s (updating (.port p) (fun x => x.setEngine p { x.engine p with
    held := true, overrun := true, timerMs := none }) s) := keeps_updating _ (keeps_setEngine p _ s (fun h => h))
  exact Keeps.ite h1 (h1.trans (low_offer _ _).toKeeps)

theorem keeps_adoptNow (p : PortId) (n : Nat) (s : State) : Keeps true s (adoptNow p n s) := by
  unfold adoptNow
  dsimp only
  split
  · exact Keeps.ite ((keeps_adoptList p n s).trans (keeps_nextRound p _))
      ((keeps_adoptList p n s).trans (keeps_restartInterval p _))
  · exact keeps_adoptList p n s

theorem keeps_loadList (p : PortId) (n : Nat) (s : State) : Keeps true s (loadList p n s) :=
  Keeps.ite (Keeps.refl true s) (keeps_adoptNow p n s)

/-! ### The end of a work unit, grants, `settle` -/

theorem keeps_handOutcome (p : PortId) (w : Work) (o : BusOutcome) (d : List Byte) (s : State) :
    Keeps true s (handOutcome p w o d s) := by
  cases w
  · exact (low_groupEnd _ _ s).toKeeps
  · exact keeps_probeStepEnd _ _ _ s
  · exact keeps_offeredEnds _ _ _ _ _ s
  · exact keeps_transferEnds _ _ _ s

theorem keeps_afterUnit (p : PortId) (o : BusOutcome) (s : State) : Keeps true s (afterUnit p o s) :=
  Keeps.ite (keeps_enterRecovering _ _ _ s (fun _ => rfl)) (keeps_unitDone p s)

theorem keeps_unitEnds (p : PortId) (w : Work) (t : Transaction) (o : BusOutcome) (d : List Byte) (s : State) :
    Keeps true s (unitEnds p w t o d s) := by
  unfold unitEnds
  exact Keeps.after (keeps_afterUnit p o _) (Keeps.after (keeps_handOutcome p w o d _)
    (keeps_updatingPort _ _ s (fun _ h => h)))

theorem keeps_secondBegins (p : PortId) (w : Work) (t : Transaction) (s : State) :
    Keeps true s (secondBegins p w t s) := by
  have h1 : Keeps true s (updatingPort p (fun x => { noteTransaction t .ok x with second := true }) s) :=
    keeps_updatingPort _ _ s (fun _ h => h)
  exact Keeps.ite (h1.trans (keeps_stuckData p w _)) h1

theorem keeps_transactionEnds (p : PortId) (w : Work) (r : TransactionResult) (s : State) :
    Keeps true s (transactionEnds p w r s) := by
  unfold transactionEnds
  split
  · exact keeps_stuckData p w s
  · exact Keeps.ite (keeps_secondBegins p w _ s) (keeps_unitEnds p w _ _ _ s)

theorem keeps_clockTimesOut (p : PortId) (w : Work) (s : State) : Keeps true s (clockTimesOut p w s) :=
  keeps_unitEnds p w _ _ _ s

theorem keeps_recoveryStep (p : PortId) (u : ProbeUnit) (s : State) : Keeps true s (recoveryStep p u s) := by
  unfold recoveryStep
  exact Keeps.ite (Keeps.after (keeps_unitDone _ _) (Keeps.after (keeps_probeStepEnd _ _ _ _)
    (keeps_updatingPort _ _ s (fun _ h => h)))) (keeps_updatingPort _ _ s (fun _ h => h))

theorem keeps_beginWork (p : PortId) (s : State) : Keeps true s (beginWork p s) := by
  have h1 : Keeps true s (s.setPort p { s.port p with starting := false }) := keeps_setPort p _ s (fun h => h)
  unfold beginWork
  dsimp only
  split
  · exact h1
  · split
    · exact Keeps.ite (h1.trans (keeps_recoveryStep _ _ _)) (Keeps.ite (h1.trans (keeps_stuckData _ _ _)) h1)
    all_goals exact Keeps.ite (h1.trans (keeps_stuckData _ _ _)) h1

theorem keeps_handBack (p : PortId) (n : Nat) (s : State) : Keeps true s (handBack p n s) := by
  unfold handBack
  exact Keeps.after (keeps_offeredEnds p n _ _ _ _) (keeps_setPort p _ s (fun h => h))

/-- R72: a grant keeps what every function keeps. -/
theorem keeps_grantNow (p : PortId) (s : State) : Keeps true s (grantNow p s) := by
  unfold grantNow
  split
  · cases h : chooseWork (s.port p) with
    | none => exact Keeps.refl true s
    | some r =>
      exact Keeps.after (keeps_grantNotice r.1 _) (keeps_updating _ (keeps_setPort p _ s
        (fun hf => fairnessAfter_le r.1 r.2 (by rw [chooseWork_fairness h]; exact hf))))
  · exact Keeps.refl true s

theorem keeps_arbiterStep (p : PortId) (s : State) : Keeps true s (arbiterStep p s) := by
  unfold arbiterStep
  dsimp only
  refine Keeps.ite (keeps_beginWork p s) ?_
  split
  · exact Keeps.ite (keeps_grantNow p s) (keeps_handBack p _ s)
  · exact keeps_grantNow p s

theorem keeps_service (p : PortId) (s : State) : Keeps true s (service p s) := by
  have two : ∀ x, Keeps true x (arbiterStep p (arbiterStep p x)) :=
    fun x => Keeps.after (keeps_arbiterStep p _) (keeps_arbiterStep p x)
  exact Keeps.after (two _) (Keeps.after (two _) (Keeps.after (two _) (two s)))

theorem keeps_servicePorts (s : State) : Keeps true s (servicePorts s) :=
  Keeps.after (keeps_service .b _) (keeps_service .a s)

/-- What the settling at the end of a command keeps. -/
theorem keeps_settle (s : State) : Keeps true s (settle s) :=
  Keeps.after (low_publishDue _).toKeeps (Keeps.after (keeps_servicePorts _) (Keeps.after (mid_powerSettle _).toKeeps
    (keeps_servicePorts s)))

end Sys2Proof.Laws
end

