-- ==== Sys2Proof/Laws/KeepCommands.lean ====
section
/-! SUPPORT. One frame lemma for each function of the commands that writes no pin, no filtered level and no register:
bus commands, thermal commands, requests and the events of stored writes. -/
namespace Sys2Proof.Laws

open Sys2Proof.Machine Sys2Proof.Safety

/-! ### Shapes -/

theorem keeps_when (b : Bool) (f : State → State) (s : State) (h : Keeps true s (f s)) : Keeps true s (when_ b f s) :=
  Keeps.ite h (Keeps.refl true s)

/-- A quiet command answers a next state: the effect, or the state as it was while RESET_N is low. -/
theorem quiet_next (f : State → State) (s : State) (h : s.inReset = false) : quiet f s = .next (f s) := by
  unfold quiet; rw [h]; rfl

theorem quiet_inReset (f : State → State) (s : State) (h : s.inReset = true) : quiet f s = .next s := by
  unfold quiet; rw [h]; rfl

/-- An event answers the settled effect. -/
theorem event_next (f : State → State) (s : State) (h : s.inReset = false) : event f s = .next (settle (f s)) :=
  quiet_next _ s h

theorem event_inReset (f : State → State) (s : State) (h : s.inReset = true) : event f s = .next s := quiet_inReset _ s h

/-! ### Keyboard, bus and thermal commands -/

theorem keeps_clockTimeout (p : PortId) (s : State) : Keeps true s (clockTimeout p s) := by
  unfold clockTimeout
  split
  · exact Keeps.refl true s
  · exact keeps_clockTimesOut p _ s

theorem keeps_settleTimerEnds (s : State) : Keeps true s (settleTimerEnds s) := (mid_updatingPacks { }).toKeeps

theorem keeps_tachPulse (f : FanId) (n : Nat) (s : State) : Keeps true s (tachPulse f n s) :=
  Keeps.ite (low_setFan f _ s).toKeeps (Keeps.refl true s)

/-! ### Requests -/

theorem keeps_takePost (n k : Nat) (f : State → State) (s : State) (hf : ∀ x, Keeps true x (f x)) :
    Keeps true s (takePost n k f s) :=
  Keeps.ite ((low_setSlotState n _ s).toKeeps.trans (hf _)) (Keeps.refl true s)

theorem keeps_foundCancelled (n : Nat) (s : State) : Keeps true s (foundCancelled n s) :=
  Keeps.ite (keeps_completeSlot _ _ _ _ s) (Keeps.refl true s)

theorem keeps_unknownPost (n : Nat) (s : State) : Keeps true s (unknownPost n s) :=
  Keeps.ite (keeps_completeSlot _ _ _ _ s) (Keeps.refl true s)

theorem keeps_adoptKeymap (m : Keymap) (s : State) : Keeps true s (adoptKeymap m s) := keeps_updating _ { }

theorem takeProfile_inhibit (p : ChargeProfile) (c : Charge) :
    (takeProfile p c).inhibit = c.inhibit ∧ (takeProfile p c).state = c.state := by
  unfold takeProfile; split <;> exact ⟨rfl, rfl⟩

theorem keeps_adoptProfile (p : ChargeProfile) (s : State) : Keeps true s (adoptProfile p s) := by
  have h : Keeps true s (takeProfileTerms p s) :=
    { inhibit := fun h => by
        unfold inhibitedExactly at *
        exact (congrArg (· = ChargeState.inhibited) (takeProfile_inhibit p s.chg).2).to_iff.trans
          (h.trans (congrArg (inhibited · = true) (takeProfile_inhibit p s.chg).1.symm).to_iff)
      thermal := fun _ h => by
        unfold thermalCauseExactly at *
        exact (congrArg InhibitSet.thermal (takeProfile_inhibit p s.chg).1).trans h }
  unfold adoptProfile
  exact Keeps.after (low_evaluateTimes _ _).toKeeps (keeps_updating _ h)

theorem keeps_ownerTakes (t : TableId) (n : Nat) (s : State) : Keeps true s (ownerTakes t n s) := by
  cases t
  · exact Keeps.after (keeps_completeSlot _ _ _ _ _) (keeps_adoptKeymap _ s)
  · exact keeps_loadList .a n s
  · exact keeps_loadList .b n s
  · exact Keeps.after (keeps_profileReactions _) (Keeps.after (keeps_adoptProfile _ _) (keeps_completeSlot _ _ _ _ s))
  · exact Keeps.after (keeps_adoptThermal _ _) (keeps_completeSlot _ _ _ _ s)
  · exact Keeps.refl true s
  · exact Keeps.after (mid_adoptPlatform _ _).toKeeps (keeps_completeSlot _ _ _ _ s)

theorem keeps_validateAndTake (t : TableId) (n : Nat) (s : State) : Keeps true s (validateAndTake t n s) := by
  unfold validateAndTake
  split
  · exact keeps_completeSlot _ _ _ _ s
  · exact keeps_ownerTakes t n s

theorem keeps_loadTable (n : Nat) (s : State) : Keeps true s (loadTable n s) := by
  unfold loadTable
  split
  · exact keeps_completeSlot _ _ _ _ s
  · split
    · exact keeps_completeSlot _ _ _ _ s
    · exact Keeps.after (keeps_validateAndTake _ n _) (keeps_holdSlot n _ s)

theorem keeps_busTransfer (n : Nat) (s : State) : Keeps true s (busTransfer n s) := by
  unfold busTransfer
  split
  · exact keeps_completeSlot _ _ _ _ s
  · exact Keeps.after (keeps_offerTransfer n _) (keeps_holdSlot n _ s)

theorem keeps_busReset (n : Nat) (s : State) : Keeps true s (busReset n s) :=
  Keeps.ite (keeps_completeSlot _ _ _ _ s) (Keeps.after (keeps_busResetRequest n _ _) (keeps_holdSlot n _ s))

theorem keeps_probePack (n : Nat) (s : State) : Keeps true s (probePack n s) := by
  unfold probePack
  split
  · exact keeps_completeSlot _ _ _ _ s
  · exact Keeps.after (keeps_probeRequest n _) (keeps_holdSlot n _ s)

theorem keeps_setOverride (n : Nat) (s : State) : Keeps true s (setOverride n s) := by
  unfold setOverride
  dsimp only
  refine Keeps.ite (keeps_completeSlot _ _ _ _ s) (Keeps.ite (keeps_completeSlot _ _ _ _ s) ?_)
  split
  · exact keeps_completeSlot _ _ _ _ s
  · exact Keeps.ite (Keeps.after (keeps_completeSlot _ _ _ _ _) (Keeps.after (low_setCap _ _).toKeeps
      (low_setOverrides _ _ s).toKeeps)) (keeps_completeSlot _ _ _ _ s)

theorem keeps_chargeModeRequest (n : Nat) (s : State) : Keeps true s (chargeModeRequest n s) := by
  unfold chargeModeRequest
  split
  · exact keeps_completeSlot _ _ _ _ s
  · exact Keeps.after (keeps_completeSlot _ _ _ _ _) (low_setChargeMode _ s).toKeeps

theorem keeps_acceptPower (n : Nat) (t : SleepTarget) (d : Nat) (s : State) : Keeps true s (acceptPower n t d s) := by
  have h : Keeps true s (startDelay t d (completeSlot n .ok 0 [] s)) :=
    Keeps.after (mid_startDelay _ _ _).toKeeps (keeps_completeSlot _ _ _ _ s)
  exact Keeps.ite (h.trans (mid_delayExpires _).toKeeps) h

theorem keeps_powerRequest (n : Nat) (s : State) : Keeps true s (powerRequest n s) := by
  unfold powerRequest
  dsimp only
  split
  · exact keeps_completeSlot _ _ _ _ s
  · exact Keeps.ite (keeps_completeSlot _ _ _ _ s) (Keeps.ite (keeps_completeSlot _ _ _ _ s)
      (Keeps.ite (keeps_completeSlot _ _ _ _ s) (Keeps.ite (keeps_completeSlot _ _ _ _ s) (keeps_acceptPower n _ _ s))))

/-! ### Stored writes and restarts -/

theorem keeps_cancelEvent (n : Nat) (s : State) : Keeps true s (cancelEvent n s) := by
  unfold cancelEvent
  split
  · exact keeps_completeSlot _ _ _ _ s
  · exact Keeps.ite (keeps_withdrawTransfer _ n s) (Keeps.refl true s)
  all_goals exact Keeps.refl true s

theorem keeps_freeSlot (r n : Nat) (s : State) : Keeps true s (freeSlot r n s) :=
  Keeps.ite (low_setSlotState n _ s).toKeeps (Keeps.refl true s)

theorem keeps_freeSlots (r : Nat) : (n : Nat) → (s : State) → Keeps true s (freeSlots r n s)
  | 0, s => Keeps.refl true s
  | n + 1, s => Keeps.after (keeps_freeSlot r n _) (keeps_freeSlots r n s)

theorem keeps_publishAll : (l : List Rec) → (s : State) → Keeps true s (publishAll l s)
  | [], s => Keeps.refl true s
  | r :: rest, s => Keeps.after (keeps_publishAll rest _) (low_announce r s).toKeeps

theorem keeps_restartQueue (s : State) : Keeps true s (restartQueue s) :=
  Keeps.after (low_placeResync _).toKeeps (Keeps.after (low_setStale _ _).toKeeps (low_emptyQueue s).toKeeps)

theorem keeps_handPortState (s : State) : Keeps true s (handPortState s) :=
  Keeps.ite (low_setPortCause _ s).toKeeps (Keeps.refl true s)

theorem keeps_handOne (k : PackId) (s : State) : Keeps true s (if s.seated k then presenceRise k s else s) :=
  Keeps.ite (keeps_presenceRise k s) (Keeps.refl true s)

theorem keeps_handPresence (s : State) : Keeps true s (handPresence s) :=
  Keeps.after (keeps_handOne .pack1 _) (keeps_handOne .pack0 s)

theorem keeps_beginAgain (s : State) : Keeps true s (beginAgain s) := by
  unfold beginAgain
  exact Keeps.after (keeps_firstRound .b _) (Keeps.after (keeps_firstRound .a _)
    (Keeps.after (mid_dischargeDecision _).toKeeps (Keeps.after (keeps_handPresence _)
      (Keeps.after (low_evaluate _).toKeeps (low_scanModeDecision s).toKeeps))))

theorem keeps_autoPowerOn (s : State) : Keeps true s (autoPowerOn s) :=
  Keeps.ite (mid_powerOn _ s).toKeeps (Keeps.refl true s)

/-! ### Discarded writes (R172, R199) -/

/-- The offset that a discarded write notes. -/
theorem discardOffset_cases (s : State) (w : WindowWrite) :
    discardOffset s w = w.offset ∨ offsetsDiffer s w = true ∧ discardOffset s w = 0x0104 := by
  unfold discardOffset
  cases h : offsetsDiffer s w
  · exact Or.inl rfl
  · cases s.turn 2 == 1
    · exact Or.inl rfl
    · exact Or.inr ⟨rfl, rfl⟩

@[simp] theorem discardWrite_mem (s : State) (w : WindowWrite) : (discardWrite s w).mem = s.mem := by
  unfold discardWrite; split <;> rfl

@[simp] theorem discardWrite_queue (s : State) (w : WindowWrite) : (discardWrite s w).queue = s.queue := by
  unfold discardWrite; split <;> rfl

@[simp] theorem discardWrite_lastProtocol (s : State) (w : WindowWrite) :
    (discardWrite s w).link.lastProtocol = BitVec.ofNat 16 (discardOffset s w) := by
  unfold discardWrite; split <;> rfl

end Sys2Proof.Laws
end

