-- ==== Sys2Proof/Tests/Slice0.lean ====
section
/-! SUPPORT. Tests: ill-formed commands, one command on a small state, and for every statement of Obligations.lean that
has hypotheses a state that meets them all (`test_witness_…`, one for each clause). -/
set_option Elab.async false

namespace Sys2Proof.Tests

open Sys2Proof.Machine Sys2Proof.Safety

/-! ### Helpers -/

/-- The next state of an answer. -/
def after (c : Instr) (s : State) : State :=
  match exec c s with
  | .next t => t
  | .fault _ => s
  | .refused _ => s

/-- A view of the state after a command. -/
def see {α : Type} (f : State → α) (c : Instr) (s : State) : α := f (after c s)

/-- The reset state with one unit changed. -/
def withPower (f : Power → Power) (s : State) : State := { s with power := f s.power }
def withKbd (f : Keyboard → Keyboard) (s : State) : State := { s with kbd := f s.kbd }
def withChg (f : Charge → Charge) (s : State) : State := { s with chg := f s.chg }
def withTh (f : Thermal → Thermal) (s : State) : State := { s with th := f s.th }
def withPort (p : PortId) (f : Port → Port) (s : State) : State := s.setPort p (f (s.port p))
def withEngine (p : PortId) (f : Engine → Engine) (s : State) : State := s.setEngine p (f (s.engine p))
def withPack (k : PackId) (f : Pack → Pack) (s : State) : State := s.setPack k (f (s.pack k))
def withGood (stby main : Bool) (s : State) : State :=
  { s with pins := { s.pins with pgStby := stby, pgMain := main } }

/-- In a power state, both rails up. -/
def inState (x : PowerState) : State :=
  withGood true true (withPower (fun p => { p with
    state := x, enStby := true, enMain := true, hrstAsserted := false, seenStby := true, seenMain := true }) State.reset)

/-- RUN with the keyboard scanned. -/
def running : State := withKbd (fun k => { k with mode := .full }) (inState .run)

/-- RUN in WATCHING. -/
def watching : State := withPower (fun p => { p with heartbeat := .watching, heartbeatMs := 9 }) running

/-- A raw input at a level with its count complete. -/
def counted (i : FilteredInput) (level : Bool) (s : State) : State :=
  { s with
    pins := { s.pins with inputs := setInputLevel s.pins.inputs i level }
    power := { s.power with counts := setInputCount s.power.counts i (some 32) } }

/-- A filtered level. -/
def level (i : FilteredInput) (b : Bool) (s : State) : State :=
  { s with
    pins := { s.pins with inputs := setInputLevel s.pins.inputs i b }
    power := { s.power with levels := setInputLevel s.power.levels i b } }

/-- A slot with a state word, a kind and parameter bytes. -/
def slotAt (n state kind : Nat) (params : List Byte) (s : State) : State :=
  storeBytes (slotBase n + 16) params (storeBytes (slotBase n) (bytes16 state ++ bytes16 kind) s)

/-- A post of a kind in slot 3. -/
def post (kind : Nat) (params : List Byte) (s : State) : State := slotAt 3 slotPosted kind params s

/-- The window enabled at 0xFED40000. -/
def windowOn (s : State) : State := { s with link := { s.link with windowCtrl := 0xFED40001#32 } }

/-- State word, result, detail, flags of slot 3. -/
def done (s : State) : Nat × Nat × Nat × Byte :=
  (slotState s 3, Memory.read16 s.mem (slotBase 3 + 4), Memory.read16 s.mem (slotBase 3 + 6),
    Memory.read s.mem (slotBase 3 + 8))

def free : BusLine := ⟨true, true⟩
def dataLow : BusLine := ⟨true, false⟩

/-- A port with nothing on the bus or waiting. -/
def idlePort (p : PortId) (s : State) : State :=
  withPort p (fun x => { x with state := .idle, granted := none, poll := none, charger := none }) s

/-- Both ports without work and both engines stopped. -/
def quietBus (s : State) : State :=
  withEngine .a (fun x => { x with round := .stopped }) (withEngine .b (fun x => { x with round := .stopped })
    (idlePort .a (idlePort .b s)))

/-- `quietBus` with the pair of READY written: no write group is offered while no pack is selected. -/
def idleBus (s : State) : State :=
  let t := quietBus s
  { t with chg := { t.chg with written := some ⟨0, 4096⟩ } }

/-- A pack ONLINE with values that can be charged. -/
def onlinePack (soc : Nat) (p : Pack) : Pack :=
  { p with
    state := .online, ages := List.replicate 7 (some 0)
    values := { p.values with voltage := 16000, soc := soc, temperature := 250, reqCurrent := 3000, reqVoltage := 16800 }
    identity := some ⟨16000, 5000, 0#8, 77, 0#16⟩ }

/-! ### Ill-formed commands (WellFormed.lean) -/

theorem test_illformed_heartbeat : (Instr.heartbeatWrite 0 [1#8, 2#8, 3#8]).wellFormed = false := by decide
theorem test_illformed_window : (Instr.hostWindowWrite 0#32 []).wellFormed = false := by decide
theorem test_illformed_cause : (Instr.alertCauseWrite 3 [1#8, 2#8]).wellFormed = false := by decide
theorem test_illformed_enable : (Instr.alertEnableWrite 2 [1#8, 2#8, 3#8, 4#8]).wellFormed = false := by decide
theorem test_illformed_control : (Instr.windowCtrlWrite 0 []).wellFormed = false := by decide
theorem test_illformed_other : (Instr.registerWriteOther 4 [1#8]).wellFormed = false := by decide
theorem test_illformed_pass : (Instr.scanPass (List.replicate 17 0#8)).wellFormed = false := by decide
theorem test_illformed_reply :
    (Instr.transactionEnd .a (.ran ⟨none, List.replicate 35 0#8⟩) ⟨true, true⟩).wellFormed = false := by decide
theorem test_illformed_attempt :
    (Instr.recoveryAttemptEnd .b ⟨true, List.replicate 10 ⟨false, false⟩, ⟨true, true⟩⟩).wellFormed = false := by decide
theorem test_wellformed :
    (Instr.heartbeatWrite 0 [1#8]).wellFormed = true ∧ (Instr.registerWriteOther 2 [1#8, 2#8]).wellFormed = true ∧
      (Instr.scanPass (List.replicate 18 0#8)).wellFormed = true := by decide

/-! ### Words and the queue of commands -/

theorem test_no_word_spells_a_command : decodeTableWord 16 0x1234 = none := rfl
theorem test_fetch_word_leaves_the_queue : State.reset.withFetchWord 8 0x55 = State.reset := rfl
theorem test_idle : step State.reset = .next State.reset := rfl
theorem test_front : step { State.reset with pending := [.partTimeTick, .lidChange] } =
    exec .partTimeTick { State.reset with pending := [.lidChange] } := rfl
theorem test_witness_empty_queue : State.reset.pending = [] := rfl

/-! ### Resets -/

theorem test_reset_is_cold_start : after (.coldStart afterResetPins) State.reset = State.reset := by decide +kernel

/-- An adapter and the strap at the cold start: WAKING with factor AUTO_ON. -/
theorem test_cold_start_auto_on :
    see (fun t => (t.power.state, t.power.cause, t.power.wakeFactors, t.power.enStby, t.queue.write))
      (.coldStart { afterResetPins with
        inputs := ⟨true, true, true, false, false, false⟩
        straps := { afterResetPins.straps with autoPowerOn := true } }) State.reset =
      (.waking, .wake, [.autoOn], true, 1) := by decide +kernel

theorem test_reset_assert :
    see (fun t => (t.inReset, t.power.enStby, t.power.hrstAsserted, pwmDuty t .fan1, portDrives t .a, chgInhAsserted t))
      .pinResetAssert running = (true, false, true, 100, false, true) := by decide +kernel

/-- The release keeps PACK_COUNT and shutdown_cause; the adapter does not power on. -/
theorem test_witness_reset_release :
    (assertReset (level .acp true running)).inReset = true ∧ running.inReset = false ∧
    see (fun t => (t.inReset, t.power.state, t.power.shutdownCause, t.power.straps.packCount, t.power.straps.fanCount))
      (.pinResetRelease ⟨true, true, true, 0#2, true, false⟩ free free)
      (assertReset (level .acp true (withPower (fun p => { p with shutdownCause := .thermal }) running))) =
      (false, .off, .thermal, 1, 2) := by decide +kernel

theorem test_witness_nothing_in_reset :
    (assertReset running).inReset = true ∧
    see (fun t => (t.pins.pgMain, t.power.state)) (.powerGoodFall .main) (assertReset running) = (false, .run) := by
  decide +kernel

/-! ### Filtered inputs -/

theorem test_witness_raw_input :
    running.inReset = false ∧ isFiltered running .lid = true ∧
    see (fun t => (t.pins.inputs.lid, t.power.counts.lid, t.power.levels.lid)) (.rawInputChange .lid false) running =
      (false, some 0, true) ∧
    see (fun t => t.power.counts.lid) (.rawInputChange .lid true) (counted .lid false running) = none := by
  decide +kernel

theorem test_witness_raw_unfiltered :
    running.power.straps.packCount ≠ 2 ∧
    see (fun t => (t.pins.inputs.presence1, t.power.counts.presence1)) (.rawInputChange .presence1 true) running =
      (true, none) := by decide +kernel

theorem test_witness_level_moves :
    running.inReset = false ∧ countRuns (counted .lid false running) .lid = true ∧
    see (fun t => (t.power.levels.lid, t.kbd.mode, t.queue.write, t.gen .platform)) .lidChange (counted .lid false running) =
      (false, .idle, 1, 2#16) := by decide +kernel

theorem test_witness_lid_outside_run :
    (inState .off).power.state ≠ .run ∧ (inState .off).kbd.mode ≠ .full ∧
    see (fun t => (t.power.levels.lid, t.queue.write)) .lidChange (counted .lid false (inState .off)) = (false, 0) := by
  decide +kernel

theorem test_witness_aux :
    countRuns (counted .wakeAux true running) .wakeAux = true ∧
    see (fun t => t.power.levels.wakeAux) .auxWakeChange (counted .wakeAux true running) = true := by decide +kernel

/-- WAKE_AUX is enabled in SLEEP on a change of level. -/
theorem test_aux_wakes_from_sleep :
    see (fun t => (t.power.state, t.power.wakeFactors)) .auxWakeChange (counted .wakeAux true (withPower (fun p => { p with
      table := { p.table with wakeAux := ⟨true, false, false, false⟩ } }) (inState .sleep))) =
      (.waking, [.wakeAux]) := by decide +kernel

def critical : State :=
  withPower (fun p => { p with graceMs := some 5 })
    { running with dsg := { selected := some .pack0, settleMs := none, critical := true } }

theorem test_witness_adapter :
    countRuns (counted .acp true critical) .acp = true ∧ (counted .acp true critical).pins.inputs.acp = true ∧
    see (fun t => (t.power.levels.acp, t.power.graceMs, t.dsg.selected, t.dsg.critical)) .adapterChange
      (counted .acp true critical) = (true, none, none, false) := by decide +kernel

def autoOn (x : PowerState) : State :=
  withPower (fun p => { p with table := { p.table with autoPowerOn := .on } }) (withGood false false (inState x))

def tripped (s : State) : State := setSlot 0 ⟨.valid, 1100, true, 0, 0⟩ s

theorem test_witness_adapter_power_on :
    (counted .acp true (autoOn .off)).power.state = .off ∧ autoPowerOnInEffect (counted .acp true (autoOn .off)) = true ∧
    (counted .acp true (autoOn .off)).tripActive = false ∧
    see (fun t => (t.power.state, t.power.wakeFactors)) .adapterChange (counted .acp true (autoOn .off)) =
      (.waking, [.autoOn]) := by decide +kernel

/-- R10: the power-on before the evaluation, by the choice of log 8. -/
theorem test_adapter_power_on_first :
    see (fun t => (t.power.state, t.power.wakeFactors)) .adapterChange
      { counted .acp true (autoOn .off) with turns := [1] } = (.waking, [.autoOn]) := by decide +kernel

/-- R12: an adapter removal that makes the ACP condition true and raises critical battery; the choice names the first factor. -/
theorem test_critical_and_adapter :
    let p := (inState .suspending).power
    let s := { inState .suspending with
      power := { p with
        snapshot := ⟨p.levels.lid, !p.levels.acp, p.levels.wakeAux⟩, pendingWake := []
        table := { romPlatform with acp := ⟨true, false, false, false⟩ } } }
    (criticalRise s).power.pendingWake = [.batteryCritical, .acp] ∧
    (criticalRise { s with turns := [1] }).power.pendingWake = [.acp, .batteryCritical] := by decide +kernel

theorem test_witness_adapter_trip :
    (counted .acp true (tripped (autoOn .off))).tripActive = true ∧
    see (fun t => t.power.state) .adapterChange (counted .acp true (tripped (autoOn .off))) = .off := by decide +kernel

theorem test_witness_presence_rise :
    countRuns (counted .presence0 true (quietBus running)) (presenceInput .pack0) = true ∧
    (quietBus running).pack0.state = .absent ∧ (quietBus running).portA.state ≠ .halted ∧
    (quietBus running).portA.state ≠ .disabled ∧
    see (fun t => (t.power.levels.presence0, t.pack0.state, t.queue.write)) (.packPresenceChange .pack0)
      (counted .presence0 true (quietBus running)) = (true, .detected, 2) := by decide +kernel

/-- An IDLE port grants a write group, or else step 1, at once; at a BUSY port the step waits. -/
theorem test_witness_presence_rise_grants :
    see (fun t => (t.portA.granted.map (fun w => w matches .charger _), t.portA.probes.length)) (.packPresenceChange .pack0)
      (counted .presence0 true (quietBus running)) = (some true, 1) ∧
    (idleBus running).portA.state = .idle ∧ nothingWaits (idleBus running).portA = true ∧
    see (fun t => (t.pack0.state, t.pack0.reason, t.portA.granted.map (fun w => w matches .probe _), t.portA.probes.length))
      (.packPresenceChange .pack0) (counted .presence0 true (idleBus running)) =
      (.probing, .probeStart, some true, 0) ∧
    see (fun t => (t.pack0.state, t.pack0.reason, t.portA.probes.length)) (.packPresenceChange .pack0)
      (counted .presence0 true (withPort .a (fun x => { x with state := .busy, granted := some (.poll 0) })
        (idleBus running))) = (.detected, .present, 1) := by decide +kernel

theorem test_witness_presence_stays :
    (withPack .pack0 (onlinePack 50) running).pack0.state ≠ .absent ∧
    see (fun t => t.pack0) (.packPresenceChange .pack0) (counted .presence0 true (withPack .pack0 (onlinePack 50) running)) =
      (withPack .pack0 (onlinePack 50) running).pack0 := by decide +kernel

theorem test_witness_presence_fall :
    (withPack .pack0 (onlinePack 50) (level .presence0 true running)).pack0.state ≠ .absent ∧
    see (fun t => (t.pack0.state, t.pack0.reason, t.pack0.values.soc, t.pack0.identity.isSome)) (.packPresenceChange .pack0)
      (counted .presence0 false (withPack .pack0 (onlinePack 50) (level .presence0 true running))) =
      (.absent, .removed, 50, true) := by decide +kernel

theorem test_witness_presence_scan_mode :
    scanModeDecided (counted .presence0 false (withPack .pack0 (onlinePack 50) (level .presence0 true running))) ∧
    see (fun t => t.kbd.table) (.packPresenceChange .pack0)
      (counted .presence0 false (withPack .pack0 (onlinePack 50) (level .presence0 true running))) = [] := by
  unfold scanModeDecided; decide +kernel

def pressing (s : State) : State := counted .pwrbtn false s
def delaying (s : State) : State := withPower (fun p => { p with delay := some ⟨.sleep, 500, 0⟩ }) s

theorem test_witness_press_run :
    buttonDue false (pressing running) = true ∧ (pressing running).power.ignore = false ∧
    sleepDelay (pressing running).power = false ∧
    see (fun t => (t.power.reported, t.power.heldMs, t.queue.write)) .buttonPress (pressing running) =
      (true, some 0, 1) := by decide +kernel

theorem test_witness_press_ignored :
    (withPower (fun p => { p with ignore := true }) (pressing running)).power.ignore = true ∧
    see (fun t => (t.power.heldMs, t.queue.write)) .buttonPress
      (withPower (fun p => { p with ignore := true }) (pressing running)) = (none, 0) := by decide +kernel

theorem test_witness_press_latched :
    sleepDelay (pressing (delaying running)).power = true ∧
    see (fun t => (t.power.pendingWake, t.power.state)) .buttonPress (pressing (delaying running)) =
      ([.pwrbtn], .run) ∧
    see (fun t => t.power.pendingWake) .buttonPress (pressing (inState .suspending)) = [.pwrbtn] := by decide +kernel

theorem test_witness_press_wakes :
    (pressing (inState .sleep)).power.state = .sleep ∧
    see (fun t => (t.power.state, t.power.wakeFactors)) .buttonPress (pressing (inState .sleep)) =
      (.waking, [.pwrbtn]) ∧
    see (fun t => (t.power.state, t.power.wakeFirst)) .buttonPress (pressing (withGood false false (inState .off))) =
      (.waking, some .pwrbtn) := by decide +kernel

theorem test_witness_press_tripped :
    (pressing (tripped (inState .off))).tripActive = true ∧
    see (fun t => t.power.state) .buttonPress (pressing (tripped (inState .off))) = .off ∧
    see (fun t => t.power.state) .buttonPress (pressing (inState .waking)) = .waking := by decide +kernel

def releasing (reported : Bool) : State :=
  withPower (fun p => { p with heldMs := some 100, reported := reported })
    (counted .pwrbtn true (level .pwrbtn false running))

theorem test_witness_release :
    buttonDue true (releasing true) = true ∧
    see (fun t => (t.power.heldMs, t.power.reported, t.queue.write)) .buttonRelease (releasing true) =
      (none, false, 1) ∧
    (releasing false).power.reported = false ∧
    see (fun t => t.queue.write) .buttonRelease (releasing false) = 0 := by decide +kernel

/-! ### Power sequences -/

def waking (x : SeqStep) (stby main : Bool) : State :=
  withGood stby main (withPower (fun p => { p with
    state := .waking, step := x, enStby := true, cause := .wake, seqCause := .wake, wakeFactors := [.pwrbtn],
    wakeFirst := some .pwrbtn, seenStby := stby, seenMain := main }) State.reset)

theorem test_witness_rise_stby :
    (waking .stbyHigh false false).inReset = false ∧ powerGood (waking .stbyHigh false false) .stby = false ∧
    see (fun t => (t.power.step, t.power.enMain, t.power.seenStby)) (.powerGoodRise .stby)
      (waking .stbyHigh false false) = (.mainHigh, true, true) ∧
    see (fun t => t.power.step) (.powerGoodRise .stby) (waking .stbyHigh false true) = .resetHold := by decide +kernel

theorem test_witness_rise_main :
    powerGood (waking .mainHigh true false) .main = false ∧
    see (fun t => (t.power.step, t.power.stepMs)) (.powerGoodRise .main) (waking .mainHigh true false) =
      (.resetHold, 0) := by decide +kernel

theorem test_witness_rise_unexpected :
    powerGood (withGood false false running) .stby = false ∧
    see (fun t => (t.pins.pgStby, t.power.step)) (.powerGoodRise .stby) (withGood false false running) =
      (true, .none) := by decide +kernel

theorem test_witness_hold_end :
    (waking .resetHold true true).power.step = .resetHold ∧
    see (fun t => (t.power.state, t.power.hrstAsserted, t.power.cause, t.kbd.mode, t.queue.write)) .resetHoldExpiry
      (waking .resetHold true true) = (.run, false, .wake, .full, 2) := by decide +kernel

theorem test_witness_hold_end_critical :
    ({ waking .resetHold true true with dsg := critical.dsg }).dsg.critical = true ∧
    see (fun t => (t.power.graceMs, t.queue.write)) .resetHoldExpiry { waking .resetHold true true with dsg := critical.dsg } =
      (some 0, 3) := by decide +kernel

theorem test_witness_fall_run :
    powerGood running .main = true ∧ running.power.seqCause ≠ .combination ∧
    see (fun t => (t.power.state, t.power.shutdownCause, t.power.hrstAsserted, t.kbd.mode)) (.powerGoodFall .stby) running =
      (.shuttingDown, .railFault, true, .idle) := by decide +kernel

def stepping (x : PowerState) (y : SeqStep) : State :=
  withPower (fun p => { p with step := y, seqCause := .request, enMain := false }) (inState x)

theorem test_witness_fall_other_states :
    see (fun t => t.power.shutdownCause) (.powerGoodFall .stby) (stepping .suspending .mainLow) = .railFault ∧
    see (fun t => t.power.shutdownCause) (.powerGoodFall .stby) (inState .sleep) = .railFault ∧
    see (fun t => t.power.shutdownCause) (.powerGoodFall .stby) (waking .mainHigh true false) = .railFault ∧
    see (fun t => t.power.shutdownCause) (.powerGoodFall .main) (waking .resetHold true true) = .railFault := by
  decide +kernel

theorem test_witness_suspending_ends :
    (stepping .suspending .mainLow).power.pendingWake = [] ∧
    see (fun t => (t.power.state, t.power.cause, t.kbd.mode)) (.powerGoodFall .main) (stepping .suspending .mainLow) =
      (.sleep, .request, .wakeScan) ∧
    see (fun t => (t.power.state, t.power.wakeFirst)) (.powerGoodFall .main)
      (withPower (fun p => { p with pendingWake := [.lid] }) (stepping .suspending .mainLow)) =
      (.waking, some .lid) := by decide +kernel

theorem test_witness_shutting_down :
    (stepping .shuttingDown .mainLow).pins.pgStby = true ∧
    see (fun t => (t.power.state, t.power.step, t.power.enStby)) (.powerGoodFall .main)
      (stepping .shuttingDown .mainLow) = (.shuttingDown, .stbyLow, false) ∧
    see (fun t => (t.power.state, t.power.cause, t.queue.read, t.queue.write)) (.powerGoodFall .stby)
      (stepping .shuttingDown .stbyLow) = (.off, .request, 0, 1) := by decide +kernel

theorem test_witness_wait_runs_out :
    (stepping .suspending .mainLow).power.seqCause ≠ .combination ∧
    see (fun t => t.power.shutdownCause) .railWaitTimeout (waking .stbyHigh false false) = .railTimeout ∧
    see (fun t => t.power.shutdownCause) .railWaitTimeout (waking .mainHigh true false) = .railTimeout ∧
    see (fun t => (t.power.state, t.power.cause)) .railWaitTimeout (stepping .suspending .mainLow) =
      (.sleep, .railTimeout) ∧
    see (fun t => (t.power.step, t.power.timedOut)) .railWaitTimeout (stepping .shuttingDown .mainLow) =
      (.stbyLow, true) ∧
    see (fun t => (t.power.state, t.power.cause)) .railWaitTimeout (stepping .shuttingDown .stbyLow) =
      (.off, .railTimeout) := by decide +kernel

def comboEnding : State :=
  withPower (fun p => { p with seqCause := .combination, shutdownCause := .combination })
    (stepping .shuttingDown .stbyLow)

theorem test_witness_combination_restart :
    comboEnding.power.seqCause = .combination ∧ comboEnding.pins.pgStby = true ∧
    see (fun t => (t.power.state, t.power.shutdownCause, t.queue.write, t.link.partTime)) (.powerGoodFall .stby)
      { comboEnding with link := { comboEnding.link with partTime := 9#32 } } = (.off, .combination, 0, 0#32) := by
  decide +kernel

theorem test_witness_delay_sleep :
    (delaying running).power.delay = some ⟨.sleep, 500, 0⟩ ∧ (delaying running).pins.pgMain = true ∧
    see (fun t => (t.power.state, t.power.hrstAsserted, t.power.enMain, t.power.delay)) .suspendDelayExpiry
      (delaying running) = (.suspending, true, false, none) := by decide +kernel

theorem test_witness_delay_off :
    see (fun t => (t.power.state, t.power.shutdownCause)) .suspendDelayExpiry
      (withPower (fun p => { p with delay := some ⟨.off, 0, 0⟩ }) running) = (.shuttingDown, .request) := by
  decide +kernel

def held (s : State) : State := withPower (fun p => { p with heldMs := some 4000 }) (level .pwrbtn false s)

theorem test_witness_long_press :
    (held running).power.heldMs.isSome = true ∧ (held running).power.ignore = false ∧
    canShutDown (held running).power.state = true ∧ canShutDown (held (inState .off)).power.state = false ∧
    see (fun t => (t.power.state, t.power.shutdownCause, t.power.ignore)) .longPressExpiry (held running) =
      (.shuttingDown, .longPress, true) ∧
    see (fun t => (t.power.state, t.power.ignore)) .longPressExpiry (held (inState .off)) = (.off, true) := by
  decide +kernel

def comboRuns : State :=
  withKbd (fun k => { k with positions := k.positions.set 127 ⟨true, 0⟩ })
    (withPower (fun p => { p with comboMs := some 10000 }) (held running))

theorem test_witness_combination :
    comboRuns.power.comboMs.isSome = true ∧ comboHolds comboRuns = true ∧
    see (fun t => (t.power.state, t.power.ignore)) .longPressExpiry comboRuns = (.run, false) ∧
    see (fun t => (t.power.state, t.power.shutdownCause, t.power.comboMs)) .combinationTimerExpiry comboRuns =
      (.shuttingDown, .combination, none) := by decide +kernel

theorem test_witness_grace :
    critical.power.graceMs.isSome = true ∧ critical.pins.pgMain = true ∧
    see (fun t => (t.power.state, t.power.shutdownCause)) .criticalGraceExpiry critical =
      (.shuttingDown, .critical) := by decide +kernel

/-! ### Heartbeat -/

def silent (pulse : Option Nat) : State :=
  withPower (fun p => { p with heartbeat := .silent, pulseMs := pulse }) running

theorem test_witness_heartbeat_write :
    Memory.wf running.mem = true ∧
    see (fun t => (t.power.heartbeat, t.power.heartbeatMs, hostByte t 0xF3)) (.heartbeatWrite 3 [0x5A#8]) watching =
      (.watching, 0, 0x5A#8) ∧
    see (fun t => (t.power.heartbeat, t.queue.write)) (.heartbeatWrite 0 [1#8, 2#8, 3#8, 4#8]) (silent none) =
      (.watching, 1) := by decide +kernel

theorem test_witness_heartbeat_not_heard :
    (silent (some 1)).power.pulseMs.isSome = true ∧
    see (fun t => t.power.heartbeat) (.heartbeatWrite 0 [1#8]) (silent (some 1)) = .silent ∧
    see (fun t => t.power.heartbeat) (.heartbeatWrite 0 [1#8]) (inState .sleep) = .disarmed := by decide +kernel

def acting (a : HeartbeatAction) : State :=
  withTh (fun t => { t with fan0 := { t.fan0 with override := 40 } })
    (withPower (fun p => { p with table := { p.table with heartbeatAction := a } }) watching)

theorem test_witness_heartbeat_expiry :
    (acting .none).power.heartbeat = .watching ∧ (acting .none).power.state = .run ∧
    see (fun t => (t.power.heartbeat, t.th.fan0.override, t.queue.write)) .heartbeatExpiry (acting .none) =
      (.silent, 0, 1) ∧
    see (fun t => (t.power.state, t.power.hrstAsserted, t.power.pulseMs)) .heartbeatExpiry (acting .resetHost) =
      (.run, true, some 0) ∧
    see (fun t => (t.power.state, t.power.shutdownCause)) .heartbeatExpiry (acting .forceOff) =
      (.shuttingDown, .heartbeat) := by decide +kernel

theorem test_witness_pulse_end :
    see (fun t => (t.power.hrstAsserted, t.power.heartbeat, t.power.pulseMs)) .resetPulseEnd (silent (some 10)) =
      (false, .disarmed, none) := by decide +kernel

/-- The watch armed again inside a pulse: the pulse's end withdraws cap and overrides (R22, R140). -/
def rearmed : State :=
  withPower (fun p => { p with pulseMs := some 10 }) (withChg (fun c => { c with cap := some 256 }) (acting .none))

theorem test_witness_pulse_end_watching :
    rearmed.overrideValid = true ∧ (silent (some 10)).overrideValid = false ∧
    see (fun t => (t.power.heartbeat, t.overrideValid, t.chg.cap, t.th.fan0.override)) .resetPulseEnd rearmed =
      (.disarmed, false, none, 0) := by decide +kernel

/-! ### Keyboard -/

/-- Position 0 about to be pressed. -/
def nearPress : State :=
  withKbd (fun k => { k with positions := k.positions.set 0 ⟨false, 4⟩ }) running

def rowZero : List Byte := 1#8 :: List.replicate 15 0#8

theorem test_witness_scan_pass :
    nearPress.kbd.mode = .full ∧ nearPress.kbd.positions[0]? = some ⟨false, 4⟩ ∧
    nearPress.kbd.positions[143]? = some ⟨false, 0⟩ ∧
    see (fun t => (t.kbd.positions[0]?, t.kbd.table.map (·.code), t.queue.write)) (.scanPass rowZero) nearPress =
      (some ⟨true, 0⟩, [0x0100#16], 1) ∧
    see (fun t => (t.kbd.positions[0]?, t.kbd.positions[143]?)) (.scanPass rowZero) running =
      (some ⟨false, 1⟩, some ⟨false, 0⟩) := by decide +kernel

/-- The FN key, then the FAN_BOOST position in the FN layer. -/
theorem test_scan_pass_fan_boost :
    see (fun t => (t.th.boostMs, t.kbd.table.map (·.action), t.queue.write))
      (.scanPass ([0#8, 1#8] ++ List.replicate 13 0#8 ++ [0x80#8]))
      (withKbd (fun k => { addEntry 127 codeFn false true k with
        positions := (k.positions.set 127 ⟨true, 0⟩).set 8 ⟨false, 4⟩ }) running) =
      (some 0, [.fn, .fanBoost], 1) := by decide +kernel

theorem test_witness_press :
    running.kbd.table.length < 12 ∧ running.kbd.table = [] ∧ lookupCode running.kbd 5 ≠ 0#16 ∧
    suspected running.kbd 5 = false ∧ actionOf (lookupCode running.kbd 5) = .none ∧ running.queue.stale = emptyStale ∧
    (running.kbd.owed = [] ∧ 1 ≤ room running.queue) ∧
    (press 5 running).kbd.table = [⟨5, 0x0105#16, false, true, true, .none, 1⟩] ∧
    Memory.readList (press 5 running).mem 0x0110 8 = [1#8, 0x15#8, 5#8, 1#8, 0#8, 0#8, 0#8, 0#8] ∧
    (press 5 running).queue.write = 1 ∧ (press 5 running).link.alertCause = 2#32 := by decide +kernel

def full (s : State) : State := { s with queue := { s.queue with write := 127, read := 0 } }

theorem test_witness_press_no_room :
    ¬ ((full running).kbd.owed = [] ∧ 1 ≤ room (full running).queue) ∧
    (press 5 (full running)).kbd.overflow = true ∧ (press 5 (full running)).queue.write = 127 ∧
    (press 5 (full running)).mem = [] := by decide +kernel

def downKey : DownKey := ⟨5, 0x0105#16, false, true, true, .none, 1⟩
def keyDown : State := withKbd (fun k => { k with table := [downKey], pressCount := 1 }) running

theorem test_witness_key_up :
    keyDown.kbd.table.find? (fun x => x.position == 5) = some downKey ∧ downKey.reported = true ∧
    keyDown.kbd.owed = [] ∧ keyDown.queue.stale = emptyStale ∧ 1 ≤ room keyDown.queue ∧
    Memory.readList (release 5 (withKbd (fun k => { k with keymap := { k.keymap with base := [] } }) keyDown)).1.mem
      0x0110 8 = [0x21#8, 0x15#8, 5#8, 1#8, 0#8, 0#8, 0#8, 0#8] ∧
    room (full keyDown).queue = 0 ∧
    (release 5 (full keyDown)).1.kbd.owed = [⟨5, 0x0105#16, 1, false⟩] := by decide +kernel

def owing : State := withKbd (fun k => { k with owed := [⟨9, 0x0109#16, 1, false⟩] }) keyDown

theorem test_witness_key_up_owed :
    owing.kbd.owed ≠ [] ∧ owing.queue.stale = emptyStale ∧
    (release 5 owing).1.kbd.owed = [⟨9, 0x0109#16, 1, false⟩, ⟨5, 0x0105#16, 1, false⟩] ∧
    Memory.read (releaseReported downKey true keyDown).mem 0x0110 = 0x31#8 ∧
    (releaseReported downKey true (full keyDown)).kbd.owed = [⟨5, 0x0105#16, 1, true⟩] ∧
    1 ≤ room keyDown.queue ∧
    Memory.readList (placeOwed [⟨9, 0x0109#16, 1, false⟩] keyDown).mem 0x0110 4 = [0x21#8, 0x25#8, 9#8, 1#8] := by
  decide +kernel

def wakeScan : State := withKbd (fun k => { k with mode := .wakeScan }) (inState .sleep)

theorem test_witness_row :
    wakeScan.kbd.mode = .wakeScan ∧ running.kbd.mode ≠ .wakeScan ∧
    see (fun t => (t.pins.rowActive, t.kbd.rowCount)) (.rawRowChange true) wakeScan = (true, some 0) ∧
    see (fun t => (t.pins.rowActive, t.kbd.rowCount)) (.rawRowChange true) running = (true, none) := by decide +kernel

theorem test_witness_row_filter :
    (withKbd (fun k => { k with rowCount := some 32 }) wakeScan).kbd.rowCount.isSome = true ∧
    see (fun t => (t.power.state, t.power.wakeFactors, t.kbd.mode)) .rowFilterExpiry
      (withKbd (fun k => { k with rowCount := some 32 }) wakeScan) = (.waking, [.key], .idle) := by decide +kernel

/-! ### Side-bus ports -/

/-- A host's READ_WORD of target 0x2A at command 7, in slot 3, with PEC. -/
def readWord : List Byte := [0#8, 0x2A#8, 1#8, 7#8, 0#8, 2#8, 1#8]

def hostOnBus (p : PortId) (s : State) : State :=
  withPort p (fun x => { x with state := .busy, granted := some (.host 3) })
    (holdSlot 3 (.transfer p) (slotAt 3 slotActive 2 readWord (quietBus s)))

theorem test_witness_transfer_ends :
    Memory.wf (hostOnBus .a running).mem = true ∧ onBus (hostOnBus .a running) .a = some (.host 3) ∧
    (hostOnBus .a running).portA.disableDue = false ∧
    see (fun t => (done t, slotParam t 3 8, Memory.readList t.mem (slotBase 3 + 32) 2, t.portA.state))
      (.transactionEnd .a (.ran ⟨none, [0x34#8, 0x12#8, crc8 [0x54#8, 7#8, 0x55#8, 0x34#8, 0x12#8]]⟩) free)
      (hostOnBus .a running) = ((3, 1, 0, 0#8), 2, [0x34#8, 0x12#8], .idle) := by decide +kernel

theorem test_transfer_nack :
    see done (.transactionEnd .b (.ran ⟨some 0, []⟩) free) (hostOnBus .b running) = (3, 9, 0, 0#8) := by decide +kernel

def group : WriteGroup := ⟨512, 16000, true, 0x28, false, 0x14#8, 0x15#8⟩

def groupOnBus (second : Bool) : State :=
  withPort .a (fun x => { x with state := .busy, granted := some (.charger group), second := second }) (quietBus running)

theorem test_witness_group :
    onBus (groupOnBus false) .a = some (.charger group) ∧ (groupOnBus false).portA.second = false ∧
    (transactionOutcome (groupTransaction group false) ⟨none, []⟩).1 = .ok ∧ dataStuck free = false ∧
    see (fun t => (t.portA.second, t.chg.written)) (.transactionEnd .a (.ran ⟨none, []⟩) free) (groupOnBus false) =
      (true, none) ∧
    see (fun t => (t.portA.second, t.chg.written, t.chg.writeOutcome)) (.transactionEnd .a (.ran ⟨none, []⟩) free)
      (groupOnBus true) = (false, some ⟨512, 16000⟩, .ok) ∧
    see (fun t => (t.chg.writeOutcome, t.chg.writeFailures)) (.transactionEnd .a (.ran ⟨some 1, []⟩) free)
      (groupOnBus false) = (.nackData, 1) := by decide +kernel

theorem test_witness_stuck :
    onBus (hostOnBus .b running) .b = some (.host 3) ∧
    see (fun t => (t.portB.state, t.portB.hosts, t.portB.stuck, t.portB.running, t.queue.write))
      (.transactionEnd .b .dataFoundLow dataLow) (hostOnBus .b running) = (.recovering, [3], .dataLow, true, 1) := by
  decide +kernel

def probeUnit (step : Nat) : ProbeUnit := ⟨.pack0, step, 0x30, true, 0x50#8, false⟩

theorem test_witness_stuck_others :
    see (fun t => t.portA.charger) (.transactionEnd .a .dataFoundLow dataLow) (groupOnBus true) = some group ∧
    (probeUnit 3).orphan = false ∧
    see (fun t => t.portA.probes) (.transactionEnd .a .dataFoundLow dataLow)
      (withPort .a (fun x => { x with state := .busy, granted := some (.probe (probeUnit 3)) }) (quietBus running)) =
      [probeUnit 3] ∧
    onBus State.reset .b = some (.poll 0) ∧
    see (fun t => (t.portB.state, t.engineB.position)) (.transactionEnd .b .dataFoundLow dataLow) State.reset =
      (.recovering, 1) := by decide +kernel

theorem test_witness_clock_timeout :
    see (fun t => (t.portB.state, t.portB.stuck, t.portB.lastOutcome, done t)) (.clockTimeout .b) (hostOnBus .b running) =
      (.recovering, .clockLow, .clockTimeout, (3, 12, 0, 0#8)) := by decide +kernel

def recovering (attempts : Nat) : State :=
  withPort .a (fun x => { x with state := .recovering, attempts := attempts, running := true, stuck := .dataLow })
    (quietBus running)

def gone : AttemptSeen := ⟨true, List.replicate 9 ⟨false, false⟩, dataLow⟩
def cured : AttemptSeen := ⟨true, [⟨false, false⟩, ⟨false, true⟩], free⟩

theorem test_witness_attempt :
    (recovering 0).portA.running = true ∧ (recovering 0).portA.disableDue = false ∧
    attemptResult cured = (2, true) ∧ attemptResult gone = (9, false) ∧
    see (fun t => (t.portA.state, t.portA.pulses, t.portA.lastRecovery)) (.recoveryAttemptEnd .a cured) (recovering 2) =
      (.idle, 2, .succeeded) ∧
    see (fun t => (t.portA.state, t.portA.attempts)) (.recoveryAttemptEnd .a gone) (recovering 1) =
      (.recovering, 2) ∧
    see (fun t => (t.portA.state, t.portA.attempts, t.portA.retryMs, t.chg.state)) (.recoveryAttemptEnd .a gone)
      (recovering 2) = (.halted, 3, some 0, .inhibited) := by decide +kernel

theorem test_witness_attempt_scan_mode :
    scanModeDecided (recovering 2) ∧ see (fun t => t.kbd.table) (.recoveryAttemptEnd .a gone) (recovering 2) = [] := by
  unfold scanModeDecided; decide +kernel

def halted (run : Bool) (retry : Option Nat) : State :=
  withChg (fun c => { c with inhibit := ⟨false, true, false⟩, state := .inhibited })
    (withPort .a (fun x => { x with state := .halted, attempts := 3, running := run, retryMs := retry }) (quietBus running))

/-- R72, R124: the PORT cause leaves with the recovery, and the IDLE port grants the group that is offered then. -/
theorem test_witness_attempt_grants_group :
    (halted true none).chg.inhibit.port = true ∧
    see (fun t => (t.portA.state, t.portA.granted.isSome, t.chg.state)) (.recoveryAttemptEnd .a cured) (halted true none) =
      (.busy, true, .idle) := by decide +kernel

theorem test_witness_halted :
    (halted true none).portA.state = .halted ∧
    see (fun t => (t.portA.state, t.portA.attempts, t.portA.retryMs)) (.recoveryAttemptEnd .a gone) (halted true none) =
      (.halted, 3, some 0) ∧
    (halted false (some 30000)).portA.retryMs.isSome = true ∧
    see (fun t => (t.portA.running, t.portA.retryMs)) (.haltRetryExpiry .a) (halted false (some 30000)) =
      (true, none) := by decide +kernel

def readWordTx : Transaction := ⟨0x2A, .readWord, 7#8, [], 2, true⟩
def readBlockTx : Transaction := ⟨0x2A, .readBlock, 7#8, [], 10, true⟩
def writeWordTx : Transaction := ⟨0x2A, .writeWord, 7#8, [1#8, 2#8], 0, true⟩

/-- R60: the packet error code of a written word; a PEC that fits and one that does not. -/
theorem test_witness_outcomes :
    writeWordTx.pec = true ∧ writeWordTx.kind = .writeWord ∧ (sentBytes writeWordTx).length = 5 ∧
    crc8 [0x31#8, 0x32#8, 0x33#8, 0x34#8, 0x35#8, 0x36#8, 0x37#8, 0x38#8, 0x39#8] = 0xF4#8 ∧
    readWordTx.pec = true ∧ readWordTx.kind = .readWord ∧
    transactionOutcome readWordTx ⟨none, [1#8, 2#8, 3#8]⟩ = (.pecFail, []) ∧
    transactionOutcome readWordTx ⟨none, [1#8, 2#8, crc8 [0x54#8, 7#8, 0x55#8, 1#8, 2#8]]⟩ = (.ok, [1#8, 2#8]) := by
  decide +kernel

theorem test_witness_nacks_and_counts :
    transactionOutcome readWordTx ⟨some 2, []⟩ = (.nackAddr, []) ∧
    transactionOutcome readWordTx ⟨some 1, []⟩ = (.nackData, []) ∧ readBlockTx.kind = .readBlock ∧
    transactionOutcome readBlockTx ⟨none, [0#8]⟩ = (.badCount, []) ∧
    transactionOutcome readBlockTx ⟨none, [33#8]⟩ = (.badCount, []) ∧
    transactionOutcome readBlockTx ⟨none, [11#8]⟩ = (.badCount, []) := by decide +kernel

def waitingPort (charger : Option WriteGroup) (probes : List ProbeUnit) (poll : Option Nat) (hosts : List Nat)
    (fairness : Nat) : Port :=
  { State.reset.portA with
    state := .idle, granted := none, charger := charger, probes := probes, poll := poll, hosts := hosts,
    fairness := fairness }

theorem test_witness_arbiter :
    (chooseWork (waitingPort (some group) [probeUnit 1] (some 2) [3] 4)).map (·.1) = some (.charger group) ∧
    (chooseWork (waitingPort none [probeUnit 1] (some 2) [3] 4)).map (·.1) = some (.host 3) ∧
    (chooseWork (waitingPort none [probeUnit 1] (some 2) [3] 3)).map (·.1) = some (.probe (probeUnit 1)) ∧
    (chooseWork (waitingPort none [probeUnit 1] (some 2) [] 4)).map (·.1) = some (.probe (probeUnit 1)) ∧
    (chooseWork (waitingPort none [] (some 2) [3] 3)).map (·.1) = some (.poll 2) ∧
    (chooseWork (waitingPort none [] none [3] 0)).map (·.1) = some (.host 3) := by decide +kernel

/-- R71, R72: the first of two groups offered in one event is granted, the second waits behind it. -/
theorem test_witness_two_groups :
    (fun x : Port => (x.state, x.granted, x.charger)) (takeGroup { group with current := 256 }
      (takeGroup group (waitingPort none [] none [] 0))) =
      (.busy, some (.charger group), some { group with current := 256 }) ∧
    (waitingPort none [] none [] 0).state = .idle ∧
    (takeGroup group { waitingPort none [] none [] 0 with state := .busy }).charger = some group ∧
    nothingWaits (idleBus running).portB = true ∧
    (fun x : Port => (x.state, x.granted, nothingWaits x)) (offerWork .b (.poll 4) (idleBus running)).portB =
      (.busy, some (.poll 4), true) ∧
    (fun x : Port => (x.granted, x.poll)) (offerWork .b (.poll 4) (offerWork .b (.host 3) (idleBus running))).portB =
      (some (.host 3), some 4) := by decide +kernel

/-! ### Poll engines -/

def waiting : State := withEngine .b (fun x => { x with round := .waiting, number := 65535, held := true }) (quietBus running)

theorem test_witness_round_start :
    waiting.engineB.round = .waiting ∧
    see (fun t => (t.engineB.round, t.engineB.number, t.engineB.held, t.engineB.interval, t.portB.granted))
      (.roundStart .b free) waiting = (.running, 0, false, 250, some (.poll 0)) := by decide +kernel

theorem test_witness_overrun :
    State.reset.engineB.round = .running ∧ State.reset.engineB.timerMs.isSome = true ∧
    State.reset.engineB.prevOverrun = false ∧ 1 ≤ room State.reset.queue ∧
    see (fun t => (t.engineB.held, t.engineB.overrun, t.queue.write)) (.roundOverrun .b) State.reset = (true, true, 1) ∧
    see (fun t => t.queue.write) (.roundOverrun .b) (withEngine .b (fun x => { x with prevOverrun := true }) State.reset) =
      0 := by decide +kernel

theorem test_witness_entry_end :
    0 < State.reset.engineB.rows.length ∧ isRead (entryOf State.reset.engineB.list 0).kind = true ∧
    ((entryEnd .b 0 .ok .none [0x80#8, 0x19#8] State.reset).engineB.rows[0]?.map (fun r => (r.outcome, r.lastValue))) =
      some (.ok, 0x1980) ∧
    ((entryEnd .b 0 .nackAddr .none [] State.reset).engineB.rows[0]?.map (fun r => (r.outcome, r.lastValue))) =
      some (.nackAddr, 0) := by decide +kernel

/-- A sensor read of 25.5 °C ends: the slot is VALID and the next entry is on the bus. -/
theorem test_poll_entry_ends :
    see (fun t => (slotOf t 2, t.portB.granted)) (.transactionEnd .b (.ran ⟨none, [0x80#8, 0x19#8]⟩) free) State.reset =
      (⟨.valid, 255, false, 0, 0⟩, some (.poll 1)) := by decide +kernel

/-! ### Battery packs -/

def freshPack : Pack := State.reset.pack0

theorem test_witness_settle :
    State.reset.dsg.selected ≠ some .pack0 ∧ (setDischarge (some .pack0) State.reset).dsg.settleMs = some 0 ∧
    freshPack.ages.length = 7 ∧ (delivered true .current .ok 65535 freshPack).values.current = -1 ∧
    ({ running with dsg := ⟨some .pack0, some 2, false⟩ }).dsg.settleMs.isSome = true ∧
    see (fun t => t.dsg) .settleTimerExpiry { running with dsg := ⟨some .pack0, some 2, false⟩ } =
      ⟨some .pack0, none, false⟩ := by decide +kernel

def design (v : Nat) : Pack := { freshPack with identity := some ⟨v, 0, 0#8, 0, 0#16⟩ }

theorem test_witness_fault_window :
    (List.replicate 7 WindowOutcome.ok).length < 8 ∧
    enterWindow (some .nack) (List.replicate 8 .ok) = List.replicate 7 .ok ++ [.nack] ∧
    implausibleVoltage (design 10000) 5999 = true ∧ implausibleVoltage (design 10000) 6000 = false ∧
    implausibleVoltage (design 10000) 14000 = false ∧ implausibleVoltage (design 10000) 14001 = true ∧
    criterionMet romChargeProfile { freshPack with window := List.replicate 4 .nack } = some .nackLimit ∧
    criterionMet romChargeProfile { freshPack with window := List.replicate 3 .pecFail, implausibleRun := 3 } =
      some .pecLimit ∧
    criterionMet romChargeProfile { freshPack with window := List.replicate 2 .pecFail, implausibleRun := 3 } =
      some .implausibleVoltage ∧
    criterionMet romChargeProfile freshPack = none ∧
    criterionMet { romChargeProfile with nackEnable := false } { freshPack with window := List.replicate 3 .pecFail } =
      some .pecLimit ∧
    criterionMet { romChargeProfile with nackEnable := false, pecEnable := false } { freshPack with implausibleRun := 3 } =
      some .implausibleVoltage := by decide +kernel

/-- The 10 bytes of an identity with serial 77. -/
def identityBytes (millivolts : Nat) : List Byte :=
  bytes16 millivolts ++ [0x88#8, 0x13#8, 1#8, 77#8, 0#8, 0#8, 0#8, 0#8]

/-- Pack 0 PROBING at a step of its probe, the request of slot 3 attached, port A BUSY. -/
def probing (step failures : Nat) : State :=
  withPort .a (fun x => { x with state := .busy }) <| withPack .pack0 (fun p => { p with
    state := .probing, failures := failures, probe := some ⟨step, 0x30, true⟩, request := some 3
    record := { p.record with state := .running, identity := some ⟨16000, 5000, 1#8, 77, 0#16⟩ } })
    (level .presence0 true (slotAt 3 slotActive 4 [0#8] (quietBus running)))

/-- The end of that step. -/
def probeEnd (step failures : Nat) (o : BusOutcome) (data : List Byte) : State :=
  probeStepEnd (probeUnit step) o data (probing step failures)

def probed (t : State) : PackState × PackReason × Nat × Option ProbeRun × ProbeResult :=
  (t.pack0.state, t.pack0.reason, t.pack0.failures, t.pack0.probe, t.pack0.record.result)

theorem test_witness_probe_fails :
    Memory.wf (probing 2 0).mem = true ∧
    probed (probeEnd 2 0 .nackAddr []) = (.probing, .none, 1, none, .probeFailed) ∧
    done (probeEnd 2 0 .nackAddr []) = (3, 17, 2, 0#8) := by decide +kernel

theorem test_witness_probe_fails_for_good :
    probed (probeEnd 2 2 .nackAddr []) = (.faulted, .probeFailed, 3, none, .probeFailed) ∧
    probed (probeEnd 3 0 .ok [1#8]) = (.probing, .none, 1, none, .probeFailed) ∧
    (probeEnd 3 0 .ok [1#8]).pack0.record.step3 = .short := by decide +kernel

theorem test_witness_probe_identity :
    (identityBytes 3999).length = 10 ∧ (identityOf (identityBytes 3999)).designVoltage = 3999 ∧
    probed (probeEnd 3 0 .ok (identityBytes 3999)) = (.faulted, .badIdentity, 0, none, .badIdentity) ∧
    done (probeEnd 3 0 .ok (identityBytes 3999)) = (3, 18, 3999, 0#8) := by decide +kernel

theorem test_witness_probe_identity_bounds :
    probed (probeEnd 3 0 .ok (identityBytes 20001)) = (.faulted, .badIdentity, 0, none, .badIdentity) ∧
    probed (probeEnd 3 0 .ok (identityBytes 4000)) = (.probing, .none, 0, some ⟨4, 0x30, true⟩, .none) := by decide +kernel

theorem test_witness_probe_goes_on :
    probed (probeEnd 1 0 .ok []) = (.probing, .none, 0, some ⟨2, 0x30, true⟩, .none) ∧
    (probeEnd 2 0 .ok []).portA.probes = [⟨.pack0, 3, 0x30, true, 0x50#8, false⟩] ∧
    (romPollA.entries.find? fun e => e.binding == .pack .pack0 .alarm).map (·.command) = some 0x47#8 ∧
    (probeEnd 3 0 .ok (identityBytes 20000)).portA.probes = [⟨.pack0, 4, 0x30, true, 0x47#8, false⟩] ∧
    probeStepEnd { probeUnit 2 with orphan := true } .ok [] (probing 2 0) = probing 2 0 ∧
    freshPack.probe = none ∧
    (fun t : State => (t.portA.granted, t.portA.probes, t.pack0.record.state))
      (probeStepEnd (probeUnit 1) .ok [] (idlePort .a (probing 1 0))) =
      (some (.probe ⟨.pack0, 2, 0x30, true, 0#8, false⟩), [], .running) := by decide +kernel

/-- `probing` with values and the identity of a serial. -/
def known (serial : Nat) : State :=
  withPack .pack0 (fun p => { p with identity := some ⟨15000, 0, 0#8, serial, 0#16⟩, values := { p.values with soc := 9 } })
    (probing 4 2)

theorem test_witness_probe_succeeds :
    (probing 4 2).pack0.ages.length = 7 ∧
    probed (probeEnd 4 2 .ok [0x40#8, 0#8]) = (.online, .newPack, 0, none, .ok) ∧
    done (probeEnd 4 2 .ok [0x40#8, 0#8]) = (3, 1, 0, 0#8) ∧
    (fun t : State => (t.pack0.reason, t.pack0.values.soc, t.pack0.values.alarmWord))
      (probeStepEnd (probeUnit 4) .ok [0x40#8, 0#8] (known 77)) = (.probeOk, 9, 0x40#16) ∧
    (fun t : State => (t.pack0.reason, t.pack0.values.soc, t.pack0.identity.map (·.designVoltage)))
      (probeStepEnd (probeUnit 4) .ok [0x40#8, 0#8] (known 78)) = (.newPack, 0, some 16000) := by decide +kernel

/-- Pack 0 alone at 3 %: selected, and critical. -/
theorem test_witness_discharge :
    (fun t : State => (t.dsg.selected, t.dsg.critical, t.power.graceMs))
      (dischargeDecision (withPack .pack0 (onlinePack 3) running)) = (some .pack0, true, some 0) ∧
    (fun t : State => (t.dsg.selected, t.dsg.critical))
      (dischargeDecision (withPack .pack1 (onlinePack 6) (withPack .pack0 (onlinePack 3) running))) =
      (some .pack1, false) := by decide +kernel

/-! ### Charge controller -/

/-- RUN on the adapter with pack 0 ONLINE and selected. -/
def charging (c : Charge → Charge) : State :=
  withChg (fun x => c { x with selected := some .pack0, written := some ⟨0, 16000⟩, state := .holding, limit := .stale })
    (level .acp true (withPack .pack0 (onlinePack 50) (quietBus running)))

theorem test_witness_hold :
    holdReason (charging id) .pack0 = none ∧
    holdReason (charging (fun c => { c with cap := some 0 })) .pack0 = some .override ∧
    (computeFor (charging (fun c => { c with cap := some 0 })) .pack0).state = .holding := by decide +kernel

/-- The latch decided, as ChargeSetpoint's `x`. -/
def decided (s : State) : State :=
  withChg (fun c => { c with latch := decideLatch c s.pack0.values.soc, switchWaiting := false }) s

/-- `charging` with a system current, and the state that the previous evaluation left. -/
def drawing (system : Nat) (x : ChargeState) (l : LimitReason) : State :=
  charging (fun c => { c with systemCurrent := system, state := x, limit := l })

def result (s : State) : Nat × ChargeState × Pair × LimitReason :=
  (rawCurrent (decided s) .pack0, (computeFor s .pack0).state, (computeFor s .pack0).desired, (computeFor s .pack0).limit)

theorem test_witness_setpoint :
    holdReason (decided (drawing 0 .ready .none)) .pack0 = none ∧
    result (drawing 0 .ready .none) = (2265, .charging, ⟨512, 16800⟩, .slew) ∧
    result (drawing 1887 .ready .none) = (128, .charging, ⟨128, 16800⟩, .input) ∧
    result (drawing 1888 .ready .none) = (126, .holding, ⟨0, 16000⟩, .input) ∧
    result (drawing 1775 .holding .input) = (254, .holding, ⟨0, 16000⟩, .input) ∧
    result (drawing 1774 .holding .input) = (256, .charging, ⟨256, 16800⟩, .input) := by decide +kernel

theorem test_setpoint :
    setpoint false 191 0 .input = (.charging, 128, .input) ∧ setpoint false 127 0 .input = (.holding, 0, .input) ∧
    setpoint true 255 0 .thermal = (.holding, 0, .input) ∧ setpoint true 256 0 .thermal = (.charging, 256, .thermal) ∧
    setpoint false 3000 1000 .request = (.charging, 1512, .slew) ∧
    setpoint false 1512 1000 .request = (.charging, 1472, .request) := by decide +kernel

/-- What an evaluation makes of a state. -/
def chooses (s : State) : ChargeState × Option PackId × LimitReason × Pair × Bool :=
  ((evaluated s).state, (evaluated s).selected, (evaluated s).limit, (evaluated s).desired, (evaluated s).switchWaiting)

/-- Pack 0 selected and latched at 100 %, pack 1 a candidate. -/
def bothPacks (written : Pair) : State :=
  withPack .pack1 (onlinePack 20) (withPack .pack0 (onlinePack 100)
    (charging (fun x => { x with latch := true, written := some written })))

theorem test_witness_evaluation_stops :
    chooses (charging (fun c => { c with inhibit := ⟨true, false, false⟩ })) =
      (.inhibited, none, .none, ⟨0, 16000⟩, false) ∧
    chooses (level .acp false (charging id)) = (.idle, none, .none, ⟨0, 16000⟩, false) ∧
    desiredSelection (withPack .pack0 (fun p => { p with state := .lost }) (charging id)) = none ∧
    chooses (withPack .pack0 (fun p => { p with state := .lost }) (charging id)) =
      (.ready, none, .none, ⟨0, 16000⟩, false) ∧
    (evaluated (withPack .pack0 (fun p => { p with state := .lost }) (charging (fun c => { c with latch := true })))).latch =
      false := by decide +kernel

theorem test_witness_evaluation_selects :
    desiredSelection (charging id) = some .pack0 ∧
    chooses (charging id) = (.holding, some .pack0, .input, ⟨0, 16000⟩, false) ∧
    desiredSelection (charging (fun c => { c with selected := none })) = some .pack0 ∧
    chooses (charging (fun c => { c with selected := none })) = (.holding, some .pack0, .input, ⟨0, 16000⟩, false) ∧
    chooses (charging (fun c => { c with selected := none, written := none })) = (.ready, none, .none, ⟨0, 4096⟩, true) := by
  decide +kernel

theorem test_witness_evaluation_switches :
    desiredSelection (bothPacks ⟨0, 16000⟩) = some .pack1 ∧
    chooses (bothPacks ⟨0, 16000⟩) = (.holding, some .pack1, .input, ⟨0, 16000⟩, false) ∧
    chooses (bothPacks ⟨512, 16000⟩) = (.holding, some .pack0, .switch, ⟨0, 16000⟩, true) := by decide +kernel

theorem test_witness_arithmetic :
    previousCurrent (charging id).chg % 64 = 0 ∧ derate (charging id).chg = 100 ∧
    (rawCurrent (charging (fun c => { c with systemCurrent := 0 })) .pack0,
      bindingTerm (charging (fun c => { c with systemCurrent := 0 })) .pack0) = (2265, .input) ∧
    (rawCurrent (charging (fun c => { c with systemCurrent := 0, dPk := 10 })) .pack0,
      bindingTerm (charging (fun c => { c with systemCurrent := 0, dPk := 10 })) .pack0) = (300, .thermal) ∧
    romChargeProfile.chargerSensor = some 1 ∧ decideDpk (charging id) (some .pack0) = 100 ∧ decideDcs (charging id) = 100 ∧
    (redecideDpk (charging (fun c => { c with dPk := 40 }))).chg.dPk = 100 ∧
    (redecideDcs (charging (fun c => { c with dCs := 50 }))).chg.dCs = 100 := by decide +kernel

theorem test_witness_write_decision :
    (charging id).portA.state = .idle ∧
    (writeDecision (charging (fun c => { c with desired := ⟨512, 16000⟩ }))).portA.granted =
      some (.charger ⟨512, 16000, false, 0x28, false, 0x14#8, 0x15#8⟩) ∧
    (writeDecision (withPort .a (fun x => { x with state := .busy })
      (charging (fun c => { c with desired := ⟨512, 16000⟩ })))).portA.charger =
      some ⟨512, 16000, false, 0x28, false, 0x14#8, 0x15#8⟩ ∧
    (charging (fun c => { c with desired := ⟨0, 16000⟩ })).portA.charger = none ∧
    (writeDecision (charging (fun c => { c with desired := ⟨0, 16000⟩ }))).portA.charger = none ∧
    (evaluateOnce id (charging id)).queue.write = 2 ∧
    (evaluateOnce id (drawing 3000 .holding .input)).chg.limit = .input ∧
    (evaluateOnce id (drawing 3000 .holding .input)).queue.write = 0 := by decide +kernel

/-! ### Thermal unit -/

theorem test_witness_thermal_update :
    State.reset.th.slots.length = 6 ∧ (slotConfig State.reset 0).enable = true ∧
    see (fun t => (slotOf t 0, (slotOf t 1).state, t.th.updateMs, t.queue.write))
      (.thermalUpdate (.temperature 300) .openElement) { State.reset with th := { State.reset.th with updateMs := 1000 } } =
      (⟨.valid, 300, false, 0, 0⟩, .failed, 0, 2) := by decide +kernel

def slotDark : State :=
  withTh (fun t => { t with table := { t.table with slots := t.table.slots.set 0 ⟨false, false, 1050, 850⟩ } }) State.reset

theorem test_witness_slot_dark :
    (slotConfig slotDark 0).enable = false ∧
    see (fun t => slotOf t 0) (.thermalUpdate (.temperature 300) .openElement) slotDark = slotOf slotDark 0 := by
  decide +kernel

theorem test_witness_slot_read :
    slotRead 1000 1000 ⟨.valid, 0, false, 0, 0⟩ = ⟨.valid, 1000, false, 1, 0⟩ ∧
    slotRead 1000 999 ⟨.valid, 0, false, 1, 0⟩ = ⟨.valid, 999, false, 0, 0⟩ ∧
    slotRead 1000 1000 ⟨.valid, 0, false, 1, 0⟩ = ⟨.valid, 1000, true, 0, 0⟩ ∧
    slotRead 1000 900 ⟨.valid, 0, true, 0, 0⟩ = ⟨.valid, 900, true, 0, 0⟩ ∧
    slotRead 1000 899 ⟨.valid, 0, true, 0, 0⟩ = ⟨.valid, 899, false, 0, 0⟩ ∧
    slotRead 1000 2000 ⟨.valid, 0, true, 0, 0⟩ = ⟨.valid, 1500, true, 0, 0⟩ := by decide +kernel

/-- Fan 0 in a state, with counts. -/
def turning (x : FanState) (f : Fan → Fan) : State := withTh (fun t => { t with fan0 := f { t.fan0 with state := x } }) running

/-- The thermal update's own effect, with slot 0 at a temperature. -/
def updated (t : Int) (s : State) : State := thermalUpdate (.temperature t) (.temperature 300) s

/-- Fan state, duty, count, RPM, duty during the window. -/
def fan (s : State) : FanState × Nat × Nat × Nat × Nat :=
  (s.th.fan0.state, s.th.fan0.duty, s.th.fan0.tachCount, s.th.fan0.rpm, s.th.fan0.windowDuty)

theorem test_witness_fan_update :
    running.fanPresent .fan0 = true ∧ running.fanPresent .fan1 = false ∧
    fan (updated 300 (turning .running (fun f => { f with count := 140 }))) = (.running, 100, 140, 4200, 100) ∧
    fan (updated 300 (turning .running (fun f => { f with count := 1, low := 2 }))) = (.stalled, 100, 1, 30, 100) ∧
    fan (updated 300 (turning .stalled id)) = (.kicking, 100, 0, 0, 100) ∧
    fan (updated 300 (turning .kicking (fun f => { f with kickWindow := 1, kick := 2 }))) = (.faulted, 100, 0, 0, 100) ∧
    fan (updated 300 (turning .off (fun f => { f with duty := 0 }))) = (.running, 20, 0, 0, 100) := by decide +kernel

theorem test_witness_fan_trip :
    (updated 1060 (tripped (turning .running (fun f => { f with duty := 50 })))).tripActive = true ∧
    running.th.table.startMin ≤ 100 ∧
    (updated 1060 (tripped (turning .running (fun f => { f with duty := 50 })))).th.fan0.duty = 100 := by decide +kernel

/-- Two fans, every slot at 30 °C. -/
def twoFans (x : FanState) : State :=
  withPower (fun p => { p with straps := { p.straps with fanCount := 2 } })
    (withTh (fun t => { t with
      fan0 := { t.fan0 with state := x, count := 140, recovery := 2 }
      fan1 := { t.fan0 with count := 140 }
      slots := t.slots.map fun y => { y with state := .valid, reading := 300 } }) running)

/-- R161: the other fan descends from the update after the recovery. -/
theorem test_floor_lifted_from_next_update :
    (updated 300 (twoFans .faulted)).th.fan0.state = .running ∧ (updated 300 (twoFans .faulted)).th.fan1.duty = 100 ∧
    (updated 300 (updated 300 (twoFans .faulted))).th.fan1.duty = 92 ∧
    (updated 300 (twoFans .running)).th.fan1.duty = 92 := by decide +kernel

theorem test_witness_curve :
    romOpenCurve.Pairwise (fun p q => p.temp < q.temp) ∧ curveValue romOpenCurve 67 = 61 ∧
    curveValue romOpenCurve 71 = 73 ∧ curveValue romOpenCurve 60 = 40 ∧ curveValue romOpenCurve 40 = 20 ∧
    curveValue romOpenCurve (-1) = 20 ∧ curveValue romOpenCurve 80 = 100 ∧
    ((curveOf running .fan0).bound.filter fun n => (slotConfig running n).enable) ≠ [] ∧
    controlTemperature running .fan0 = 85 ∧
    controlTemperature (withTh (fun t => { t with table := { t.table with slots := [] } }) running) .fan0 = 0 := by
  decide +kernel

def closed (x : FanState) (rpm window : Nat) : Fan := { State.reset.th.fan0 with state := x, rpm := rpm, windowDuty := window }

theorem test_witness_fan_states :
    decideFan 300 { closed .running 299 1 with low := 1 } = { closed .running 299 1 with low := 2 } ∧
    decideFan 300 { closed .running 300 1 with low := 1 } = closed .running 300 1 ∧
    (decideFan 300 { closed .running 299 1 with low := 2 }).state = .stalled ∧
    (decideFan 300 (closed .kicking 0 1)).kickWindow = 1 ∧
    (decideFan 300 { closed .kicking 300 1 with kickWindow := 1 }).state = .running ∧
    (decideFan 300 { closed .kicking 299 1 with kickWindow := 1 }).kick = 1 ∧
    (decideFan 300 { closed .kicking 299 1 with kickWindow := 1, kick := 2 }).state = .faulted ∧
    (decideFan 300 { closed .faulted 300 0 with recovery := 1 }).recovery = 0 ∧
    (decideFan 300 { closed .faulted 300 1 with recovery := 1 }).recovery = 2 ∧
    (decideFan 300 { closed .faulted 300 1 with recovery := 2, duty := 0 }).state = .off := by decide +kernel

/-- A second reading at the critical threshold trips: 100 % fans, SHUTTING_DOWN with THERMAL, charging inhibited. -/
theorem test_thermal_trip :
    see (fun t => (t.tripActive, t.power.shutdownCause, t.th.fan0.duty, t.chg.inhibit.thermal))
      (.thermalUpdate (.temperature 1050) (.temperature 300))
      (setSlot 0 ⟨.valid, 1050, false, 1, 0⟩ running) = (true, .thermal, 100, true) := by decide +kernel

theorem test_witness_tach :
    State.reset.fanPresent .fan0 = true ∧ State.reset.fanPresent .fan1 = false ∧
    see (fun t => t.th.fan0.count) (.tachPulse .fan0 500) State.reset = 1 ∧
    see (fun t => t.th.fan0.count) (.tachPulse .fan0 499) State.reset = 0 ∧
    see (fun t => t.th.fan1.count) (.tachPulse .fan1 500) State.reset = 0 := by decide +kernel

theorem test_witness_boost_expiry :
    (withTh (fun t => { t with boostMs := some 120000, boostLeft := 1 }) running).th.boostMs.isSome = true ∧
    see (fun t => (t.th.boostMs, t.th.boostLeft)) .boostExpiry
      (withTh (fun t => { t with boostMs := some 120000, boostLeft := 1 }) running) = (none, 0) := by decide +kernel

theorem test_witness_tick :
    watching.power.heartbeat = .watching ∧ (waking .stbyHigh false false).power.step ≠ .none ∧
    see (fun t => (t.link.partTime, t.power.heartbeatMs, t.th.updateMs)) .partTimeTick watching = (1#32, 10, 1) ∧
    see (fun t => t.link.partTime) .partTimeTick { watching with link := { watching.link with partTime := 0xFFFFFFFF#32 } } =
      0#32 := by decide +kernel

/-! ### The window -/

theorem test_witness_not_claimed :
    (windowOn running).link.windowCtrl.getLsbD 0 = true ∧ claimed (windowOn running) 0xFED40000#32 = true ∧
    claimed (windowOn running) 0xFED41FFF#32 = true ∧ claimed (windowOn running) 0xFED42000#32 = false ∧
    claimed (windowOn running) 0xFED3FFFF#32 = false ∧ claimed running 0#32 = false := by decide +kernel

theorem test_witness_window_discard :
    writeAllowed (windowOn running) ⟨0x0104, [1#8, 0#8, 0#8, 0#8]⟩ = false ∧
    discardedSilently (windowOn running) ⟨0x0104, [1#8, 0#8, 0#8, 0#8]⟩ = false ∧
    running.link.gens.length = 17 ∧
    see (fun t => (t.link.alertCause, t.link.lastProtocol, t.gen .platform, t.mem)) (.hostWindowWrite 0xFED40104#32
      [1#8, 0#8, 0#8, 0#8]) (windowOn running) = (4#32, 0x0104#16, 2#16, []) := by decide +kernel

/-- A discarded write notes its lowest offset (R172), or, by the choice of log 36, 0x0104 where the queue forbids the index (R199). -/
theorem test_witness_window_discard_offset :
    writeAllowed (windowOn running) ⟨0x0105, [1#8]⟩ = false ∧ writeAllowed (windowOn running) ⟨0x0103, [0#8, 0#8]⟩ = false ∧
    readIndexAllowed running.queue (readIndexIfStored running ⟨0x0103, [0#8, 0#8]⟩) = true ∧
    see (fun t => t.link.lastProtocol) (.hostWindowWrite 0xFED40105#32 [1#8]) (windowOn running) = 0x0105#16 ∧
    see (fun t => (t.link.lastProtocol, t.turns)) (.hostWindowWrite 0xFED40105#32 [1#8])
      { windowOn running with turns := [1] } = (0x0104#16, []) ∧
    see (fun t => t.link.lastProtocol) (.hostWindowWrite 0xFED40103#32 [0#8, 0#8]) (windowOn running) = 0x0103#16 ∧
    see (fun t => t.link.lastProtocol) (.hostWindowWrite 0xFED40106#32 [0#8]) (windowOn running) = 0x0106#16 := by
  decide +kernel

theorem test_witness_window_store :
    writeAllowed (windowOn running) ⟨0x1FFE, [1#8, 2#8]⟩ = true ∧
    significance (windowOn running) ⟨0x1FFE, [1#8, 2#8]⟩ = .plain ∧
    see (fun t => (t.mem, t.link.alertCause)) (.hostWindowWrite 0xFED41FFE#32 [1#8, 2#8]) (windowOn running) =
      ([(0x1FFE, 1#8), (0x1FFF, 2#8)], 0#32) := by decide +kernel

/-- A post, then the same word again, which a POSTED slot does not take. -/
theorem test_window_post :
    see (fun t => (slotState t 0, slotKind t 0, t.link.alertCause)) (.hostWindowWrite 0xFED40600#32 [1#8, 0#8, 6#8, 0#8])
      (windowOn running) = (1, 6, 0#32) ∧
    see (fun t => (slotKind t 0, t.link.lastProtocol)) (.hostWindowWrite 0xFED40600#32 [1#8, 0#8])
      (slotAt 0 slotPosted 6 [] (windowOn running)) = (6, 0x0600#16) := by decide +kernel

theorem test_witness_access :
    stagingOf 0x1000 = some .keymap ∧ stagingOf 0x1FFF = some .platform ∧ stagingOf 0x0FFF = none ∧
    loadSlot running .keymap = none ∧ byteAllowed running ⟨0x1000, [1#8]⟩ 0x1000 = true ∧
    byteAllowed running ⟨0x1000, [1#8]⟩ 0x00EF = false ∧ byteAllowed running ⟨0x1000, [1#8]⟩ 0x00F3 = true ∧
    byteAllowed running ⟨0x1000, [1#8]⟩ 0x0106 = false ∧ byteAllowed running ⟨0x063F, [1#8]⟩ 0x063F = true ∧
    byteAllowed running ⟨0x1000, [1#8]⟩ 0x0A00 = false ∧ byteAllowed running ⟨0x1000, [1#8]⟩ 0x2000 = false := by
  decide +kernel

theorem test_witness_slot_free :
    Memory.wf (slotAt 3 slotDone 6 [] running).mem = true ∧ slotState (slotAt 3 slotDone 6 [] running) 3 = slotDone ∧
    see (fun t => slotState t 3) (.slotFreeWrite 3) (slotAt 3 slotDone 6 [] running) = slotFree ∧
    see (fun t => (slotState t 3, t.link.lastProtocol)) (.slotFreeWrite 3) (slotAt 3 slotActive 6 [] running) =
      (slotActive, 0x06C0#16) := by decide +kernel

def loading : State := holdSlot 3 (.load .fanCurves) (slotAt 3 slotActive 1 [6#8] running)
def transferring (waits : Bool) : State :=
  withPort .b (fun x => { x with hosts := if waits then [3] else [] })
    (holdSlot 3 (.transfer .b) (slotAt 3 slotActive 2 readWord running))

theorem test_witness_cancel :
    heldWork loading 3 = some (.load .fanCurves) ∧ see done (.cancelWrite 3) loading = (3, 8, 0, 1#8) ∧
    heldWork (transferring true) 3 = some (.transfer .b) ∧ 3 ∈ (transferring true).portB.hosts ∧
    3 ∉ (transferring false).portB.hosts ∧
    see done (.cancelWrite 3) (transferring true) = (3, 8, 0, 1#8) ∧
    see done (.cancelWrite 3) (transferring false) = (4, 0, 0, 0#8) ∧
    heldWork (post 6 [] running) 3 = none ∧ see done (.cancelWrite 3) (post 6 [] running) = (4, 0, 0, 0#8) := by
  decide +kernel

/-- Slot 3 with work in flight. -/
def inFlight (w : HeldWork) : State := holdSlot 3 w (slotAt 3 slotActive 3 [] running)

theorem test_witness_cancel_in_flight :
    heldWork (inFlight (.busReset .a)) 3 = some (.busReset .a) ∧ heldWork (inFlight (.probe .pack0)) 3 = some (.probe .pack0) ∧
    see (fun t => (done t, isHeld t 3)) (.cancelWrite 3) (inFlight (.busReset .a)) = ((4, 0, 0, 0#8), true) ∧
    see (fun t => (done t, isHeld t 3)) (.cancelWrite 3) (inFlight (.probe .pack0)) = ((4, 0, 0, 0#8), true) := by
  decide +kernel

theorem test_witness_cancel_discarded :
    see (fun t => (done t, t.link.alertCause)) (.cancelWrite 3) (slotAt 3 slotCancel 6 [] running) = ((4, 0, 0, 0#8), 0#32) ∧
    see (fun t => (done t, t.link.alertCause)) (.cancelWrite 3) (slotAt 3 slotDone 6 [] running) = ((3, 0, 0, 0#8), 4#32) ∧
    see (fun t => t.link.lastProtocol) (.cancelWrite 3) running = 0x06C0#16 := by decide +kernel

def queued : State := { running with queue := { running.queue with write := 2, read := 120 } }

theorem test_witness_read_index :
    (2 + 128 - queued.queue.read) % 128 ≤ occupancy queued.queue ∧
    occupancy queued.queue < (3 + 128 - queued.queue.read) % 128 ∧
    see (fun t => (t.queue.read, t.link.alertCause)) (.readIndexWrite 2#16) queued = (2, 0#32) ∧
    see (fun t => (t.queue.read, t.link.lastProtocol)) (.readIndexWrite 3#16) queued = (120, 0x0104#16) ∧
    see (fun t => t.queue.read) (.readIndexWrite 127#16) queued = 127 ∧
    see (fun t => t.queue.read) (.readIndexWrite 128#16) queued = 120 := by decide +kernel

theorem test_witness_registers :
    see (fun t => t.link.alertCause) (.alertCauseWrite 0 [5#8]) { running with link := { running.link with alertCause := 7#32 } } =
      2#32 ∧
    see (fun t => t.link.alertCause) (.alertCauseWrite 1 [5#8]) { running with link := { running.link with alertCause := 7#32 } } =
      7#32 ∧
    see (fun t => t.link.alertEnable) (.alertEnableWrite 0 [0xFF#8]) running = 7#32 ∧
    see (fun t => t.link.windowCtrl) (.windowCtrlWrite 0 [0xFF#8, 0xFF#8, 0x12#8, 0x34#8]) running = 0x3412E001#32 ∧
    see (fun t => t.link) (.registerWriteOther 0 [0xFF#8]) running = running.link := by decide +kernel

def alerting (x : PowerState) (cause enable : Word32) : State :=
  { inState x with link := { running.link with alertCause := cause, alertEnable := enable } }

theorem test_witness_alert_line :
    (alerting .run 4#32 4#32).inReset = false ∧ alertAsserted (alerting .run 4#32 4#32) = true ∧
    alertAsserted (alerting .run 4#32 3#32) = false ∧ alertAsserted (alerting .sleep 4#32 4#32) = false := by
  decide +kernel

/-! ### The report queue -/

def two : Notice := .watch .a 1 2

theorem test_witness_notice :
    running.queue.stale = emptyStale ∧ (two.units 0#32).length ≤ room running.queue ∧
    (offer two running).queue.write = 2 ∧ (offer two running).link.alertCause = 2#32 ∧
    room { (full running).queue with write := 126 } < (two.units 0#32).length ∧
    (offer two { full running with queue := { (full running).queue with write := 126 } }).queue.stale =
      ⟨false, false, false, true⟩ := by decide +kernel

/-- Two releases owed and a stale class. -/
def owingTwo : State :=
  withKbd (fun k => { k with owed := [⟨9, 0x0109#16, 1, false⟩, ⟨5, 0x0105#16, 2, true⟩] })
    { running with queue := { running.queue with stale := ⟨true, false, false, false⟩ } }

/-- W at 127, so that the room is Rd's. -/
def roomOf (n : Nat) (s : State) : State := { s with queue := { s.queue with write := 127, read := n } }

def left (s : State) : Nat × Nat × Bool := (s.queue.write, s.kbd.owed.length, s.queue.stale.platform)

theorem test_witness_room_event :
    (roomOf 2 owingTwo).queue.write < 128 ∧ room (roomOf 2 owingTwo).queue = 2 ∧
    left (roomEvent owingTwo) = (3, 0, false) ∧ left (roomEvent (roomOf 3 owingTwo)) = (2, 0, false) ∧
    left (roomEvent (roomOf 2 owingTwo)) = (1, 0, true) ∧ left (roomEvent (roomOf 1 owingTwo)) = (0, 1, true) ∧
    left (roomEvent (roomOf 0 owingTwo)) = (127, 2, true) ∧
    (roomEvent (roomOf 1 owingTwo)).mem =
      unitsStored [] 127 [keyUnit .up 9 0x0109#16 0#32] := by decide +kernel

/-! ### Requests -/

theorem test_witness_posts_without_work :
    Memory.wf (slotAt 3 slotCancel 6 [] running).mem = true ∧ isHeld running 3 = false ∧
    see done (.postFoundCancelled 3) (slotAt 3 slotCancel 6 [] running) = (3, 8, 0, 1#8) ∧
    see done (.unknownKind 3) (post 9 [] running) = (3, 2, 0, 0#8) ∧
    see done (.unknownKind 3) (post 0 [] running) = (3, 2, 0, 0#8) ∧
    see done (.unknownKind 3) (post 8 [] running) = (1, 0, 0, 0#8) := by decide +kernel

/-- A PLATFORM copy with long_press 6 and heartbeat_timeout 4; the rest 0. -/
def platformCopy (s : State) : State := storeBytes 0x1F80 [0#8, 6#8, 4#8] s

theorem test_witness_load_stops :
    postedKind (post 1 [0#8] running) 3 kindLoadTable = true ∧ isHeld (post 1 [0#8] running) 3 = false ∧
    tableOf (slotParam (post 1 [0#8] running) 3 0) = none ∧ see done (.loadTable 3) (post 1 [0#8] running) = (3, 3, 1, 0#8) ∧
    loadSlot (holdSlot 2 (.load .platform) (post 1 [7#8] running)) .platform = some 2 ∧
    see done (.loadTable 3) (holdSlot 2 (.load .platform) (post 1 [7#8] running)) = (3, 4, 2, 0#8) ∧
    validate .platform (holdSlot 3 (.load .platform) (setSlotState 3 slotActive (post 1 [7#8] running))) =
      some (.badField, 2) ∧
    see (fun t => (done t, slotParam t 3 1)) (.loadTable 3) (post 1 [7#8] running) = ((3, 7, 2, 0#8), 12) := by
  decide +kernel

theorem test_load_platform :
    see (fun t => (done t, t.power.table.longPress, t.power.table.heartbeatTimeout)) (.loadTable 3)
      (platformCopy (post 1 [7#8] running)) = ((3, 1, 0, 0#8), 6, 4) := by decide +kernel

/-- What the validation of the copy named in slot 3 finds. -/
def taken (t : TableId) (s : State) : Option (Reason × Nat) :=
  validate t (holdSlot 3 (.load t) (setSlotState 3 slotActive s))

/-- `running` with the button held for 6 s. -/
def holding : State := withPower (fun p => { p with heldMs := some 6000 }) (level .pwrbtn false running)

theorem test_witness_load_platform :
    taken .platform (platformCopy (post 1 [7#8] running)) = none ∧
    pressMetBy (readPlatform (platformCopy running).mem) running = false ∧
    pressMetBy (readPlatform (platformCopy running).mem) holding = true ∧
    see (fun t => (done t, t.power.state, t.power.shutdownCause)) (.loadTable 3) (platformCopy (post 1 [7#8] holding)) =
      ((3, 1, 0, 0#8), .shuttingDown, .longPress) := by decide +kernel

/-- A CHARGE_PROFILE copy: no charger sensor, one band of 100 % from 0.0 to 50.0 °C, critical_soc 20. -/
def profileCopy (s : State) : State :=
  storeBytes 0x1D20 [0#8, 0#8, 0xF4#8, 1#8, 100#8]
    (storeBytes 0x1D00 [0#8, 0#8, 0x20#8, 0x4E#8, 0#8, 0#8, 0xA0#8, 0x0F#8, 0xC0#8, 0x44#8, 95#8, 100#8, 75#8, 80#8, 255#8,
      1#8, 0#8, 0#8, 1#8, 0#8, 2#8, 0#8, 1#8, 0x14#8, 0x15#8, 1#8, 4#8, 1#8, 3#8, 1#8, 20#8] s)

theorem test_witness_load_profile :
    taken .chargeProfile (profileCopy (post 1 [4#8] running)) = none ∧
    see (fun t => (done t, t.chg.profile.criticalSoc, t.chg.dPk, t.chg.dCs, t.chg.written)) (.loadTable 3)
      (profileCopy (post 1 [4#8] (charging (fun c => { c with dPk := 40, dCs := 50 })))) =
      ((3, 1, 0, 0#8), 20, 100, 100, some ⟨0, 16000⟩) ∧
    see (fun t => (t.pack0.state, t.pack0.reason)) (.loadTable 3) (profileCopy (post 1 [4#8]
      (withPack .pack0 (fun p => { onlinePack 50 p with window := List.replicate 4 .nack }) (quietBus running)))) =
      (.lost, .nackLimit) := by decide +kernel

/-- A THERMAL copy with every slot disabled. -/
def thermalCopy (s : State) : State := storeBytes 0x1E00 [4#8, 20#8, 44#8, 1#8, 60#8, 0#8, 2#8, 0#8, 2#8, 0#8] s

theorem test_witness_load_thermal :
    taken .thermal (thermalCopy (post 1 [5#8] running)) = none ∧
    see (fun t => (done t, t.tripActive, t.chg.inhibit.thermal, slotOf t 0)) (.loadTable 3) (thermalCopy (post 1 [5#8]
      (withChg (fun c => { c with inhibit := ⟨false, false, true⟩ }) (tripped running)))) =
      ((3, 1, 0, 0#8), false, false, ⟨.unknown, 1100, false, 0, 0⟩) := by decide +kernel

/-- A KEYMAP copy whose position 0 is FN. -/
def keymapCopy (s : State) : State := storeBytes 0x1010 [1#8, 0xF0#8] (storeBytes 0x1000 [5#8] s)

theorem test_witness_load_keymap :
    validate .keymap (holdSlot 3 (.load .keymap) (setSlotState 3 slotActive (keymapCopy (post 1 [1#8] running)))) = none ∧
    see (fun t => (done t, t.kbd.keymap.base.head?)) (.loadTable 3) (keymapCopy (post 1 [1#8] running)) =
      ((3, 1, 0, 0#8), some 0xF001#16) := by decide +kernel

/-- A POLL_B copy with the port off: held while the round runs. -/
def pollCopy (s : State) : State :=
  storeBytes 0x1900 [0#8, 0#8, 25#8, 0#8, 0#8, 0#8, 0xFA#8, 0#8, 0xFA#8, 0#8, 0xFA#8, 0#8, 0xFA#8, 0#8] s

theorem test_witness_load_poll :
    validate .pollB (holdSlot 3 (.load .pollB) (setSlotState 3 slotActive (pollCopy (post 1 [3#8] running)))) = none ∧
    running.engineB.round = .running ∧
    see (fun t => (slotState t 3, loadSlot t .pollB)) (.loadTable 3) (pollCopy (post 1 [3#8] running)) =
      (slotActive, some 3) := by decide +kernel

theorem test_load_poll_at_once :
    see (fun t => (done t, t.portB.state, t.engineB.round)) (.loadTable 3) (pollCopy (post 1 [3#8] (quietBus running))) =
      ((3, 1, 0, 0#8), .disabled, .stopped) := by decide +kernel

/-- The POLL_B copy with the port on, and engine B in a round state. -/
def pollOn (s : State) : State := storeBytes 0x1900 [1#8] (pollCopy s)
def roundB (x : RoundState) : State := withEngine .b (fun e => { e with round := x, number := 65535 }) (quietBus running)

theorem test_witness_load_poll_without_round :
    taken .pollB (pollOn (post 1 [3#8] (roundB .waiting))) = none ∧ (roundB .waiting).engineB.round ≠ .running ∧
    see (fun t => (done t, t.engineB.round, t.engineB.number, t.engineB.interval)) (.loadTable 3)
      (pollOn (post 1 [3#8] (roundB .waiting))) = ((3, 1, 0, 0#8), .waiting, 65535, 250) ∧
    see (fun t => (done t, t.engineB.round, t.engineB.number)) (.loadTable 3) (pollOn (post 1 [3#8] (roundB .stopped))) =
      ((3, 1, 0, 0#8), .waiting, 0) ∧
    see (fun t => t.portB.state) (.loadTable 3) (pollOn (post 1 [3#8]
      (withPort .b (fun x => { x with state := .disabled }) (roundB .stopped)))) = .idle ∧
    see (fun t => (t.engineB.timerMs, t.portB.state, (slotOf t 2).state)) (.loadTable 3)
      (pollCopy (post 1 [3#8] (roundB .waiting))) = (none, .disabled, .stale) := by decide +kernel

/-- A POLL_A copy with the seven core fields of pack 0. -/
def pollACopy (s : State) : State :=
  storeBytes 0x1540 ((List.range 7).flatMap fun f =>
      [0#8, 1#8, BitVec.ofNat 8 (0x41 + f), 2#8, 0#8, 0#8, 0#8, 1#8, 2#8, 0#8, BitVec.ofNat 8 f] ++ List.replicate 5 0#8)
    (storeBytes 0x1520 [0x30#8, 1#8, 1#8, 0#8, 0x31#8, 1#8, 2#8, 0#8, 0x28#8]
      (storeBytes 0x1500 [1#8, 0#8, 25#8, 3#8, 7#8, 0x50#8, 0xFA#8, 0#8, 0xFA#8, 0#8, 0xFA#8, 0#8, 0xFA#8, 0#8] s))

theorem test_witness_load_poll_a :
    taken .pollA (pollACopy (post 1 [2#8] running)) = none ∧
    see (fun t => (done t, t.engineA.list.entries.length, t.engineA.number)) (.loadTable 3)
      (pollACopy (post 1 [2#8] (quietBus running))) = ((3, 1, 0, 0#8), 7, 1) := by decide +kernel

theorem test_witness_transfer :
    postedKind (post 2 readWord running) 3 kindBusTransfer = true ∧ transferFault (post 2 readWord running) 3 = none ∧
    transferFault (post 2 [2#8] running) 3 = some 1 ∧
    see done (.busTransfer 3) (post 2 [2#8] running) = (3, 3, 1, 0#8) ∧
    see (fun t => (t.portA.hosts, slotState t 3)) (.busTransfer 3) (post 2 readWord running) = ([3], slotActive) ∧
    see (fun t => (t.portA.granted, t.portA.hosts)) (.busTransfer 3) (post 2 readWord (idleBus running)) =
      (some (.host 3), []) ∧
    see done (.busTransfer 3) (post 2 readWord (halted false (some 0))) = (3, 14, 1, 0#8) ∧
    see done (.busTransfer 3) (post 2 readWord (withPort .a (fun x => { x with state := .disabled }) (quietBus running))) =
      (3, 14, 2, 0#8) := by decide +kernel

theorem test_witness_bus_reset :
    see done (.busReset 3) (post 3 [2#8] running) = (3, 3, 1, 0#8) ∧
    see done (.busReset 3) (post 3 [1#8] running) = (3, 1, 0, 0#8) ∧
    see (fun t => (t.portA.state, t.portA.busReset, slotState t 3, t.chg.inhibit.port)) (.busReset 3)
      (post 3 [0#8] (halted false (some 0))) = (.recovering, some 3, slotActive, false) := by decide +kernel

def seated (f : Pack → Pack) : State := withPack .pack0 f (level .presence0 true (quietBus running))

theorem test_witness_probe_pack :
    packOfNat (post 4 [1#8] running) 1 = none ∧ see done (.probePack 3) (post 4 [1#8] running) = (3, 3, 1, 0#8) ∧
    see done (.probePack 3) (post 4 [0#8] running) = (3, 16, 0, 0#8) ∧
    see done (.probePack 3) (post 4 [0#8] (seated (fun p => { p with state := .probing, request := some 5 }))) =
      (3, 4, 0, 0#8) ∧
    see (fun t => (t.pack0.state, t.pack0.reason, t.pack0.request, slotState t 3)) (.probePack 3)
      (post 4 [0#8] (seated (onlinePack 50))) = (.probing, .request, some 3, slotActive) ∧
    see (fun t => t.pack0.request) (.probePack 3)
      (post 4 [0#8] (seated (fun p => { p with state := .lost, probe := some ⟨2, 0x30, true⟩ }))) = some 3 := by
  decide +kernel

/-- A pack that waits for a round start: the probe starts at once (its recovery step ends on the free bus), the failure
count stays. -/
theorem test_witness_probe_pack_waiting :
    (seated (fun p => { p with state := .probing, failures := 2 })).pack0.probe = none ∧
    see (fun t => (t.pack0.state, t.pack0.failures, t.pack0.request, t.pack0.probe.map (·.step))) (.probePack 3)
      (post 4 [0#8] (seated (fun p => { p with state := .probing, failures := 2 }))) = (.probing, 2, some 3, some 2) := by
  decide +kernel

theorem test_witness_override :
    (post 5 [40#8, 101#8, 0xFF#8, 0xFF#8] watching).overrideValid = true ∧ running.overrideValid = false ∧
    capOf 0xFFFF = some none ∧ capOf 0 = some (some 0) ∧ capOf 128 = some (some 128) ∧ capOf 64 = none ∧
    see done (.setOverride 3) (post 5 [101#8] watching) = (3, 3, 1, 0#8) ∧
    see done (.setOverride 3) (post 5 [40#8, 101#8, 0xFF#8, 0xFF#8] watching) = (3, 3, 2, 0#8) ∧
    see done (.setOverride 3) (post 5 [40#8, 0#8, 64#8, 0#8] watching) = (3, 3, 3, 0#8) ∧
    see (fun t => (done t, t.th.fan0.override, t.chg.cap)) (.setOverride 3) (post 5 [40#8, 0#8, 0#8, 1#8] watching) =
      ((3, 1, 0, 0#8), 40, some 256) ∧
    see done (.setOverride 3) (post 5 [40#8, 0#8, 0#8, 1#8] running) = (3, 5, 0, 0#8) := by decide +kernel

theorem test_witness_charge_mode :
    see (fun t => (done t, t.chg.mode)) (.setChargeMode 3) (post 6 [1#8] running) = ((3, 1, 0, 0#8), .conserve) ∧
    see (fun t => (done t, t.chg.mode)) (.setChargeMode 3) (post 6 [0#8] running) = ((3, 1, 0, 0#8), .full) ∧
    see done (.setChargeMode 3) (post 6 [2#8] running) = (3, 3, 1, 0#8) := by decide +kernel

theorem test_witness_power_request :
    see done (.setPowerState 3) (post 7 [2#8] running) = (3, 3, 1, 0#8) ∧
    see done (.setPowerState 3) (post 7 [0#8, 0#8, 0xE9#8, 3#8] running) = (3, 3, 2, 0#8) ∧
    see done (.setPowerState 3) (post 7 [0#8, 0#8, 0xE8#8, 3#8] (inState .sleep)) = (3, 5, 0, 0#8) ∧
    see done (.setPowerState 3) (post 7 [0#8, 0#8, 0xE8#8, 3#8] (delaying running)) = (3, 4, 0, 0#8) ∧
    wakePending (level .pwrbtn false running) .sleep = true ∧ wakePending running .off = false ∧
    wakePending (withPower (fun p => { p with ignore := true }) (level .pwrbtn false running)) .sleep = false ∧
    see done (.setPowerState 3) (post 7 [0#8, 0#8, 0xE8#8, 3#8] (level .pwrbtn false running)) = (3, 6, 0, 0#8) := by
  decide +kernel

theorem test_witness_power_request_accepted :
    see (fun t => (done t, t.power.delay)) (.setPowerState 3) (post 7 [0#8, 0#8, 0xE8#8, 3#8] running) =
      ((3, 1, 0, 0#8), some ⟨.sleep, 1000, 0⟩) ∧
    see (fun t => (t.power.state, t.power.shutdownCause)) (.setPowerState 3) (post 7 [1#8] running) =
      (.shuttingDown, .request) ∧
    see (fun t => t.power.state) (.setPowerState 3) (post 7 [0#8] running) = .suspending := by decide +kernel

theorem test_witness_warm_restart :
    postedKind (post 8 [] running) 3 kindWarmRestart = true ∧
    see (fun t => (done t, t.queue.write, t.link.alertCause, t.link.partTime, t.power.state))
      (.warmRestart 3) (post 8 [] { watching with link := { watching.link with partTime := 77#32, alertCause := 4#32 } }) =
      ((3, 1, 0, 0#8), 1, 3#32, 0#32, .run) ∧
    see (fun t => (slotState t 5, slotState t 6, t.power.heartbeat)) (.warmRestart 3)
      (slotAt 5 slotActive 2 [] (slotAt 6 slotDone 2 [] (post 8 [] watching))) = (slotFree, slotDone, .disarmed) := by
  decide +kernel

/-! ### Frames and invariants -/

theorem test_witness_register_frame :
    after .partTimeTick running ≠ running ∧ (after .partTimeTick running).link.alertEnable = running.link.alertEnable ∧
    see (fun t => t.link.alertCause) .lidChange (counted .lid false running) = 2#32 := by decide +kernel

theorem test_witness_memory_and_counts :
    Memory.wf (after .lidChange (counted .lid false running)).mem = true ∧
    (after .lidChange (counted .lid false running)).link.gens.all (fun g => !g.getLsbD 0) = true ∧
    Memory.wf (counted .lid false running).mem = true ∧ (counted .lid false running).link.gens.all (fun g => !g.getLsbD 0) := by
  decide +kernel

theorem test_witness_unlisted_bits : unlistedBitsClear running := by unfold unlistedBitsClear; decide +kernel
theorem test_witness_indices : indicesInRing running := by unfold indicesInRing; decide +kernel
theorem test_witness_key_table : keyTableBounded keyDown := by unfold keyTableBounded; decide +kernel
theorem test_witness_windows : faultWindowsBounded running := by
  unfold faultWindowsBounded; intro k; cases k <;> decide +kernel
theorem test_witness_fairness : fairnessBounded running := by
  unfold fairnessBounded; intro p; cases p <;> decide +kernel
theorem test_witness_rows : pollRowsWhole running := by
  unfold pollRowsWhole; intro p; cases p <;> decide +kernel
theorem test_witness_slots_positions : slotsWhole running ∧ positionsWhole running := by
  unfold slotsWhole positionsWhole; decide +kernel
theorem test_witness_inhibited : inhibitedExactly (halted true none) := by unfold inhibitedExactly; decide +kernel
theorem test_witness_thermal_cause : thermalCauseExactly running := by unfold thermalCauseExactly; decide +kernel

theorem test_witness_scan_mode :
    scanModeDecided running ∧ noUpdateDue running ∧ scanModeDecided (after .lidChange (counted .lid false running)) ∧
    noUpdateDue (after .lidChange (counted .lid false running)) := by
  unfold scanModeDecided noUpdateDue; decide +kernel

/-! ### Outputs, narrow reads, single updates -/

/-- R31, R33: the column drive of the scan modes and of a pin reset. -/
theorem test_column_drive :
    columnDrive running = .inTurn 16 ∧ columnDrive (inState .run) = .released ∧ columnDrive wakeScan = .together 16 ∧
    columnDrive { running with inReset := true } = .released := by decide +kernel

/-- R178: IDENT by bytes. -/
theorem test_narrow_reads : registerByte running 0 = 0x02#8 ∧ registerByte running 1 = 0x40#8 := by decide +kernel

/-- R72, R78: the end of a work unit with its grant is one event, one update of the port record. -/
theorem test_one_event_one_update :
    (hostOnBus .b running).gen (.port .b) = 2#16 ∧
    see (fun t => (t.gen (.port .b), t.portB.granted)) (.transactionEnd .b (.ran ⟨none, []⟩) free)
      (withPort .b (fun x => { x with hosts := [4] }) (hostOnBus .b running)) = (4#16, some (.host 4)) := by decide +kernel

/-- R10, R152: a wake condition that stands at the trip's end is taken then. -/
theorem test_wake_at_trip_end :
    see (fun t => (t.power.state, t.tripActive)) (.thermalUpdate (.temperature 300) (.temperature 300))
      (withChg (fun c => { c with inhibit := ⟨false, false, true⟩ }) (tripped
        (withPower (fun p => { p with table := { p.table with acp := ⟨true, true, true, false⟩ } })
          (level .acp true (inState .off))))) = (.waking, false) := by decide +kernel

/-- A front command on the queue runs as a step of the whole part. -/
theorem test_witness_step :
    step { running with pending := [.lidChange] } = .next (after .lidChange running) := by rfl

end Sys2Proof.Tests
end

section
/-! PROOF. The holds of the charge controller (R133): the order in which `holdReason` tries them, and the record that
`computeFor` leaves when one applies. -/
namespace Sys2Proof.Proofs.ChargeHolds

open Sys2Proof.Machine Sys2Proof.Safety

/-! ### The holds in their order -/

/-- R133: the one hold that the model decides by a Boolean test over a list is the age test; the other four are its conditions
as they stand. -/
theorem holdReason_eq (s : State) (k : PackId) :
    holdReason s k =
      (if ∃ a ∈ (s.pack k).ages, a = none ∨ ∃ n, a = some n ∧ 3 < n then some .stale
      else if (s.pack k).values.voltage < 4000 ∨ 20000 < (s.pack k).values.voltage then some .implausible
      else if s.chg.latch = true then some .target
      else if s.chg.cap = some 0 then some .override
      else if (s.pack k).values.reqCurrent = 0 ∨ (s.pack k).values.reqVoltage = 0 then some .request
      else none) := by
  unfold holdReason
  refine ite_congr (propext (List.any_eq_true.trans (exists_congr fun a => and_congr_right fun _ => ?_)))
    (fun _ => rfl) (fun _ => rfl)
  cases a with
  | none => simp
  | some n => simp

/-! ### What a hold leaves -/

/-- R128, R132 step 3: the charge record as the holds see it, with the latch decided from the pack's soc. -/
def latched (s : State) (k : PackId) : Charge :=
  { s.chg with latch := decideLatch s.chg (s.pack k).values.soc, switchWaiting := false }

/-- R133: under a hold the computation is the latched record with only state, reason and desired pair replaced. -/
theorem computeFor_of_hold {s : State} {k : PackId} {r : LimitReason}
    (hold : holdReason { s with chg := latched s k } k = some r) :
    computeFor s k =
      { latched s k with state := .holding, limit := r, desired := ⟨0, restVoltage s.chg⟩ } := by
  unfold latched at hold
  simp only [computeFor, hold]
  rfl

/-- Settles O34: the order by `holdReason_eq`, the fields under a hold read off `computeFor_of_hold`. -/
theorem chargeHolds : Obligations.ChargeHolds := by
  intro s k
  refine ⟨holdReason_eq s k, fun r hold => ?_⟩
  rw [computeFor_of_hold hold]
  exact ⟨rfl, rfl, rfl, rfl, rfl, rfl⟩

end Sys2Proof.Proofs.ChargeHolds
end

section
/-! PROOF. The alert line (R180): the Boolean level that `alertAsserted` computes from the whole words, read bit by bit as the
rule states it. -/
namespace Sys2Proof.Proofs.AlertLine

open Sys2Proof.Machine

/-- R180: the line as the model computes it: out of reset, in RUN, and the two words meet. -/
theorem alertAsserted_iff (s : State) :
    alertAsserted s = true ↔
      s.inReset = false ∧ s.power.state = .run ∧ s.link.alertCause &&& s.link.alertEnable ≠ 0#32 := by
  simp only [alertAsserted, Bool.and_eq_true, Bool.not_eq_true', beq_iff_eq, bne_iff_ne, and_assoc]

/-- R180: the words of the causes and of the enables meet exactly where one bit stands in both. -/
theorem and_ne_zero_iff_exists_getLsbD {w : Nat} (cause enable : BitVec w) :
    cause &&& enable ≠ 0#w ↔ ∃ i, cause.getLsbD i = true ∧ enable.getLsbD i = true := by
  constructor
  · intro meet
    refine Classical.byContradiction fun noBit => meet (BitVec.eq_of_getLsbD_eq fun i _ => ?_)
    have apart : ¬ (cause &&& enable).getLsbD i = true := fun both =>
      noBit ⟨i, by rwa [BitVec.getLsbD_and, Bool.and_eq_true] at both⟩
    rw [BitVec.getLsbD_zero]
    exact Bool.eq_false_iff.mpr apart
  · rintro ⟨i, set, enabled⟩ zero
    have bit : (cause &&& enable).getLsbD i = true := by
      rw [BitVec.getLsbD_and, set, enabled, Bool.and_self]
    rw [zero, BitVec.getLsbD_zero] at bit
    exact Bool.false_ne_true bit

/-- Settles O43: the level by `alertAsserted_iff`, a set and enabled cause by `and_ne_zero_iff_exists_getLsbD`; the premise on
RESET_N discharges the part that log 31 adds to the rule. -/
theorem alertLine : Obligations.AlertLine := by
  intro s high
  rw [alertAsserted_iff, and_ne_zero_iff_exists_getLsbD]
  exact and_iff_right high

end Sys2Proof.Proofs.AlertLine
end

section
/-! PROOF. What a command may move, as one table over the commands, and the invariants that every command keeps whatever it
moves. Each command's meaning is a change of the fields it names followed by functions that the laws of `Keeps` cover. -/
set_option Elab.async false

namespace Sys2Proof.Proofs.Commands

open Sys2Proof Sys2Proof.Machine Sys2Proof.Safety Sys2Proof.Laws

/-! ### The table -/

/-- The fields that only some commands move: the levels on the pins, the strap image, the filtered levels, the three
registers, the part time, the offset of the last discarded write; `clears` says that an alert cause may be cleared. -/
structure Moves where
  pins : Bool := false
  straps : Bool := false
  levels : Bool := false
  enables : Bool := false
  control : Bool := false
  time : Bool := false
  offset : Bool := false
  clears : Bool := false

/-- What a restart from the pins moves. -/
def Moves.everything : Moves := ⟨true, true, true, true, true, true, true, true⟩

/-- What each command may move; the commands not listed move none of it. -/
def moves : Instr → Moves
  | .coldStart _ | .pinResetRelease _ _ _ | .powerGoodFall _ => .everything
  | .railWaitTimeout | .combinationTimerExpiry => { Moves.everything with pins := false }
  | .warmRestart _ => { time := true, clears := true }
  | .rawInputChange _ _ | .powerGoodRise _ | .rawRowChange _ | .transactionEnd _ _ _ | .recoveryAttemptEnd _ _
  | .roundStart _ _ => { pins := true }
  | .lidChange | .adapterChange | .packPresenceChange _ | .auxWakeChange | .buttonPress | .buttonRelease =>
    { levels := true }
  | .partTimeTick => { time := true }
  | .hostWindowWrite _ _ | .heartbeatWrite _ _ | .cancelWrite _ | .slotFreeWrite _ | .readIndexWrite _ =>
    { offset := true }
  | .alertCauseWrite _ _ => { clears := true }
  | .alertEnableWrite _ _ => { enables := true }
  | .windowCtrlWrite _ _ => { control := true }
  | _ => {}

/-- The invariants, each kept from its own premise alone, and the queue of waiting commands. -/
structure Sound (s t : State) : Prop where
  pending : t.pending = s.pending
  unlisted : unlistedBitsClear s → unlistedBitsClear t
  memory : memoryCanonical s → memoryCanonical t
  even : countsEven s → countsEven t
  ring : indicesInRing s → indicesInRing t
  keys : keyTableBounded s → keyTableBounded t
  windows : faultWindowsBounded s → faultWindowsBounded t
  fairness : fairnessBounded s → fairnessBounded t
  rows : pollRowsWhole s → pollRowsWhole t
  slots : slotsWhole s → slotsWhole t
  positions : positionsWhole s → positionsWhole t
  inhibit : inhibitedExactly s → inhibitedExactly t
  thermal : thermalCauseExactly s → thermalCauseExactly t

/-- A sound change that moves at most what `m` names. -/
structure Carries (m : Moves) (s t : State) : Prop extends Sound s t where
  pins : m.pins = false → t.pins = s.pins
  straps : m.straps = false → t.power.straps = s.power.straps
  levels : m.levels = false → t.power.levels = s.power.levels
  enables : m.enables = false → t.link.alertEnable = s.link.alertEnable
  control : m.control = false → t.link.windowCtrl = s.link.windowCtrl
  time : m.time = false → t.link.partTime = s.link.partTime
  offset : m.offset = false → t.link.lastProtocol = s.link.lastProtocol
  causes : m.clears = false → ∀ i, s.link.alertCause.getLsbD i = true → t.link.alertCause.getLsbD i = true

theorem Sound.refl (s : State) : Sound s s := ⟨rfl, id, id, id, id, id, id, id, id, id, id, id, id⟩

theorem Sound.trans {s t u : State} (a : Sound s t) (b : Sound t u) : Sound s u where
  pending := b.pending.trans a.pending
  unlisted := b.unlisted ∘ a.unlisted
  memory := b.memory ∘ a.memory
  even := b.even ∘ a.even
  ring := b.ring ∘ a.ring
  keys := b.keys ∘ a.keys
  windows := b.windows ∘ a.windows
  fairness := b.fairness ∘ a.fairness
  rows := b.rows ∘ a.rows
  slots := b.slots ∘ a.slots
  positions := b.positions ∘ a.positions
  inhibit := b.inhibit ∘ a.inhibit
  thermal := b.thermal ∘ a.thermal

theorem Carries.refl (m : Moves) (s : State) : Carries m s s :=
  { toSound := Sound.refl s, pins := fun _ => rfl, straps := fun _ => rfl, levels := fun _ => rfl, enables := fun _ => rfl
    control := fun _ => rfl, time := fun _ => rfl, offset := fun _ => rfl, causes := fun _ _ h => h }

theorem Carries.trans {m : Moves} {s t u : State} (a : Carries m s t) (b : Carries m t u) : Carries m s u where
  toSound := a.toSound.trans b.toSound
  pins h := (b.pins h).trans (a.pins h)
  straps h := (b.straps h).trans (a.straps h)
  levels h := (b.levels h).trans (a.levels h)
  enables h := (b.enables h).trans (a.enables h)
  control h := (b.control h).trans (a.control h)
  time h := (b.time h).trans (a.time h)
  offset h := (b.offset h).trans (a.offset h)
  causes h i hi := b.causes h i (a.causes h i hi)

/-- A choice between two functions. -/
theorem Carries.ite {m : Moves} {s a b : State} {c : Prop} [Decidable c] (ha : Carries m s a) (hb : Carries m s b) :
    Carries m s (if c then a else b) := by split <;> assumption

/-- Whatever the laws cover moves nothing of the table. -/
theorem carries_of_keeps {m : Moves} {s t : State} (k : Keeps true s t) : Carries m s t where
  pending := k.pending
  unlisted h := ⟨k.unlisted h.1, k.alertEnable ▸ h.2.1, k.windowCtrl ▸ h.2.2⟩
  memory := k.memory
  even := k.even
  ring := k.ring
  keys := k.keys
  windows := k.windows
  fairness := k.fairness
  rows := k.rows
  slots := k.slotsKept
  positions := k.positions
  inhibit := k.inhibit
  thermal := k.thermal rfl
  pins _ := k.pins
  straps _ := k.straps
  levels _ := k.levels
  enables _ := k.alertEnable
  control _ := k.windowCtrl
  time _ := k.partTime
  offset _ := k.lastProtocol
  causes _ := k.causesStay

theorem Carries.then {m : Moves} {s t u : State} (a : Carries m s t) (k : Keeps true t u) : Carries m s u :=
  a.trans (carries_of_keeps k)

/-! ### The shapes of a meaning -/

/-- A command completes and carries the state as its row of the table says. -/
def Completes (m : Moves) (s : State) (a : Answer) : Prop := ∃ t, a = .next t ∧ Carries m s t

theorem completes_next {m : Moves} {s t : State} (h : Carries m s t) : Completes m s (.next t) := ⟨t, rfl, h⟩

theorem completes_quiet {m : Moves} {f : State → State} {s : State} (h : Carries m s (f s)) :
    Completes m s (quiet f s) := completes_next (Carries.ite (Carries.refl m s) h)

theorem completes_event {m : Moves} {f : State → State} {s : State} (h : Carries m s (f s)) :
    Completes m s (event f s) := completes_quiet (h.then (keeps_settle _))

theorem completes_event_of_keeps {m : Moves} {f : State → State} {s : State} (h : Keeps true s (f s)) :
    Completes m s (event f s) := completes_event (carries_of_keeps h)

theorem completes_due {m : Moves} {b : Bool} {f : State → State} {s : State} (h : Carries m s (f s)) :
    Completes m s (event (when_ b f) s) := completes_event (Carries.ite h (Carries.refl m s))

theorem completes_due_of_keeps {m : Moves} {b : Bool} {f : State → State} {s : State} (h : Keeps true s (f s)) :
    Completes m s (event (when_ b f) s) := completes_due (carries_of_keeps h)

/-! ### Restarts -/

/-- R145, R167: a unit state built by `startUnits` has no inhibit cause and no trip; what the controller and the thermal unit were
before does not matter. -/
theorem startUnits_sound {p : ChargeProfile} {c : ChargeMode} {s t : State}
    (h : Sound s { t with chg := s.chg, th := s.th }) (six : t.th.slots.length = 6) (untripped : t.tripActive = false) :
    Sound s (startUnits p c t) := by
  have fans : Low true t (startFans t) := low_startFans t
  have idle : inhibitedExactly (startUnits p c t) := by
    unfold inhibitedExactly startUnits resetCharge
    dsimp only
    split <;> simp [inhibited]
  have calm : thermalCauseExactly (startUnits p c t) := by
    show false = (startFans t).tripActive
    rw [tripActive_of_slots fans.slots, untripped]
  have k := (carries_of_keeps (m := {}) fans.toKeeps).toSound
  exact {
    pending := k.pending.trans h.pending, unlisted := fun x => k.unlisted (h.unlisted x)
    memory := fun x => k.memory (h.memory x), even := fun x => k.even (h.even x), ring := fun x => k.ring (h.ring x)
    keys := fun x => k.keys (h.keys x), windows := fun x => k.windows (h.windows x)
    fairness := fun x => k.fairness (h.fairness x), rows := fun x => k.rows (h.rows x), slots := fun _ => k.slots six
    positions := fun x => k.positions (h.positions x), inhibit := fun _ => idle, thermal := fun _ => calm }

/-- The reset values of every unit are sound whatever stood before. -/
theorem resetValues_sound (i : StrapImage) (c : Cause) (d : Option PackId) (s : State) :
    Sound s (resetValues i c d s) :=
  startUnits_sound
    { Sound.refl s with
      unlisted := fun _ => ⟨BitVec.zero_and, BitVec.zero_and, BitVec.zero_and⟩
      memory := fun _ => rfl
      even := fun _ g hg => by rw [List.eq_of_mem_replicate hg]; rfl
      ring := fun _ => ⟨Nat.zero_lt_succ 127, Nat.zero_lt_succ 127⟩
      keys := fun _ => Nat.zero_le 12
      windows := fun _ k => by cases k <;> exact Nat.zero_le 8
      fairness := fun _ p => by cases p <;> exact Nat.zero_le 4
      rows := fun _ p => by cases p <;> rfl
      positions := fun _ => rfl } rfl rfl

theorem carries_restartFromPins (m : Moves) (h : m = { Moves.everything with pins := m.pins }) (s : State) :
    Carries m s (restartFromPins s) := by
  rw [h]
  exact Carries.then
    { toSound := resetValues_sound _ _ _ s, pins := fun _ => (low_startFans _).pins
      straps := Bool.noConfusion, levels := Bool.noConfusion, enables := Bool.noConfusion
      control := Bool.noConfusion, time := Bool.noConfusion, offset := Bool.noConfusion, causes := Bool.noConfusion }
    (keeps_beginAgain _)

/-- R19: with a combination restart behind it, a command of the power controller carries what a restart carries. -/
theorem carries_withCombinationRestart {m : Moves} (h : m = { Moves.everything with pins := m.pins }) {f : State → State}
    {s : State} (hf : Carries m s (f s)) : Carries m s (withCombinationRestart f s) :=
  Carries.ite (hf.trans (carries_restartFromPins m h _)) hf

/-- R29, R56, R80, R100, R122, R146, R168: the warm restart's values are sound whatever stood before. -/
theorem carries_warmValues (s : State) : Carries {} s (warmValues s) :=
  { toSound := startUnits_sound
      { Sound.refl s with
        keys := fun _ => Nat.zero_le 12
        windows := fun _ k => by cases k <;> exact Nat.zero_le 8
        fairness := fun _ p => by cases p <;> exact Nat.zero_le 4
        rows := fun _ p => by cases p <;> rfl
        positions := fun _ => rfl } rfl rfl
    pins := fun _ => (low_startFans _).pins
    straps := fun _ => (low_startFans _).straps
    levels := fun _ => (low_startFans _).levels
    enables := fun _ => (low_startFans _).alertEnable
    control := fun _ => (low_startFans _).windowCtrl
    time := fun _ => (low_startFans _).partTime
    offset := fun _ => (low_startFans _).lastProtocol
    causes := fun _ i h => (low_startFans _).causesStay i h }

theorem Carries.widen {m : Moves} {s t : State} (h : Carries {} s t) : Carries m s t :=
  { toSound := h.toSound, pins := fun _ => h.pins rfl, straps := fun _ => h.straps rfl, levels := fun _ => h.levels rfl
    enables := fun _ => h.enables rfl, control := fun _ => h.control rfl, time := fun _ => h.time rfl
    offset := fun _ => h.offset rfl, causes := fun _ => h.causes rfl }

/-- R196: a warm restart clears the causes and the part time. -/
theorem carries_warmRestart (n : Nat) (s : State) : Carries { time := true, clears := true } s (warmRestart n s) := by
  have cleared : Carries { time := true, clears := true } s { s with link := restartLink s.link, posted := [] } :=
    { Carries.refl _ s with unlisted := fun h => ⟨BitVec.zero_and, h.2⟩, time := Bool.noConfusion, causes := Bool.noConfusion }
  unfold warmRestart
  refine Carries.then ?_ ((((mid_dischargeDecision _).toKeeps.after (keeps_handPresence _)).trans
    (keeps_firstRound .a _)).trans (keeps_firstRound .b _))
  refine Carries.then ?_ (((keeps_completeSlot _ _ _ _ _).trans (low_scanModeDecision _).toKeeps).trans
    ((low_evaluate _).toKeeps.trans (keeps_handPortState _)))
  exact (((cleared.then (keeps_freeSlots _ _ _)).trans (carries_warmValues _).widen).then (keeps_publishAll _ _)).then
    (keeps_restartQueue _)

/-! ### Levels and pins -/

theorem carries_pins (p : PinLevels) (s : State) : Carries { pins := true } s { s with pins := p } :=
  { Carries.refl _ s with pins := Bool.noConfusion }

theorem carries_setLine (p : PortId) (l : BusLine) (s : State) : Carries { pins := true } s (s.setLine p l) := by
  cases p <;> exact carries_pins _ s

theorem carries_setPowerGood (r : Rail) (b : Bool) (s : State) : Carries { pins := true } s (setPowerGood r b s) := by
  cases r <;> exact carries_pins _ s

theorem carries_power {m : Moves} (p : Power) (s : State) (hs : p.straps = s.power.straps)
    (hl : m.levels = false → p.levels = s.power.levels) : Carries m s { s with power := p } :=
  { Carries.refl m s with straps := fun _ => hs, levels := hl }

/-- The update of the platform record that goes with a change. -/
theorem carries_updatingPower {m : Moves} {f : State → State} {s : State} (h : Carries m s (f s)) :
    Carries m s (updatingPower f s) :=
  Carries.ite h (h.then (low_publish .platform _).toKeeps)

theorem carries_rawInput (i : FilteredInput) (b : Bool) (s : State) : Carries { pins := true } s (rawInput i b s) :=
  Carries.ite (carries_pins _ s) ((carries_pins _ s).trans (carries_power _ _ rfl fun _ => rfl))

theorem carries_rawRowChange (b : Bool) (s : State) : Carries { pins := true } s (rawRowChange b s) := by
  have pinned : Carries { pins := true } s { s with pins := { s.pins with rowActive := b } } := carries_pins _ s
  unfold rawRowChange rawRow
  refine Carries.ite pinned (Carries.ite (pinned.then ?_) pinned)
  exact Mid.toKeeps (Low.toMid (low_kbd _ _ rfl id))

theorem carries_publishLevel (i : FilteredInput) (s : State) : Carries { levels := true } s (publishLevel i s) :=
  carries_updatingPower (carries_power _ s rfl Bool.noConfusion)

theorem carries_lidChange (s : State) : Carries { levels := true } s (lidChange s) := by
  unfold lidChange
  refine (carries_publishLevel .lid s).then (Mid.toKeeps (mid_eitherOrder _ _ _ (fun x => ?_) fun x => ?_))
  · exact Mid.ite (mid_offer _ x) (Mid.refl true x)
  · exact (low_scanModeDecision x).toMid

theorem carries_adapterChange (s : State) : Carries { levels := true } s (adapterChange s) := by
  have published : Carries { levels := true } s (publishAdapter s) := by
    refine carries_updatingPower ?_
    exact carries_power _ s rfl Bool.noConfusion
  refine published.then (mid_eitherOrder _ _ _ (fun x => ?_) fun x => ?_).toKeeps
  · refine mid_anyOrder _ _ _ x mid_dischargeDecision (fun y => (low_evaluate y).toMid) fun y => ?_
    exact Mid.ite (mid_offer _ y) (Mid.refl true y)
  · exact Mid.ite (mid_powerOn _ x) (Mid.refl true x)

theorem carries_presenceChange (k : PackId) (s : State) : Carries { levels := true } s (presenceChange k s) :=
  (carries_publishLevel _ s).then (Keeps.ite (keeps_presenceRise k _) (keeps_presenceFall k _))

/-! ### Host writes -/

/-- R171: a stored write that touches the read index has a value that the queue allows. -/
theorem readIndex_in_ring {s : State} {w : WindowWrite} (allowed : writeAllowed s w = true)
    (sig : significance s w = .readIndex) : readIndexIfStored s w < 128 := by
  have touches : (touched w).any (fun o => accessClass o == .queueIndex) = true := by
    unfold significance at sig
    split at sig
    · cases sig
    · split at sig
      · assumption
      · split at sig <;> cases sig
  obtain ⟨o, mem, cls⟩ := List.any_eq_true.mp touches
  have ok := List.all_eq_true.mp allowed o mem
  unfold byteAllowed at ok
  rw [beq_iff_eq.mp cls] at ok
  unfold readIndexAllowed at ok
  exact of_decide_eq_true (Bool.and_eq_true_iff.mp ok).1

theorem sound_readIndex {s : State} (n : Nat) (h : n < 128) :
    Carries {} s { s with queue := { s.queue with read := n } } :=
  { Carries.refl {} s with ring := fun r => ⟨r.1, h⟩ }

theorem carries_storeWrite {s : State} {w : WindowWrite} (allowed : writeAllowed s w = true) :
    Carries {} s (storeWrite s w) := by
  have stored : Keeps true s (storeBytes w.offset w.bytes s) := (low_storeBytes _ _ s).toKeeps
  unfold storeWrite
  cases sig : significance s w with
  | plain => exact carries_of_keeps stored
  | heartbeat => exact carries_of_keeps (stored.trans (mid_heartbeatEvent _).toKeeps)
  | readIndex => exact (sound_readIndex _ (readIndex_in_ring allowed sig)).then (low_roomEvent _).toKeeps
  | cancel n => exact carries_of_keeps (stored.trans (keeps_cancelEvent n _))

theorem carries_discardWrite (s : State) (w : WindowWrite) : Carries { offset := true } s (discardWrite s w) := by
  have turn : Carries { offset := true } s (if offsetsDiffer s w then useTurn s else s) :=
    Carries.ite (carries_of_keeps (mid_useTurn s).toKeeps) (Carries.refl _ s)
  have noted : ∀ (o : Nat) (x : State), Carries { offset := true } x (noteDiscard o x) := fun o x =>
    (({ Carries.refl _ x with offset := Bool.noConfusion } : Carries { offset := true } x
        { x with link := { x.link with lastProtocol := BitVec.ofNat 16 o } }).then
      (low_setCause causeProtocol _ (by decide)).toKeeps).then (low_publish .platform _).toKeeps
  exact turn.trans (noted _ _)

theorem carries_windowWrite (w : WindowWrite) (s : State) : Carries { offset := true } s (windowWrite w s) := by
  unfold windowWrite
  split
  · next allowed => exact Carries.widen (carries_storeWrite allowed)
  · exact Carries.ite (Carries.refl _ s) (carries_discardWrite s w)

theorem carries_hostWrite (a : Word32) (b : List Byte) (s : State) : Carries { offset := true } s (hostWrite a b s) :=
  Carries.ite (carries_windowWrite _ s) (Carries.refl _ s)

/-! ### Registers and the part time -/

theorem and_not_mask {x y m : Word32} (h : x &&& ~~~m = 0#32) : (x &&& y) &&& ~~~m = 0#32 := by
  rw [BitVec.and_assoc, BitVec.and_comm y, ← BitVec.and_assoc, h, BitVec.zero_and]

theorem masked_and_not_mask (x m : Word32) : (x &&& m) &&& ~~~m = 0#32 := by
  rw [BitVec.and_assoc, BitVec.and_not_self]
  exact BitVec.and_zero

theorem carries_clearCauses (f : Nat) (b : List Byte) (s : State) :
    Carries { clears := true } s { s with link := clearCauses f b s.link } :=
  { Carries.refl _ s with unlisted := fun h => ⟨and_not_mask h.1, h.2⟩, causes := Bool.noConfusion }

theorem carries_writeEnables (f : Nat) (b : List Byte) (s : State) :
    Carries { enables := true } s { s with link := writeEnables f b s.link } :=
  { Carries.refl _ s with unlisted := fun h => ⟨h.1, masked_and_not_mask _ _, h.2.2⟩, enables := Bool.noConfusion }

theorem carries_writeControl (f : Nat) (b : List Byte) (s : State) :
    Carries { control := true } s { s with link := writeControl f b s.link } :=
  { Carries.refl _ s with unlisted := fun h => ⟨h.1, h.2.1, masked_and_not_mask _ _⟩, control := Bool.noConfusion }

theorem carries_tick (s : State) : Carries { time := true } s (tick s) :=
  { Carries.refl _ s with
    windows := fun h k => by
      cases k with
      | pack0 => exact h .pack0
      | pack1 => exact h .pack1
    fairness := fun h p => by
      cases p with
      | a => exact h .a
      | b => exact h .b
    rows := fun h p => by
      cases p with
      | a => exact h .a
      | b => exact h .b
    time := Bool.noConfusion }

/-! ### Every command -/

theorem completes_takePost {m : Moves} {n k : Nat} {f : State → State} {s : State} (hf : ∀ x, Carries m x (f x)) :
    Completes m s (event (takePost n k f) s) :=
  completes_event (Carries.ite ((carries_of_keeps (low_setSlotState n _ s).toKeeps).trans (hf _)) (Carries.refl m s))

theorem completes_takePost_of_keeps {m : Moves} {n k : Nat} {f : State → State} {s : State}
    (hf : ∀ x, Keeps true x (f x)) : Completes m s (event (takePost n k f) s) :=
  completes_takePost fun x => carries_of_keeps (hf x)

theorem carries_everything {s t : State} (h : Sound s t) : Carries .everything s t :=
  { toSound := h, pins := Bool.noConfusion, straps := Bool.noConfusion, levels := Bool.noConfusion
    enables := Bool.noConfusion, control := Bool.noConfusion, time := Bool.noConfusion, offset := Bool.noConfusion
    causes := Bool.noConfusion }

theorem completes_coldStart (pins : PinLevels) (s : State) : Completes .everything s (exec (.coldStart pins) s) := by
  have pinned : Carries .everything s { s with pins := pins } := carries_everything { Sound.refl s with }
  exact completes_next ((((pinned.trans (carries_everything (resetValues_sound _ _ _ _))).then
    (keeps_beginAgain _)).then (keeps_autoPowerOn _)).then (keeps_settle _))

theorem completes_pinResetRelease (straps : StrapPins) (a b : BusLine) (s : State) :
    Completes .everything s (exec (.pinResetRelease straps a b) s) := by
  have pinned : Carries .everything s { s with pins := { s.pins with straps := straps, lineA := a, lineB := b } } :=
    carries_everything { Sound.refl s with }
  exact completes_next (Carries.ite ((pinned.trans (carries_restartFromPins _ rfl _)).then (keeps_settle _))
    (Carries.refl _ s))

theorem completes_powerGoodRise (r : Rail) (s : State) : Completes { pins := true } s (exec (.powerGoodRise r) s) := by
  have pinned := carries_setPowerGood r true s
  show Completes _ s (execPowerGoodRise r s)
  unfold execPowerGoodRise
  split
  · exact completes_next (Carries.refl _ s)
  · split
    · exact completes_next pinned
    · exact completes_next ((pinned.then (mid_powerGoodUp r _).toKeeps).then (keeps_settle _))

theorem completes_powerGoodFall (r : Rail) (s : State) : Completes .everything s (exec (.powerGoodFall r) s) := by
  have pinned : Carries .everything s (setPowerGood r false s) :=
    carries_everything (carries_setPowerGood r false s).toSound
  show Completes _ s (execPowerGoodFall r s)
  unfold execPowerGoodFall
  split
  · exact completes_next (Carries.refl _ s)
  · split
    · exact completes_next pinned
    · exact completes_next ((carries_withCombinationRestart rfl (pinned.then (mid_powerGoodDown r _).toKeeps)).then
        (keeps_settle _))

theorem carries_transactionEnd (p : PortId) (r : TransactionResult) (l : BusLine) (s : State) :
    Carries { pins := true } s (transactionEnd p r l s) := by
  unfold transactionEnd
  split
  · exact Carries.refl _ s
  · exact (carries_setLine p l s).then (keeps_transactionEnds p _ r _)

theorem carries_attemptEnd (p : PortId) (seen : AttemptSeen) (s : State) :
    Carries { pins := true } s (attemptEnd p seen s) :=
  Carries.ite ((carries_setLine p _ s).then (keeps_attemptEnds p _ _)) (Carries.refl _ s)

theorem carries_roundStart (p : PortId) (l : BusLine) (s : State) : Carries { pins := true } s (roundStart p l s) :=
  Carries.ite ((carries_setLine p l s).then (keeps_nextRound p _)) (Carries.refl _ s)

theorem keeps_longPressExpires (s : State) : Keeps true s (longPressExpires s) := by
  have held : Keeps true s (holdReached s) := by exact Mid.toKeeps (mid_power _ s rfl rfl)
  exact Keeps.ite held (held.trans (mid_longPress _).toKeeps)

/-- Every command completes, keeps the invariants, and moves at most what its row of the table names. -/
theorem exec_completes (c : Instr) (s : State) : Completes (moves c) s (exec c s) := by
  cases c with
  | coldStart pins => exact completes_coldStart pins s
  | pinResetAssert => exact completes_next { Carries.refl _ s with }
  | pinResetRelease straps a b => exact completes_pinResetRelease straps a b s
  | rawInputChange i b => exact completes_next (carries_rawInput i b s)
  | lidChange => exact completes_due (carries_lidChange s)
  | adapterChange => exact completes_due (carries_adapterChange s)
  | packPresenceChange k => exact completes_due (carries_presenceChange k s)
  | auxWakeChange => exact completes_due (carries_publishLevel .wakeAux s)
  | buttonPress => exact completes_due ((carries_publishLevel .pwrbtn s).then (mid_buttonPress _).toKeeps)
  | buttonRelease => exact completes_due ((carries_publishLevel .pwrbtn s).then (mid_buttonRelease _).toKeeps)
  | powerGoodRise r => exact completes_powerGoodRise r s
  | powerGoodFall r => exact completes_powerGoodFall r s
  | railWaitTimeout =>
    exact completes_event (carries_withCombinationRestart rfl (carries_of_keeps (mid_waitRunsOut s).toKeeps))
  | resetHoldExpiry => exact completes_due_of_keeps (mid_reachRun s).toKeeps
  | suspendDelayExpiry => exact completes_event_of_keeps (mid_delayExpires s).toKeeps
  | longPressExpiry => exact completes_due_of_keeps (keeps_longPressExpires s)
  | combinationTimerExpiry =>
    exact completes_due (carries_withCombinationRestart rfl (carries_of_keeps (mid_comboExpires s).toKeeps))
  | heartbeatWrite f b => exact completes_event (carries_windowWrite _ s)
  | heartbeatExpiry => exact completes_due_of_keeps (mid_heartbeatExpires s).toKeeps
  | resetPulseEnd => exact completes_due_of_keeps (mid_pulseEnds s).toKeeps
  | criticalGraceExpiry => exact completes_due_of_keeps (mid_enterShutdown _ s).toKeeps
  | scanPass cols => exact completes_due_of_keeps (low_scanPass cols s).toKeeps
  | rawRowChange b => exact completes_next (carries_rawRowChange b s)
  | rowFilterExpiry => exact completes_event_of_keeps (low_rowFilterDone s).toKeeps
  | transactionEnd p r l => exact completes_event (carries_transactionEnd p r l s)
  | clockTimeout p => exact completes_event_of_keeps (keeps_clockTimeout p s)
  | recoveryAttemptEnd p x => exact completes_event (carries_attemptEnd p x s)
  | haltRetryExpiry p => exact completes_due_of_keeps (keeps_retryBegins p s)
  | roundStart p l => exact completes_event (carries_roundStart p l s)
  | roundOverrun p => exact completes_due_of_keeps (keeps_overrun p s)
  | settleTimerExpiry => exact completes_quiet (carries_of_keeps (keeps_when _ _ s (keeps_settleTimerEnds s)))
  | thermalUpdate m0 m1 => exact completes_event_of_keeps (keeps_thermalUpdate m0 m1 s)
  | tachPulse f n => exact completes_quiet (carries_of_keeps (keeps_tachPulse f n s))
  | boostExpiry => exact completes_quiet (carries_of_keeps (low_endBoost s).toKeeps)
  | partTimeTick => exact completes_quiet (carries_tick s)
  | hostWindowWrite a b => exact completes_event (carries_hostWrite a b s)
  | alertCauseWrite f b => exact completes_quiet (f := fun x => { x with link := clearCauses f b x.link }) (carries_clearCauses f b s)
  | alertEnableWrite f b => exact completes_quiet (f := fun x => { x with link := writeEnables f b x.link }) (carries_writeEnables f b s)
  | windowCtrlWrite f b => exact completes_quiet (f := fun x => { x with link := writeControl f b x.link }) (carries_writeControl f b s)
  | registerWriteOther o b => exact completes_quiet (Carries.refl _ s)
  | postFoundCancelled n => exact completes_event_of_keeps (keeps_foundCancelled _ s)
  | unknownKind n => exact completes_event_of_keeps (keeps_unknownPost _ s)
  | loadTable n => exact completes_takePost_of_keeps (keeps_loadTable _)
  | busTransfer n => exact completes_takePost_of_keeps (keeps_busTransfer _)
  | busReset n => exact completes_takePost_of_keeps (keeps_busReset _)
  | probePack n => exact completes_takePost_of_keeps (keeps_probePack _)
  | setOverride n => exact completes_takePost_of_keeps (keeps_setOverride _)
  | setChargeMode n => exact completes_takePost_of_keeps (keeps_chargeModeRequest _)
  | setPowerState n => exact completes_takePost_of_keeps (keeps_powerRequest _)
  | warmRestart n => exact completes_takePost (carries_warmRestart _)
  | cancelWrite n => exact completes_event (carries_windowWrite _ s)
  | slotFreeWrite n => exact completes_event (carries_windowWrite _ s)
  | readIndexWrite v => exact completes_event (carries_windowWrite _ s)

theorem exec_carries {c : Instr} {s t : State} (h : exec c s = .next t) : Carries (moves c) s t := by
  obtain ⟨u, hu, k⟩ := exec_completes c s
  cases h.symm.trans hu
  exact k

/-- A step keeps every invariant: its front command sees the state with the queue's rest, which no invariant reads. -/
theorem step_invariants {s t : State} (h : step s = .next t) :
    ∃ q, Sound { s with pending := q } t := by
  unfold step at h
  split at h
  · cases h; exact ⟨s.pending, Sound.refl s⟩
  · exact ⟨_, (exec_carries h).toSound⟩

/-! ### The obligations -/

/-- Settles O2: completion and the queue from `exec_completes`. -/
theorem everyCommandCompletes : Obligations.EveryCommandCompletes := by
  intro c s
  obtain ⟨t, h, k⟩ := exec_completes c s
  exact ⟨t, h, k.pending⟩

/-- Settles O55, from the invariants of a step. -/
theorem stepKeepsMemoryCanonical : Obligations.StepKeepsMemoryCanonical := by
  intro s t canonical h
  obtain ⟨_, k⟩ := step_invariants h
  exact k.memory canonical

/-- Settles O56, from the invariants of a step. -/
theorem stepKeepsCountsEven : Obligations.StepKeepsCountsEven := by
  intro s t even h
  obtain ⟨_, k⟩ := step_invariants h
  exact k.even even

/-- Settles O57, each bound from the invariants of a step. -/
theorem stepKeepsBounds : Obligations.StepKeepsBounds := by
  constructor
  · intro s t clear h
    obtain ⟨_, k⟩ := step_invariants h
    exact k.unlisted clear
  · intro s t h
    obtain ⟨_, k⟩ := step_invariants h
    exact ⟨k.ring, k.keys, k.windows, k.fairness, k.rows, k.slots, k.positions⟩

/-- Settles O58, from the invariants of a step. -/
theorem stepKeepsInhibitedExactly : Obligations.StepKeepsInhibitedExactly := by
  intro s t exact_ h
  obtain ⟨_, k⟩ := step_invariants h
  exact k.inhibit exact_

/-- Settles O59, from the invariants of a step. -/
theorem stepKeepsThermalCause : Obligations.StepKeepsThermalCause := by
  intro s t exact_ h
  obtain ⟨_, k⟩ := step_invariants h
  exact k.thermal exact_

/-- Settles O53: each field by its column of the table, read at the commands that the statement leaves. -/
theorem registersAndPinsMoveAtTheirCommands : Obligations.RegistersAndPinsMoveAtTheirCommands := by
  constructor
  · intro c s t h noCold noRelease noFall noWait noCombo noWarm
    have k := exec_carries h
    refine ⟨fun no => k.enables ?_, fun no => k.control ?_, fun no => k.time ?_,
      fun noHost noBeat noCancel noFree noIndex => k.offset ?_, fun no => k.causes ?_⟩ <;>
      cases c <;> simp_all [moves]
  · intro c s t h noCold noRelease noFall
    have k := exec_carries h
    refine ⟨fun noRaw noRise noRow noEnd noAttempt noRound => k.pins ?_, fun noWait noCombo => k.straps ?_⟩ <;>
      cases c <;> simp_all [moves]

end Sys2Proof.Proofs.Commands
end

section
/-! PROOF. The filtered inputs (R1, R2): a raw level starts or discards its own count, a filtered level moves only where its count
completes. And the queue of commands (log 4), the state after reset, and what RESET_N low leaves alone (R28, log 7). -/
set_option Elab.async false

namespace Sys2Proof.Proofs.Inputs

open Sys2Proof Sys2Proof.Machine Sys2Proof.Safety Sys2Proof.Laws Sys2Proof.Proofs.Commands

/-! ### The queue of commands -/

/-- Settles O1: the two equations of `step`. -/
theorem frontCommandRuns : Obligations.FrontCommandRuns := by
  refine ⟨fun c rest s => rfl, fun s idle => ?_⟩
  unfold step
  rw [idle]

/-! ### The state after reset -/

theorem settle_coldStart_reset : settle (coldStart afterResetPins State.reset) = State.reset := by decide +kernel

theorem exec_coldStart (pins : PinLevels) (s : State) :
    exec (.coldStart pins) s = .next (settle (coldStart pins s)) := rfl

/-- Settles O3: the one run of the model that the statement names. -/
theorem resetIsAColdStart : Obligations.ResetIsAColdStart :=
  (exec_coldStart _ _).trans (by rw [settle_coldStart_reset])

theorem countsEven_reset : countsEven State.reset := by
  intro g hg
  have listed : g = 0#16 ∨ g = 2#16 ∨ g = 0#16 ∨ g = 2#16 ∨ g = 0#16 := by
    simpa [State.reset, afterResetLink] using hg
  rcases listed with rfl | rfl | rfl | rfl | rfl <;> rfl

theorem bounds_reset : indicesInRing State.reset ∧ keyTableBounded State.reset ∧ faultWindowsBounded State.reset ∧
    fairnessBounded State.reset := by
  refine ⟨⟨by decide +kernel, by decide +kernel⟩, Nat.zero_le 12, fun k => ?_, fun p => ?_⟩
  · cases k <;> exact Nat.zero_le 8
  · cases p <;> exact Nat.zero_le 4

theorem pollRowsWhole_reset : pollRowsWhole State.reset := by
  intro p
  cases p
  · exact (List.length_append ..).trans (by rw [List.length_replicate, List.length_replicate])
  · exact (List.length_append ..).trans (by rw [List.length_replicate, List.length_replicate])

/-- Settles O54: each invariant at the one state. -/
theorem resetIsSound : Obligations.ResetIsSound := by
  obtain ⟨ring, keys, windows, fairness⟩ := bounds_reset
  exact ⟨rfl, countsEven_reset, ⟨BitVec.zero_and, BitVec.zero_and, BitVec.zero_and⟩, ring, keys, windows, fairness,
    pollRowsWhole_reset, List.length_replicate, List.length_replicate, by unfold inhibitedExactly; decide +kernel, rfl⟩

/-! ### RESET_N low -/

/-- R28: a command that is no event of a reset part leaves all but the pins. -/
def MovesPinsOnly (s : State) (a : Answer) : Prop := ∃ pins, a = .next { s with pins := pins }

theorem movesPinsOnly_quiet (f : State → State) {s : State} (low : s.inReset = true) : MovesPinsOnly s (quiet f s) :=
  ⟨s.pins, quiet_inReset f s low⟩

theorem movesPinsOnly_event (f : State → State) {s : State} (low : s.inReset = true) : MovesPinsOnly s (event f s) :=
  movesPinsOnly_quiet _ low

theorem movesPinsOnly_rawInput (i : FilteredInput) (b : Bool) {s : State} (low : s.inReset = true) :
    MovesPinsOnly s (exec (.rawInputChange i b) s) := by
  refine ⟨{ s.pins with inputs := setInputLevel s.pins.inputs i b }, congrArg Host.Outcome.next ?_⟩
  simp [rawInput, low]

theorem movesPinsOnly_powerGood (r : Rail) (b : Bool) {s : State} : MovesPinsOnly s (.next (setPowerGood r b s)) := by
  cases r
  · exact ⟨_, rfl⟩
  · exact ⟨_, rfl⟩

theorem movesPinsOnly_powerGoodRise (r : Rail) {s : State} (low : s.inReset = true) :
    MovesPinsOnly s (exec (.powerGoodRise r) s) := by
  show MovesPinsOnly s (execPowerGoodRise r s)
  unfold execPowerGoodRise
  rw [if_pos low]
  split
  · exact ⟨s.pins, rfl⟩
  · exact movesPinsOnly_powerGood r true

theorem movesPinsOnly_powerGoodFall (r : Rail) {s : State} (low : s.inReset = true) :
    MovesPinsOnly s (exec (.powerGoodFall r) s) := by
  show MovesPinsOnly s (execPowerGoodFall r s)
  unfold execPowerGoodFall
  rw [if_pos low]
  split
  · exact ⟨s.pins, rfl⟩
  · exact movesPinsOnly_powerGood r false

theorem movesPinsOnly_rawRow (b : Bool) {s : State} (low : s.inReset = true) :
    MovesPinsOnly s (exec (.rawRowChange b) s) :=
  ⟨_, congrArg Host.Outcome.next (if_pos low)⟩

/-- Settles O6: the four commands that bring a level move their pin, all others are events of the running part. -/
theorem nothingRunsInReset : Obligations.NothingRunsInReset := by
  intro c s low noCold noAssert noRelease
  suffices still : MovesPinsOnly s (exec c s) from still
  cases c
  case coldStart pins => exact absurd rfl (noCold pins)
  case pinResetAssert => exact absurd rfl noAssert
  case pinResetRelease a b d => exact absurd rfl (noRelease a b d)
  case rawInputChange i b => exact movesPinsOnly_rawInput i b low
  case powerGoodRise r => exact movesPinsOnly_powerGoodRise r low
  case powerGoodFall r => exact movesPinsOnly_powerGoodFall r low
  case rawRowChange b => exact movesPinsOnly_rawRow b low
  case alertCauseWrite f b => exact movesPinsOnly_quiet (fun x => { x with link := clearCauses f b x.link }) low
  case alertEnableWrite f b => exact movesPinsOnly_quiet (fun x => { x with link := writeEnables f b x.link }) low
  case windowCtrlWrite f b => exact movesPinsOnly_quiet (fun x => { x with link := writeControl f b x.link }) low
  case settleTimerExpiry | tachPulse | boostExpiry | partTimeTick | registerWriteOther => exact movesPinsOnly_quiet _ low
  all_goals exact movesPinsOnly_event _ low

/-! ### Levels and counts by input -/

@[simp] theorem inputLevel_setInputLevel (l : InputLevels) (i : FilteredInput) (b : Bool) :
    inputLevel (setInputLevel l i b) i = b := by cases i <;> rfl

theorem inputLevel_setInputLevel_ne {i j : FilteredInput} (h : j ≠ i) (l : InputLevels) (b : Bool) :
    inputLevel (setInputLevel l i b) j = inputLevel l j := by
  cases i <;> cases j <;> first | rfl | exact absurd rfl h

@[simp] theorem inputCount_setInputCount (c : FilterCounts) (i : FilteredInput) (t : Option Nat) :
    inputCount (setInputCount c i t) i = t := by cases i <;> rfl

theorem inputCount_setInputCount_ne {i j : FilteredInput} (h : j ≠ i) (c : FilterCounts) (t : Option Nat) :
    inputCount (setInputCount c i t) j = inputCount c j := by
  cases i <;> cases j <;> first | rfl | exact absurd rfl h

/-- R1: a filtered raw level moves with its count. -/
theorem rawInput_filtered {i : FilteredInput} {s : State} (high : s.inReset = false) (filtered : isFiltered s i = true)
    (b : Bool) :
    let count := countAfter b (inputLevel s.power.levels i) (inputCount s.power.counts i)
    rawInput i b s = { s with
      pins := { s.pins with inputs := setInputLevel s.pins.inputs i b }
      power := { s.power with counts := setInputCount s.power.counts i count } } := by
  simp [rawInput, high, filtered]

/-- R1: an unfiltered raw level moves alone. -/
theorem rawInput_unfiltered {i : FilteredInput} {s : State} (unfiltered : isFiltered s i = false) (b : Bool) :
    rawInput i b s = { s with pins := { s.pins with inputs := setInputLevel s.pins.inputs i b } } := by
  simp [rawInput, unfiltered]

/-- Settles O7: the two equations of `rawInput`, read input by input. -/
theorem rawInputCounts : Obligations.RawInputCounts := by
  constructor
  · intro i b s high filtered
    refine ⟨rawInput i b s, rfl, ?_⟩
    rw [rawInput_filtered high filtered]
    refine ⟨inputLevel_setInputLevel _ _ _, rfl, fun same => ?_, fun moved => ?_, fun j other => ⟨?_, ?_⟩, _, _, rfl⟩
    · exact (inputCount_setInputCount _ _ _).trans (if_pos same)
    · exact (inputCount_setInputCount _ _ _).trans (if_neg moved)
    · exact inputLevel_setInputLevel_ne other _ _
    · exact inputCount_setInputCount_ne other _ _
  · intro b s one
    have unfiltered : isFiltered s .presence1 = false := by simpa [isFiltered, State.packFitted] using one
    exact congrArg Host.Outcome.next (rawInput_unfiltered unfiltered b)

/-! ### The completion of a count -/

/-- R1: a change of the filtered levels that is the completion of one input's count, or none. -/
def LevelMovesAt (i : FilteredInput) (s t : State) : Prop :=
  t.power.levels = s.power.levels ∨
    countRuns s i = true ∧
      t.power.levels = setInputLevel s.power.levels i (inputLevel s.pins.inputs i)

theorem publishLevel_levels (i : FilteredInput) (s : State) : (publishLevel i s).power.levels =
    setInputLevel s.power.levels i (inputLevel s.pins.inputs i) := by
  unfold publishLevel updatingPower commitPower
  split <;> rfl

theorem publishAdapter_levels (s : State) : (publishAdapter s).power.levels =
    setInputLevel s.power.levels .acp (inputLevel s.pins.inputs .acp) := by
  unfold publishAdapter updatingPower commitPower
  split <;> rfl

/-- What follows the publication of a level keeps the levels, as every law says; so does the settling. -/
theorem levelMovesAt_of_event {i : FilteredInput} {b : Bool} {f : State → State} {s t : State} (high : s.inReset = false)
    (run : event (when_ b f) s = .next t) (due : b = true → countRuns s i = true)
    (levels : (f s).power.levels = setInputLevel s.power.levels i (inputLevel s.pins.inputs i)) :
    LevelMovesAt i s t := by
  rw [event_next _ _ high] at run
  cases run
  unfold LevelMovesAt
  rw [(keeps_settle _).levels]
  cases b
  · exact Or.inl rfl
  · exact Or.inr ⟨due rfl, levels⟩

/-- What `LevelMovesAt` says of one input. -/
theorem LevelMovesAt.moved {i j : FilteredInput} {s t : State} (m : LevelMovesAt i s t)
    (h : inputLevel t.power.levels j ≠ inputLevel s.power.levels j) :
    j = i ∧ countRuns s j = true ∧ inputLevel t.power.levels j = inputLevel s.pins.inputs j := by
  rcases m with same | ⟨runs, levels⟩
  · exact absurd (by rw [same]) h
  · by_cases own : j = i
    · subst own
      exact ⟨rfl, runs, by rw [levels, inputLevel_setInputLevel]⟩
    · exact absurd (by rw [levels, inputLevel_setInputLevel_ne own]) h

theorem lidChange_levels (s : State) : (lidChange s).power.levels =
    setInputLevel s.power.levels .lid (inputLevel s.pins.inputs .lid) := by
  have after : Mid true (publishLevel .lid s) (lidChange s) := by
    unfold lidChange
    refine mid_eitherOrder _ _ _ (fun x => ?_) fun x => ?_
    · exact Mid.ite (mid_offer _ x) (Mid.refl true x)
    · exact (low_scanModeDecision x).toMid
  exact after.levels.trans (publishLevel_levels _ s)

theorem adapterChange_levels (s : State) : (adapterChange s).power.levels =
    setInputLevel s.power.levels .acp (inputLevel s.pins.inputs .acp) := by
  have after : Mid true (publishAdapter s) (adapterChange s) := by
    unfold adapterChange
    refine mid_eitherOrder _ _ _ (fun x => ?_) fun x => ?_
    · refine mid_anyOrder _ _ _ x mid_dischargeDecision (fun y => (low_evaluate y).toMid) fun y => ?_
      exact Mid.ite (mid_offer _ y) (Mid.refl true y)
    · exact Mid.ite (mid_powerOn _ x) (Mid.refl true x)
  exact after.levels.trans (publishAdapter_levels s)

theorem presenceChange_levels (k : PackId) (s : State) : (presenceChange k s).power.levels =
    setInputLevel s.power.levels (presenceInput k) (inputLevel s.pins.inputs (presenceInput k)) := by
  have after : Keeps true (publishLevel (presenceInput k) s) (presenceChange k s) :=
    Keeps.ite (keeps_presenceRise k _) (keeps_presenceFall k _)
  exact after.levels.trans (publishLevel_levels _ s)

/-- Settles O8: the six commands that publish a level by `LevelMovesAt`, every other by its row of the table. -/
theorem filteredLevelsMoveAtTheirEvents : Obligations.FilteredLevelsMoveAtTheirEvents := by
  intro c s t i high run noCold noFall noWait noCombo moved
  have still : (moves c).levels = false → False := fun h => moved (by rw [(exec_carries run).levels h])
  cases c
  case coldStart pins => exact absurd rfl (noCold pins)
  case powerGoodFall r => exact absurd rfl (noFall r)
  case railWaitTimeout => exact absurd rfl noWait
  case combinationTimerExpiry => exact absurd rfl noCombo
  case pinResetRelease a b d =>
    have same : exec (.pinResetRelease a b d) s = .next s := congrArg Host.Outcome.next (if_neg (by simp [high]))
    cases same.symm.trans run
    exact absurd rfl moved
  case lidChange =>
    obtain ⟨rfl, runs, level⟩ := (levelMovesAt_of_event high run (fun h => h) (lidChange_levels s)).moved moved
    exact ⟨runs, level, Or.inl ⟨rfl, rfl⟩⟩
  case adapterChange =>
    obtain ⟨rfl, runs, level⟩ := (levelMovesAt_of_event high run (fun h => h) (adapterChange_levels s)).moved moved
    exact ⟨runs, level, Or.inr (Or.inl ⟨rfl, rfl⟩)⟩
  case auxWakeChange =>
    obtain ⟨rfl, runs, level⟩ := (levelMovesAt_of_event high run (fun h => h) (publishLevel_levels _ s)).moved moved
    exact ⟨runs, level, Or.inr (Or.inr (Or.inl ⟨rfl, rfl⟩))⟩
  case packPresenceChange k =>
    obtain ⟨rfl, runs, level⟩ := (levelMovesAt_of_event high run (fun h => h) (presenceChange_levels k s)).moved moved
    exact ⟨runs, level, Or.inr (Or.inr (Or.inr (Or.inl ⟨k, rfl, rfl⟩)))⟩
  case buttonPress =>
    have levels := (mid_buttonPress (publishLevel .pwrbtn s)).levels.trans (publishLevel_levels _ s)
    obtain ⟨rfl, runs, level⟩ :=
      (levelMovesAt_of_event high run (fun h => (Bool.and_eq_true_iff.mp h).1) levels).moved moved
    exact ⟨runs, level, Or.inr (Or.inr (Or.inr (Or.inr ⟨Or.inl rfl, rfl⟩)))⟩
  case buttonRelease =>
    have levels := (mid_buttonRelease (publishLevel .pwrbtn s)).levels.trans (publishLevel_levels _ s)
    obtain ⟨rfl, runs, level⟩ :=
      (levelMovesAt_of_event high run (fun h => (Bool.and_eq_true_iff.mp h).1) levels).moved moved
    exact ⟨runs, level, Or.inr (Or.inr (Or.inr (Or.inr ⟨Or.inr rfl, rfl⟩)))⟩
  all_goals exact (still rfl).elim

end Sys2Proof.Proofs.Inputs
end

section
/-! PROOF. Which parts of the state a function leaves as they were: `Within T s t` says that `t` differs from `s` at most in the
parts of the list `T`, and one lemma per function gives its list. Two parts are not fields but facts that a change may break: that
the scan mode is the one R31 decides, and that the down-key table then stands still. -/
set_option Elab.async false

namespace Sys2Proof.Proofs.Frames

open Sys2Proof Sys2Proof.Machine Sys2Proof.Safety Sys2Proof.Laws

/-! ### Bytes that a store does not touch -/

theorem read_write_ne {a b : Nat} (h : b ≠ a) (v : Byte) :
    (m : List Host.Cell) → Memory.read (Memory.write m a v) b = Memory.read m b
  | [] => by
    unfold Memory.write
    split
    · rfl
    · exact if_neg (Ne.symm h)
  | (k, w) :: rest => by
    unfold Memory.write
    split
    · split
      · rfl
      · exact if_neg (Ne.symm h)
    · split
      · next _ own =>
        have other : k ≠ b := fun e => h (e.symm.trans own.symm)
        split
        · exact (if_neg other).symm
        · exact (if_neg (Ne.symm h)).trans (if_neg other).symm
      · unfold Memory.read
        rw [read_write_ne h v rest]

theorem read_writeList_outside {b : Nat} : (a : Nat) → (vs : List Byte) → (m : List Host.Cell) →
    (b < a ∨ a + vs.length ≤ b) → Memory.read (Memory.writeList m a vs) b = Memory.read m b
  | _, [], _, _ => rfl
  | a, v :: vs, m, h => by
    have out : b < a + 1 ∨ a + 1 + vs.length ≤ b := by simp only [List.length_cons] at h; omega
    have ne : b ≠ a := by simp only [List.length_cons] at h; omega
    exact (read_writeList_outside (a + 1) vs _ out).trans (read_write_ne ne v m)

/-! ### Parts and the relation -/

/-- The parts of the state that a frame lemma speaks of. `slots` stands for the bytes of every slot; `front` for the bytes below the
queue's body and between it and the slots; `matrix` for the scan mode, the positions, the pass timer and the keymap; `mode` for the
fact that the scan mode is the decided one; `keys` for the down-key table while it is. -/
inductive Part where
  | causes | mem | front | ring | slots | slot (n : Nat) | queue | posted | power | kbd | matrix | mode | keys
  | port (p : PortId) | engine (p : PortId) | pack (k : PackId) | dsg | chg | th

/-- A byte of the exchange memory below the body of the queue, or between it and the slots. -/
def inFront (a : Nat) : Prop := a < 0x0110 ∨ 0x0510 ≤ a ∧ a < 0x0600

/-- A byte of the body of the report queue. -/
def inRing (a : Nat) : Prop := 0x0110 ≤ a ∧ a < 0x0510

/-- A byte of a slot. -/
def inSlot (n a : Nat) : Prop := slotBase n ≤ a ∧ a < slotBase n + 64

/-- The bytes of a region are as they were. -/
def SameBytes (region : Nat → Prop) (s t : State) : Prop := ∀ a, region a → Memory.read t.mem a = Memory.read s.mem a

/-- The scan mode stays the decided one, and the down-key table stands still. -/
def KeysStay (s t : State) : Prop := scanModeDecided s → scanModeDecided t ∧ t.kbd.table = s.kbd.table

/-- `t` differs from `s` at most in the parts listed. -/
structure Within (T : List Part) (s t : State) : Prop where
  causes : .causes ∉ T → t.link.alertCause = s.link.alertCause
  mem : .mem ∉ T → t.mem = s.mem
  front : .front ∉ T → SameBytes inFront s t
  ring : .ring ∉ T → SameBytes inRing s t
  slot : ∀ n, .slots ∉ T → .slot n ∉ T → SameBytes (inSlot n) s t
  queue : .queue ∉ T → t.queue = s.queue
  posted : .posted ∉ T → t.posted = s.posted
  power : .power ∉ T → t.power = s.power
  kbd : .kbd ∉ T → t.kbd = s.kbd
  matrix : .matrix ∉ T → t.kbd.mode = s.kbd.mode ∧ t.kbd.positions = s.kbd.positions ∧ t.kbd.passMs = s.kbd.passMs ∧
      t.kbd.keymap = s.kbd.keymap
  mode : .mode ∉ T → scanModeDecided s → scanModeDecided t
  keys : .keys ∉ T → KeysStay s t
  port : ∀ p, .port p ∉ T → t.port p = s.port p
  engine : ∀ p, .engine p ∉ T → t.engine p = s.engine p
  pack : ∀ k, .pack k ∉ T → t.pack k = s.pack k
  dsg : .dsg ∉ T → t.dsg = s.dsg
  chg : .chg ∉ T → t.chg = s.chg
  th : .th ∉ T → t.th = s.th

/-- Nothing is claimed of a part that the list names. -/
theorem touched {T : List Part} {x : Part} {P : Prop} (m : x ∈ T) (h : x ∉ T) : P := absurd m h

theorem Within.refl (T : List Part) (s : State) : Within T s s :=
  ⟨fun _ => rfl, fun _ => rfl, fun _ _ _ => rfl, fun _ _ _ => rfl, fun _ _ _ _ _ => rfl, fun _ => rfl, fun _ => rfl,
    fun _ => rfl, fun _ => rfl, fun _ => ⟨rfl, rfl, rfl, rfl⟩, fun _ d => d, fun _ d => ⟨d, rfl⟩, fun _ _ => rfl,
    fun _ _ => rfl, fun _ _ => rfl, fun _ => rfl, fun _ => rfl, fun _ => rfl⟩

theorem Within.trans {T : List Part} {s t u : State} (a : Within T s t) (b : Within T t u) : Within T s u where
  causes h := (b.causes h).trans (a.causes h)
  mem h := (b.mem h).trans (a.mem h)
  front h x hx := (b.front h x hx).trans (a.front h x hx)
  ring h x hx := (b.ring h x hx).trans (a.ring h x hx)
  slot n h h' x hx := (b.slot n h h' x hx).trans (a.slot n h h' x hx)
  queue h := (b.queue h).trans (a.queue h)
  posted h := (b.posted h).trans (a.posted h)
  power h := (b.power h).trans (a.power h)
  kbd h := (b.kbd h).trans (a.kbd h)
  matrix h := by
    obtain ⟨hm, hp, hq, hk⟩ := a.matrix h
    obtain ⟨km, kp, kq, kk⟩ := b.matrix h
    exact ⟨km.trans hm, kp.trans hp, kq.trans hq, kk.trans hk⟩
  mode h d := b.mode h (a.mode h d)
  keys h d := by
    obtain ⟨dt, kt⟩ := a.keys h d
    obtain ⟨du, ku⟩ := b.keys h dt
    exact ⟨du, ku.trans kt⟩
  port p h := (b.port p h).trans (a.port p h)
  engine p h := (b.engine p h).trans (a.engine p h)
  pack k h := (b.pack k h).trans (a.pack k h)
  dsg h := (b.dsg h).trans (a.dsg h)
  chg h := (b.chg h).trans (a.chg h)
  th h := (b.th h).trans (a.th h)

/-- What differs at most in fewer parts differs at most in more. -/
theorem Within.mono {T W : List Part} {s t : State} (a : Within T s t) (sub : T ⊆ W) : Within W s t where
  causes h := a.causes fun m => h (sub m)
  mem h := a.mem fun m => h (sub m)
  front h := a.front fun m => h (sub m)
  ring h := a.ring fun m => h (sub m)
  slot n h h' := a.slot n (fun m => h (sub m)) (fun m => h' (sub m))
  queue h := a.queue fun m => h (sub m)
  posted h := a.posted fun m => h (sub m)
  power h := a.power fun m => h (sub m)
  kbd h := a.kbd fun m => h (sub m)
  matrix h := a.matrix fun m => h (sub m)
  mode h := a.mode fun m => h (sub m)
  keys h := a.keys fun m => h (sub m)
  port p h := a.port p fun m => h (sub m)
  engine p h := a.engine p fun m => h (sub m)
  pack k h := a.pack k fun m => h (sub m)
  dsg h := a.dsg fun m => h (sub m)
  chg h := a.chg fun m => h (sub m)
  th h := a.th fun m => h (sub m)

/-- Two changes one after the other, each with its own list. -/
theorem Within.then {T T' : List Part} {s t u : State} (a : Within T s t) (b : Within T' t u) : Within (T ++ T') s u :=
  (a.mono (List.subset_append_left T T')).trans (b.mono (List.subset_append_right T T'))

/-- A change that stays inside the list of the one before it. -/
theorem Within.next {T T' : List Part} {s t u : State} (a : Within T s t) (b : Within T' t u) (sub : T' ⊆ T) :
    Within T s u := a.trans (b.mono sub)

theorem Within.ite {T : List Part} {s a b : State} {c : Prop} [Decidable c] (ha : Within T s a) (hb : Within T s b) :
    Within T s (if c then a else b) := by split <;> assumption

/-- A change made under a condition. -/
theorem Within.when {T : List Part} {s a : State} {c : Prop} [Decidable c] (ha : Within T s a) :
    Within T s (if c then a else s) := ha.ite (Within.refl T s)

/-! ### The frames of the statements -/

theorem Within.sameBus {T : List Part} {s t : State} (h : Within T s t) (hp : ∀ p, .port p ∉ T)
    (he : ∀ p, .engine p ∉ T) : sameBus s t :=
  ⟨h.port .a (hp _), h.port .b (hp _), h.engine .a (he _), h.engine .b (he _)⟩

theorem Within.samePacks {T : List Part} {s t : State} (h : Within T s t) (hp : ∀ k, .pack k ∉ T)
    (hd : .dsg ∉ T) : samePacks s t :=
  ⟨h.pack .pack0 (hp _), h.pack .pack1 (hp _), h.dsg hd⟩

theorem Within.sameControl {T : List Part} {s t : State} (h : Within T s t) (hc : .chg ∉ T)
    (ht : .th ∉ T) : sameControl s t := ⟨h.chg hc, h.th ht⟩

theorem Within.samePlatform {T : List Part} {s t : State} (h : Within T s t) (hp : .power ∉ T)
    (hk : .kbd ∉ T) (hq : .queue ∉ T) : samePlatform s t := ⟨h.power hp, h.kbd hk, h.queue hq⟩

theorem Within.sameEngines {T : List Part} {s t : State} (h : Within T s t) (he : ∀ p, .engine p ∉ T)
    (hb : .port .b ∉ T) (hp : .posted ∉ T) : sameEngines s t :=
  ⟨h.engine .a (he _), h.engine .b (he _), h.port .b hb, h.posted hp⟩

/-- Every byte beyond the front and the queue's body is a slot's. -/
theorem inSlot_of_le {a : Nat} (h : 0x0600 ≤ a) : inSlot ((a - 0x0600) / 64) a := by
  unfold inSlot slotBase
  omega

theorem inSlot_unique {n m a : Nat} (h : inSlot n a) (h' : inSlot m a) : n = m := by
  unfold inSlot slotBase at h h'
  omega

theorem Within.sameButQueue {T : List Part} {s t : State} (h : Within T s t) (hf : .front ∉ T)
    (hs : .slots ∉ T) (hn : ∀ n, .slot n ∉ T) : sameButQueue s t := by
  intro a out
  by_cases front : inFront a
  · exact h.front hf a front
  · unfold inFront at front
    exact h.slot _ hs (hn _) a (inSlot_of_le (by omega))

theorem Within.sameButSlotAndQueue {T : List Part} {n : Nat} {s t : State} (h : Within T s t)
    (hf : .front ∉ T) (hs : .slots ∉ T) (hn : ∀ m, m ≠ n → .slot m ∉ T) :
    sameButSlotAndQueue n s t := by
  intro a outSlot outRing
  by_cases front : inFront a
  · exact h.front hf a front
  · unfold inFront at front
    have own := inSlot_of_le (a := a) (by omega)
    refine h.slot _ hs (hn _ fun e => ?_) a own
    rw [e] at own
    unfold inSlot at own
    omega

theorem Within.sameButSlot {T : List Part} {n : Nat} {s t : State} (h : Within T s t) (hr : .ring ∉ T)
    (hf : .front ∉ T) (hs : .slots ∉ T) (hn : ∀ m, m ≠ n → .slot m ∉ T) :
    sameButSlot n s t := by
  intro a outSlot
  by_cases ring : inRing a
  · exact h.ring hr a ring
  · unfold inRing at ring
    exact h.sameButSlotAndQueue hf hs hn a outSlot (by omega)

/-! ### Updates of one part -/

theorem within_mem {T : List Part} (m : Memory) (s : State) (mem : .mem ∈ T)
    (front : .front ∉ T → SameBytes inFront s { s with mem := m }) (ring : .ring ∉ T → SameBytes inRing s { s with mem := m })
    (slot : ∀ n, .slots ∉ T → .slot n ∉ T → SameBytes (inSlot n) s { s with mem := m }) :
    Within T s { s with mem := m } :=
  { Within.refl T s with mem := touched mem, front := front, ring := ring, slot := slot }

theorem within_storeBytes_ring (a : Nat) (b : List Byte) (s : State) (lo : 0x0110 ≤ a) (hi : a + b.length ≤ 0x0510) :
    Within [.mem, .ring] s (storeBytes a b s) :=
  within_mem _ s (by simp) (fun _ x hx => read_writeList_outside a b s.mem (by unfold inFront at hx; omega))
    (touched (by simp)) (fun n _ _ x hx => read_writeList_outside a b s.mem (by unfold inSlot slotBase at hx; omega))

theorem within_storeBytes_slot (n a : Nat) (b : List Byte) (s : State) (lo : slotBase n ≤ a)
    (hi : a + b.length ≤ slotBase n + 64) : Within [.mem, .slot n] s (storeBytes a b s) :=
  within_mem _ s (by simp)
    (fun _ x hx => read_writeList_outside a b s.mem (by unfold inFront at hx; unfold slotBase at lo; omega))
    (fun _ x hx => read_writeList_outside a b s.mem (by unfold inRing at hx; unfold slotBase at lo; omega))
    (fun m _ other x hx => read_writeList_outside a b s.mem (by
      have ne : m ≠ n := fun e => other (by simp [e])
      unfold inSlot slotBase at *
      omega))

theorem within_storeBytes_slots (a : Nat) (b : List Byte) (s : State) (lo : 0x0600 ≤ a) :
    Within [.mem, .slots] s (storeBytes a b s) :=
  within_mem _ s (by simp) (fun _ x hx => read_writeList_outside a b s.mem (by unfold inFront at hx; omega))
    (fun _ x hx => read_writeList_outside a b s.mem (by unfold inRing at hx; omega)) (fun _ => touched (by simp))

theorem within_storeBytes (a : Nat) (b : List Byte) (s : State) : Within [.mem, .front, .ring, .slots] s (storeBytes a b s) :=
  within_mem _ s (by simp) (touched (by simp)) (touched (by simp)) (fun _ => touched (by simp))

theorem within_setPort (p : PortId) (x : Port) (s : State) : Within [.port p] s (s.setPort p x) := by
  have other : ∀ q, .port q ∉ [Part.port p] → (s.setPort p x).port q = s.port q := fun q h =>
    port_setPort_ne (by simpa using h) _ s
  cases p <;> exact { Within.refl _ s with port := other }

theorem within_setEngine (p : PortId) (x : Engine) (s : State) : Within [.engine p] s (s.setEngine p x) := by
  have other : ∀ q, .engine q ∉ [Part.engine p] → (s.setEngine p x).engine q = s.engine q := fun q h =>
    engine_setEngine_ne (by simpa using h) _ s
  cases p <;> exact { Within.refl _ s with engine := other }

theorem within_setPack (k : PackId) (x : Pack) (s : State) : Within [.pack k] s (s.setPack k x) := by
  have other : ∀ j, .pack j ∉ [Part.pack k] → (s.setPack k x).pack j = s.pack j := fun j h =>
    pack_setPack_ne (by simpa using h) _ s
  cases k <;> exact { Within.refl _ s with pack := other }

theorem within_th (x : Thermal) (s : State) : Within [.th] s { s with th := x } :=
  { Within.refl _ s with th := touched (by simp) }

theorem within_chg (c : Charge) (s : State) : Within [.chg] s { s with chg := c } :=
  { Within.refl _ s with chg := touched (by simp) }

theorem within_dsg (d : Discharge) (s : State) : Within [.dsg] s { s with dsg := d } :=
  { Within.refl _ s with dsg := touched (by simp) }

theorem within_queue (q : Queue) (s : State) : Within [.queue] s { s with queue := q } :=
  { Within.refl _ s with queue := touched (by simp) }

theorem within_posted (l : List Held) (s : State) : Within [.posted] s { s with posted := l } :=
  { Within.refl _ s with posted := touched (by simp) }

theorem within_due (d : RecordsDue) (s : State) : Within [] s { s with due := d } := { Within.refl _ s with }

theorem within_pins (p : PinLevels) (s : State) : Within [] s { s with pins := p } := { Within.refl _ s with }

/-- The window's registers but the causes. -/
theorem within_link (l : Link) (s : State) (causes : l.alertCause = s.link.alertCause) : Within [] s { s with link := l } :=
  { Within.refl _ s with causes := fun _ => causes }

theorem within_setFan (f : FanId) (x : Fan) (s : State) : Within [.th] s (s.setFan f x) := by
  cases f <;> exact within_th _ s

theorem within_setCause (c : Word32) (s : State) : Within [.causes] s (setCause c s) :=
  { Within.refl _ s with causes := touched (by simp) }

theorem within_useTurn (s : State) : Within [] s (useTurn s) := { Within.refl _ s with }

theorem within_publish (r : Rec) (s : State) : Within [] s (publish r s) := within_link _ s rfl

theorem within_announce (r : Rec) (s : State) : Within [] s (announce r s) := by
  unfold announce
  split
  · exact within_due _ s
  · exact within_due _ s
  · exact within_due _ s
  all_goals exact within_publish _ s

theorem within_commit (r : Rec) {T : List Part} {s a : State} (b : State) (h : Within T s a) :
    Within T s (commit r b a) := h.ite (h.next (within_announce r a) (List.nil_subset T))

theorem within_updating (r : Rec) {T : List Part} {f : State → State} {s : State} (h : Within T s (f s)) :
    Within T s (updating r f s) := within_commit r s h

theorem within_updatingPower {T : List Part} {f : State → State} {s : State} (h : Within T s (f s)) :
    Within T s (updatingPower f s) := h.ite (h.next (within_publish .platform _) (List.nil_subset T))

theorem within_updatingPacks {T : List Part} {f : State → State} {s : State} (h : Within T s (f s)) :
    Within T s (updatingPacks f s) := within_commit _ s (within_commit _ s h)

theorem within_updatingFans {T : List Part} {f : State → State} {s : State} (h : Within T s (f s)) :
    Within T s (updatingFans f s) := within_commit _ s (within_commit _ s h)

theorem within_updatingPort (p : PortId) (f : Port → Port) (s : State) : Within [.port p] s (updatingPort p f s) :=
  within_updating _ (within_setPort p _ s)

end Sys2Proof.Proofs.Frames
end

section
/-! PROOF. The frame of each function of the report queue, the charge controller, the fans, the scanner and the power controller. -/
set_option Elab.async false

namespace Sys2Proof.Proofs.Frames

open Sys2Proof Sys2Proof.Machine Sys2Proof.Safety Sys2Proof.Laws

/-! ### Lists of parts -/

/-- What a record in the report queue changes. -/
@[simp] def reporting : List Part := [.causes, .mem, .ring, .queue]

/-- What an evaluation of the charge controller changes. -/
@[simp] def charging : List Part := [.causes, .mem, .ring, .queue, .chg, .port .a]

/-- What a key's report changes. -/
@[simp] def typing : List Part := [.causes, .mem, .ring, .queue, .kbd, .keys]

/-- What a change of power state outside RUN changes. -/
@[simp] def waking : List Part := [.causes, .mem, .ring, .queue, .power, .kbd, .matrix]

/-- What a change of power state out of RUN changes besides. -/
@[simp] def leaving : List Part := [.keys, .chg, .port .a, .th]

/-- What any change of power state changes. -/
@[simp] def powering : List Part :=
  [.causes, .mem, .ring, .queue, .power, .kbd, .matrix, .keys, .chg, .port .a, .th]

/-! ### Report queue -/

/-- R198: the units of a record are 8 bytes each. -/
def WholeUnits (us : List (List Byte)) : Prop := ∀ u ∈ us, u.length = 8

theorem wholeUnits_notice (n : Notice) (t : Word32) : WholeUnits (n.units t) := by
  cases n <;> simp [WholeUnits, Notice.units, firstUnit, secondUnit, bytes32]

theorem wholeUnits_key (tr : Transition) (p : Nat) (c : Word16) (t : Word32) : WholeUnits [keyUnit tr p c t] := by
  simp [WholeUnits, keyUnit, firstUnit, bytes32]

theorem wholeUnits_resync (x : StaleSet) (t : Word32) : WholeUnits [resyncUnit x t] := by
  simp [WholeUnits, resyncUnit, firstUnit, bytes32]

theorem within_storeUnits : (n : Nat) → (us : List (List Byte)) → (s : State) → WholeUnits us →
    Within [.mem, .ring] s (storeUnits n us s)
  | _, [], s, _ => Within.refl _ s
  | n, u :: rest, s, whole => by
    have len : u.length = 8 := whole u (by simp)
    refine (within_storeBytes_ring (unitOffset n) u s ?_ ?_).trans
      (within_storeUnits (n + 1) rest _ fun x hx => whole x (by simp [hx]))
    · unfold unitOffset; omega
    · rw [len]; unfold unitOffset; omega

theorem within_place (us : List (List Byte)) (s : State) (whole : WholeUnits us) : Within reporting s (place us s) := by
  have stored := within_storeUnits s.queue.write us s whole
  exact ((stored.then (within_queue _ _)).then (within_setCause _ _)).mono (by simp)

theorem within_setStale (x : StaleSet) (s : State) : Within [.queue] s (setStale x s) := by
  unfold setStale
  split
  · exact Within.refl _ s
  · exact ((within_queue _ s).then (within_publish _ _)).mono (by simp)

theorem within_placeResync (s : State) : Within reporting s (placeResync s) :=
  ((within_place _ s (wholeUnits_resync _ _)).then (within_setStale _ _)).mono (by simp)

theorem within_resyncIfDue (s : State) : Within reporting s (resyncIfDue s) := (within_placeResync s).when

theorem within_offer (n : Notice) (s : State) : Within reporting s (offer n s) :=
  (within_resyncIfDue s).trans ((within_place _ _ (wholeUnits_notice n _)).ite ((within_setStale _ _).mono (by simp)))

theorem within_offerKeyDown (late : Bool) (p : Nat) (c : Word16) (s : State) :
    Within reporting s (offerKeyDown late p c s).1 := by
  unfold offerKeyDown
  dsimp only
  split
  · exact (within_resyncIfDue s).trans (within_place _ _ (wholeUnits_key _ _ _ _))
  · exact within_resyncIfDue s

theorem within_offerKeyUp (sweep : Bool) (p : Nat) (c : Word16) (s : State) :
    Within reporting s (offerKeyUp sweep p c s).1 := by
  unfold offerKeyUp
  dsimp only
  split
  · exact (within_resyncIfDue s).trans (within_place _ _ (wholeUnits_key _ _ _ _))
  · exact within_resyncIfDue s

/-- A change of the scanner that leaves mode, positions, pass timer and keymap. -/
theorem within_kbd (k : Keyboard) (s : State) (mode : k.mode = s.kbd.mode) (positions : k.positions = s.kbd.positions)
    (pass : k.passMs = s.kbd.passMs) (keymap : k.keymap = s.kbd.keymap) :
    Within [.kbd, .keys] s { s with kbd := k } :=
  { Within.refl _ s with
    kbd := touched (by simp), matrix := fun _ => ⟨mode, positions, pass, keymap⟩, mode := fun _ d => mode.trans d
    keys := touched (by simp) }

theorem resetPressCount_same (k : Keyboard) : (resetPressCount k).mode = k.mode ∧
    (resetPressCount k).positions = k.positions ∧ (resetPressCount k).passMs = k.passMs ∧
    (resetPressCount k).keymap = k.keymap ∧ (resetPressCount k).table = k.table := by
  unfold resetPressCount
  split <;> exact ⟨rfl, rfl, rfl, rfl, rfl⟩

theorem tableEmptied_same (k : Keyboard) : (tableEmptied k).mode = k.mode ∧
    (tableEmptied k).positions = k.positions ∧ (tableEmptied k).passMs = k.passMs ∧
    (tableEmptied k).keymap = k.keymap := by
  unfold tableEmptied
  split <;> exact ⟨rfl, rfl, rfl, rfl⟩

/-- R36: the press count is no part of a frame. -/
theorem within_pressCount (k : Keyboard) (s : State) (mode : k.mode = s.kbd.mode) (positions : k.positions = s.kbd.positions)
    (pass : k.passMs = s.kbd.passMs) (keymap : k.keymap = s.kbd.keymap) (table : k.table = s.kbd.table) :
    Within [.kbd] s { s with kbd := resetPressCount k } := by
  obtain ⟨rm, rp, rq, rk, rt⟩ := resetPressCount_same k
  exact { Within.refl _ s with
          kbd := touched (by simp)
          matrix := fun _ => ⟨rm.trans mode, rp.trans positions, rq.trans pass, rk.trans keymap⟩
          mode := fun _ d => (rm.trans mode).trans d
          keys := fun _ d => ⟨(rm.trans mode).trans d, rt.trans table⟩ }

theorem within_placeOwed : (l : List OwedRelease) → (s : State) → Within (.kbd :: reporting) s (placeOwed l s)
  | [], s => Within.refl _ s
  | r :: rest, s => by
    have owed : Within [.kbd] s { s with kbd := { s.kbd with owed := rest } } :=
      { Within.refl _ s with kbd := touched (by simp) }
    unfold placeOwed
    split
    · exact ((owed.then (within_place _ _ (wholeUnits_key _ _ _ _))).mono (by simp)).trans (within_placeOwed rest _)
    · exact Within.refl _ s

theorem within_roomEvent (s : State) : Within (.kbd :: reporting) s (roomEvent s) :=
  ((within_updating _ (((within_placeOwed _ s).then (within_pressCount _ _ rfl rfl rfl rfl rfl)).mono (W := .kbd :: reporting) (by simp))).then
    (within_resyncIfDue _)).mono (by simp)

theorem within_emptyQueue (s : State) : Within (.kbd :: reporting) s (emptyQueue s) := by
  unfold emptyQueue
  have forgotten : Within [.kbd] s (updating .keyboard (fun x => { x with kbd := resetPressCount { x.kbd with owed := [] } }) s) :=
    within_updating _ (within_pressCount _ s rfl rfl rfl rfl rfl)
  exact ((forgotten.then (within_queue _ _)).then (within_setStale _ _)).mono (by simp)

/-! ### Charge controller -/

theorem within_chgUpdate (f : State → Charge) (s : State) :
    Within [.chg] s (updating .charger (fun x => { x with chg := f x }) s) := within_updating .charger (within_chg _ s)

theorem within_offerGroup (s : State) : Within [.chg, .port .a] s (offerGroup s) := by
  unfold offerGroup
  split
  · exact (within_chg _ s).mono (by simp)
  · exact (within_updatingPort .a _ s).mono (by simp)

theorem within_writeDecision (s : State) : Within [.chg, .port .a] s (writeDecision s) :=
  (Within.refl _ s).ite (within_offerGroup s)

theorem within_chargeNotice (old : Charge) (s : State) : Within reporting s (chargeNotice old s) := (within_offer _ s).when

theorem within_evaluateOnce (f : Charge → Charge) (s : State) : Within charging s (evaluateOnce f s) := by
  unfold evaluateOnce
  have decided : Within [.chg, .port .a] s (updating .charger
      (fun x => writeDecision { { x with chg := f x.chg } with chg := evaluated { x with chg := f x.chg } }) s) :=
    within_updating .charger (((within_chg _ s).then (within_writeDecision _)).mono (by simp))
  exact (decided.then (within_chargeNotice _ _)).mono (by simp)

theorem within_evaluateAgain : (n d : Nat) → (s : State) → Within charging s (evaluateAgain n d s)
  | 0, _, s => Within.refl _ s
  | n + 1, _, s => (Within.refl _ s).ite ((within_evaluateOnce id s).trans (within_evaluateAgain n _ _))

theorem within_evaluateWith (f : Charge → Charge) (s : State) : Within charging s (evaluateWith f s) :=
  (within_evaluateOnce f s).trans (within_evaluateAgain _ _ _)

theorem within_evaluate (s : State) : Within charging s (evaluate s) := within_evaluateWith id s

theorem within_evaluateTimes : (n : Nat) → (s : State) → Within charging s (evaluateTimes n s)
  | 0, s => Within.refl _ s
  | n + 1, s => (within_evaluate s).trans (within_evaluateTimes n _)

theorem within_redecideDpk (s : State) : Within charging s (redecideDpk s) :=
  (Within.refl _ s).ite (within_evaluateWith _ s)
theorem within_redecideDcs (s : State) : Within charging s (redecideDcs s) :=
  (Within.refl _ s).ite (within_evaluateWith _ s)
theorem within_redecideDfan (s : State) : Within charging s (redecideDfan s) :=
  (Within.refl _ s).ite (within_evaluateWith _ s)
theorem within_setInhibit (i : InhibitSet) (s : State) : Within charging s (setInhibit i s) :=
  (Within.refl _ s).ite (within_evaluateWith _ s)
theorem within_setPortCause (b : Bool) (s : State) : Within charging s (setPortCause b s) := within_setInhibit _ s
theorem within_setThermalCause (b : Bool) (s : State) : Within charging s (setThermalCause b s) := within_setInhibit _ s
theorem within_loseCharger (s : State) : Within charging s (loseCharger s) := (within_evaluateWith _ s).when
theorem within_findCharger (s : State) : Within charging s (findCharger s) := (within_evaluateWith _ s).when

theorem within_chargerDelivery (f : ChargerField) (o : BusOutcome) (v : Nat) (s : State) :
    Within charging s (chargerDelivery f o v s) := by
  unfold chargerDelivery
  dsimp only
  split
  · exact (((within_chg _ s).then (within_publish _ _)).then (within_findCharger _)).mono (by simp)
  · exact ((within_chgUpdate _ s).then (within_loseCharger _)).mono (by simp)

theorem within_groupEnd (g : WriteGroup) (o : BusOutcome) (s : State) : Within charging s (groupEnd g o s) := by
  unfold groupEnd
  exact ((within_chgUpdate _ s).then ((within_evaluate _).ite (within_loseCharger _))).mono (by simp)

theorem within_setChargeMode (m : ChargeMode) (s : State) : Within charging s (setChargeMode m s) := within_evaluateWith _ s
theorem within_setCap (c : Option Nat) (s : State) : Within charging s (setCap c s) := within_evaluateWith _ s

theorem within_adoptProfile (p : ChargeProfile) (s : State) : Within charging s (adoptProfile p s) := by
  have taken : Within [.chg] s (updating .charger (takeProfileTerms p) s) := within_updating .charger (within_chg _ s)
  exact (taken.then (within_evaluateTimes _ _)).mono (by simp)

/-! ### Fans -/

theorem within_raiseToFloor (f : FanId) (s : State) : Within [.th] s (raiseToFloor f s) := (within_setFan f _ s).when
theorem within_driveFan (b : State) (f : FanId) (s : State) : Within [.th] s (driveFan b f s) := (within_setFan f _ s).when
theorem within_setBoost (t : Option Nat) (s : State) : Within [.th] s (setBoost t s) :=
  within_updatingFans (within_th _ s)
theorem within_toggleBoost (s : State) : Within [.th] s (toggleBoost s) := within_setBoost _ s
theorem within_endBoost (s : State) : Within [.th] s (endBoost s) := (within_setBoost _ s).when

theorem within_setOverrides (a b : Nat) (s : State) : Within [.th] s (setOverrides a b s) :=
  within_updatingFans ((within_setFan .fan0 _ s).trans (within_setFan .fan1 _ _).when)

theorem within_clearOverrides (s : State) : Within [.th] s (clearOverrides s) := within_updatingFans (within_th _ s)
theorem within_openWindow (f : FanId) (s : State) : Within [.th] s (openWindow f s) := (within_setFan f _ s).when
theorem within_startFan (f : FanId) (s : State) : Within [.th] s (startFan f s) := (within_setFan f _ s).when

theorem within_fanNotice (f : FanId) (e : Option FanEvent) (s : State) : Within reporting s (fanNotice f e s) := by
  unfold fanNotice
  split
  · exact within_offer _ s
  · exact Within.refl _ s

theorem within_closeFan (f : FanId) (s : State) : Within (.th :: charging) s (closeFan f s) := by
  unfold closeFan
  split
  · exact (((within_setFan f _ s).then (within_fanNotice _ _ _)).then (within_raiseToFloor _ _).when |>.then
      (within_redecideDfan _)).mono (by simp)
  · exact Within.refl _ s

/-! ### Scanner -/

theorem within_owe (e : DownKey) (b : Bool) (s : State) : Within [.kbd] s (owe e b s) :=
  { Within.refl _ s with kbd := touched (by simp) }

theorem within_releaseReported (e : DownKey) (b : Bool) (s : State) :
    Within (.kbd :: reporting) s (releaseReported e b s) := by
  unfold releaseReported
  split
  · exact ((within_offerKeyUp _ _ _ s).then ((Within.refl _ _).ite (within_owe _ _ _))).mono (by simp)
  · exact (within_owe _ _ s).mono (by simp)

theorem within_changeEntry (n : Nat) (f : DownKey → DownKey) (s : State) :
    Within [.kbd, .keys] s { s with kbd := changeEntry n f s.kbd } := within_kbd _ s rfl rfl rfl rfl

theorem within_performAction (a : LocalAction) (s : State) : Within (.th :: charging) s (performAction a s) := by
  unfold performAction
  split
  · exact Within.refl _ s
  · exact Within.refl _ s
  · exact ((within_toggleBoost s).then (within_offer _ _)).mono (by simp)
  · exact ((within_setChargeMode _ s).then (within_offer _ _)).mono (by simp)

theorem within_reportDown (late : Bool) (n : Nat) (c : Word16) (s : State) :
    Within typing s (reportDown late n c s) := by
  unfold reportDown
  dsimp only
  split
  · exact Within.mono ((within_offerKeyDown _ _ _ s).then (within_changeEntry _ _ _)) (by simp)
  · exact Within.mono ((within_offerKeyDown _ _ _ s).then (within_kbd _ _ rfl rfl rfl rfl)) (by simp)

/-- What a key's report or its local action changes. -/
@[simp] def keying : List Part := [.causes, .mem, .ring, .queue, .kbd, .keys, .chg, .port .a, .th]

theorem within_actOrReport (late : Bool) (n : Nat) (c : Word16) (s : State) :
    Within keying s (actOrReport late n c s) :=
  ((within_reportDown late n c s).mono (by simp)).ite ((within_performAction _ s).mono (by simp))

theorem within_ignoreForRoom (s : State) : Within typing s (ignoreForRoom s) := by
  unfold ignoreForRoom
  split
  · exact Within.mono ((within_offer _ s).then (within_kbd _ _ rfl rfl rfl rfl)) (by simp)
  · exact Within.refl _ s

theorem within_addEntry (n : Nat) (c : Word16) (l f : Bool) (s : State) :
    Within [.kbd, .keys] s { s with kbd := addEntry n c l f s.kbd } := within_kbd _ s rfl rfl rfl rfl

theorem within_press (n : Nat) (s : State) : Within keying s (press n s) := by
  unfold press
  dsimp only
  split
  · exact (within_ignoreForRoom s).mono (by simp)
  · split
    · exact Within.refl _ s
    · split
      · exact (within_addEntry _ _ _ _ s).mono (by simp)
      · exact ((within_addEntry _ _ _ _ s).then (within_actOrReport _ _ _ _)).mono (by simp)

theorem within_removeEntry (n : Nat) (s : State) :
    Within [.kbd, .keys] s { s with kbd := resetPressCount (removeEntry n s.kbd) } := by
  obtain ⟨rm, rp, rq, rk, _⟩ := resetPressCount_same (removeEntry n s.kbd)
  obtain ⟨tm, tp, tq, tk⟩ := tableEmptied_same { s.kbd with table := s.kbd.table.filter fun e => e.position != n }
  exact within_kbd _ s (rm.trans tm) (rp.trans tp) (rq.trans tq) (rk.trans tk)

theorem within_release (n : Nat) (s : State) : Within typing s (release n s).1 := by
  unfold release
  split
  · exact Within.refl _ s
  · exact Within.mono ((within_releaseReported _ _ s).when.then (within_removeEntry _ _)) (by simp)

theorem within_promote : (l : List Nat) → (s : State) → Within keying s (promote l s)
  | [], s => Within.refl _ s
  | n :: rest, s => by
    unfold promote
    split
    · exact within_promote rest s
    · split
      · exact within_promote rest s
      · exact (((within_changeEntry _ _ s).then (within_actOrReport _ _ _ _)).mono (by simp)).trans (within_promote rest _)

theorem within_handleChanges : (l : List (Nat × Bool)) → (s : State) → (b : Bool) →
    Within keying s (handleChanges l s b).1
  | [], s, _ => Within.refl _ s
  | (n, true) :: rest, s, b => (within_press n s).trans (within_handleChanges rest _ b)
  | (n, false) :: rest, s, _ => ((within_release n s).then (within_handleChanges rest _ _)).mono (by simp)

/-- R34: what follows the debouncing of a pass. -/
theorem within_scanPass_changes (columns : List Byte) (s : State) :
    ∃ u, Within keying { s with kbd := { s.kbd with
        positions := passFrom columns s.kbd.keymap.debouncePasses (8 * s.power.straps.columns) 0 s.kbd.positions
        passMs := 0 } } u ∧ scanPass columns s = commit .keyboard s u := by
  refine ⟨_, ?_, rfl⟩
  dsimp only
  split
  · exact (within_handleChanges _ _ _).trans (within_promote _ _)
  · exact within_handleChanges _ _ _

theorem within_scanPass (cols : List Byte) (s : State) : Within (.matrix :: keying) s (scanPass cols s) := by
  obtain ⟨u, changes, run⟩ := within_scanPass_changes cols s
  have passed : Within [.kbd, .matrix] s { s with kbd := { s.kbd with
      positions := passFrom cols s.kbd.keymap.debouncePasses (8 * s.power.straps.columns) 0 s.kbd.positions
      passMs := 0 } } := { Within.refl _ s with kbd := touched (by simp), matrix := touched (by simp) }
  rw [run]
  exact within_commit _ s ((passed.then changes).mono (by simp))

theorem within_sweepEntries : (l : List DownKey) → (s : State) → Within (.kbd :: reporting) s (sweepEntries l s)
  | [], s => Within.refl _ s
  | _ :: rest, s => (within_releaseReported _ _ s).when.trans (within_sweepEntries rest _)

theorem within_releaseSweep (s : State) : Within typing s (releaseSweep s) := by
  unfold releaseSweep
  refine ((within_sweepEntries _ s).then (within_kbd _ _ ?_ ?_ ?_ ?_)).mono (by simp) <;>
  · obtain ⟨rm, rp, rq, rk, _⟩ := resetPressCount_same (tableEmptied { (sweepEntries s.kbd.table s).kbd with table := [] })
    obtain ⟨tm, tp, tq, tk⟩ := tableEmptied_same { (sweepEntries s.kbd.table s).kbd with table := [] }
    simp only [rm, rp, rq, rk, tm, tp, tq, tk]

/-- What a change of the scan mode changes; whether the mode is then the decided one, the change itself does not say. -/
@[simp] def scanning : List Part := [.causes, .mem, .ring, .queue, .kbd, .keys, .matrix, .mode]

/-- A change of the scanner, the mode not looked at. -/
theorem within_kbdAny (k : Keyboard) (s : State) : Within [.kbd, .keys, .matrix, .mode] s { s with kbd := k } :=
  { Within.refl _ s with kbd := touched (by simp), matrix := touched (by simp), mode := touched (by simp), keys := touched (by simp) }

theorem within_leaveMode (s : State) : Within scanning s (leaveMode s) := by
  unfold leaveMode
  split
  · exact Within.refl _ s
  · exact ((within_releaseSweep s).then (within_kbdAny _ _)).mono (by simp)
  · exact (within_kbdAny _ s).mono (by simp)

theorem within_enterMode (m : ScanMode) (s : State) : Within [.kbd, .keys, .matrix, .mode] s (enterMode m s) := by
  cases m <;> exact within_kbdAny _ s

theorem enterMode_mode (m : ScanMode) (s : State) : (enterMode m s).kbd.mode = m := by cases m <;> rfl

theorem decideMode_eq_of {s t : State} (lid : t.lidOpen = s.lidOpen) (state : t.power.state = s.power.state)
    (table : t.power.table = s.power.table) : decideMode t = decideMode s := by
  unfold decideMode
  rw [lid, state, table]

theorem decideMode_eq_of_power {s t : State} (power : t.power = s.power) : decideMode t = decideMode s :=
  decideMode_eq_of (congrArg (·.levels.lid) power) (congrArg (·.state) power) (congrArg (·.table) power)

/-- R31: a decision leaves the mode the decided one, whatever it was. -/
theorem scanModeDecided_decision (s : State) : scanModeDecided (scanModeDecision s) := by
  unfold scanModeDecision
  split
  · next same => exact same.symm
  · have w : Within scanning s (enterMode (decideMode s) (leaveMode s)) :=
      ((within_leaveMode s).then (within_enterMode _ _)).mono (by simp)
    have decided : scanModeDecided (enterMode (decideMode s) (leaveMode s)) := by
      unfold scanModeDecided
      rw [enterMode_mode, decideMode_eq_of_power (w.power (by simp))]
    unfold updating commit
    split
    · exact decided
    · exact (within_announce .keyboard _).mode List.not_mem_nil decided

end Sys2Proof.Proofs.Frames
end

section
/-! PROOF. The frame of each function of the power controller, and what a change of power state leaves in the power fields. A wake
out of SLEEP or OFF changes less than a change out of RUN, so a list is a parameter, bounded from below by what the state allows. -/
set_option Elab.async false

namespace Sys2Proof.Proofs.Frames

open Sys2Proof Sys2Proof.Machine Sys2Proof.Safety Sys2Proof.Laws

/-! ### The scan mode is decided again -/

/-- What stands in a longer list does not stand in a shorter one. -/
theorem Within.of_decided {T : List Part} {s t : State} (w : Within (.mode :: .keys :: T) s t) (mode : scanModeDecided t)
    (keys : .keys ∉ T → scanModeDecided s → t.kbd.table = s.kbd.table) : Within T s t where
  causes h := w.causes (by simp [h])
  mem h := w.mem (by simp [h])
  front h := w.front (by simp [h])
  ring h := w.ring (by simp [h])
  slot n h h' := w.slot n (by simp [h]) (by simp [h'])
  queue h := w.queue (by simp [h])
  posted h := w.posted (by simp [h])
  power h := w.power (by simp [h])
  kbd h := w.kbd (by simp [h])
  matrix h := w.matrix (by simp [h])
  mode _ _ := mode
  keys h d := ⟨mode, keys h d⟩
  port p h := w.port p (by simp [h])
  engine p h := w.engine p (by simp [h])
  pack k h := w.pack k (by simp [h])
  dsg h := w.dsg (by simp [h])
  chg h := w.chg (by simp [h])
  th h := w.th (by simp [h])

theorem within_scanModeChange (s : State) : Within scanning s (scanModeDecision s) := by
  unfold scanModeDecision
  split
  · exact Within.refl _ s
  · exact within_updating .keyboard (((within_leaveMode s).then (within_enterMode _ _)).mono (by simp))

/-- R31: a decision that leaves another mode than FULL leaves the table alone. -/
theorem scanModeDecision_table {s : State} (mode : s.kbd.mode ≠ .full) :
    (scanModeDecision s).kbd.table = s.kbd.table := by
  have left : (leaveMode s).kbd.table = s.kbd.table := by
    unfold leaveMode
    split
    · rfl
    · next full => exact absurd full mode
    · rfl
  have entered : ∀ (m : ScanMode) (x : State), (enterMode m x).kbd.table = x.kbd.table := fun m _ => by cases m <;> rfl
  unfold scanModeDecision updating commit
  split
  · rfl
  · split
    · exact (entered _ _).trans left
    · have same : ∀ x, (announce .keyboard x).kbd.table = x.kbd.table := fun _ => rfl
      exact (same _).trans ((entered _ _).trans left)

/-- What a decision of the scan mode changes; where the mode is decided already it changes nothing. -/
theorem within_scanModeDecision (s : State) : Within [.causes, .mem, .ring, .queue, .kbd, .matrix] s (scanModeDecision s) :=
  ((within_scanModeChange s).mono (by simp)).of_decided (scanModeDecided_decision s) fun _ decided => by
    have none : scanModeDecision s = s := if_pos decided.symm
    rw [none]

/-! ### The orders the spec leaves open -/

theorem within_eitherOrder {T : List Part} {f g : State → State} (hf : ∀ x, Within T x (f x))
    (hg : ∀ x, Within T x (g x)) (s : State) : Within T s (eitherOrder f g s) :=
  have turn := (within_useTurn s).mono (W := T) (by simp)
  Within.ite (turn.trans ((hf _).trans (hg _))) (turn.trans ((hg _).trans (hf _)))

theorem within_anyOrder {T : List Part} {f g h : State → State} (hf : ∀ x, Within T x (f x)) (hg : ∀ x, Within T x (g x))
    (hh : ∀ x, Within T x (h x)) (s : State) : Within T s (anyOrder f g h s) := by
  have turn := (within_useTurn s).mono (W := T) (by simp)
  unfold anyOrder
  dsimp only
  split
  · exact turn.trans ((hf _).trans ((hg _).trans (hh _)))
  · exact turn.trans ((hf _).trans ((hh _).trans (hg _)))
  · exact turn.trans ((hg _).trans ((hf _).trans (hh _)))
  · exact turn.trans ((hg _).trans ((hh _).trans (hf _)))
  · exact turn.trans ((hh _).trans ((hf _).trans (hg _)))
  · exact turn.trans ((hh _).trans ((hg _).trans (hf _)))

/-- The first reaction makes `Q` of `P`, the other two keep both. -/
theorem anyOrder_establishes {P Q : State → Prop} {f g h : State → State} (hf : ∀ x, P x → Q (f x))
    (gp : ∀ x, P x → P (g x)) (gq : ∀ x, Q x → Q (g x)) (hp : ∀ x, P x → P (h x)) (hq : ∀ x, Q x → Q (h x)) {s : State}
    (start : P (useTurn s)) : Q (anyOrder f g h s) := by
  unfold anyOrder
  dsimp only
  split
  · exact hq _ (gq _ (hf _ start))
  · exact gq _ (hq _ (hf _ start))
  · exact hq _ (hf _ (gp _ start))
  · exact hf _ (hp _ (gp _ start))
  · exact gq _ (hf _ (hp _ start))
  · exact hf _ (gp _ (hp _ start))

/-! ### Changes of power state -/

/-- A change of the power fields that leaves state, table and lid. -/
theorem within_power (p : Power) (s : State) (state : p.state = s.power.state) (table : p.table = s.power.table)
    (levels : p.levels = s.power.levels) : Within [.power] s { s with power := p } :=
  have same : decideMode { s with power := p } = decideMode s :=
    decideMode_eq_of (congrArg (·.lid) levels) state table
  { Within.refl _ s with
    power := touched (by simp), mode := fun _ d => Eq.trans d same.symm, keys := fun _ d => ⟨Eq.trans d same.symm, rfl⟩ }

theorem within_powerOnly (f : Power → Power) (s : State) (state : (f s.power).state = s.power.state)
    (table : (f s.power).table = s.power.table) (levels : (f s.power).levels = s.power.levels) :
    Within [.power] s (updatingPower (fun x => { x with power := f x.power }) s) :=
  within_updatingPower (within_power _ s state table levels)

/-- A change of the power fields, the mode not looked at. -/
theorem within_powerAny (p : Power) (s : State) : Within [.power, .mode, .keys] s { s with power := p } :=
  { Within.refl _ s with power := touched (by simp), mode := touched (by simp), keys := touched (by simp) }

theorem within_withdrawOverrides (s : State) : Within (.th :: charging) s (withdrawOverrides s) :=
  ((within_setCap none s).then (within_clearOverrides _)).mono (by simp)

theorem within_endBoostDecision (s : State) :
    Within [.causes, .mem, .ring, .queue, .kbd, .matrix, .th] s (endBoost (scanModeDecision s)) :=
  ((within_scanModeDecision s).then (within_endBoost _)).mono (by simp)

/-- R4: whether a change of power state leaves RUN. -/
def leaves (s : State) (new : PowerState) : Bool := s.power.state == .run && new != .run

/-- The reactions of `changePower` to the new state. -/
theorem changePower_eq (new : PowerState) (c : Cause) (f : Power → Power) (s : State) : changePower new c f s =
    anyOrder (fun x => if leaves s new then endBoost (scanModeDecision x) else scanModeDecision x)
      (fun x => if s.overrideValid && leaves s new then withdrawOverrides x else x) (offer (.power new c))
      (updatingPower (fun x => { x with power := powerAfter new c f x.power }) s) := rfl

/-- What the reactions to the new state change. -/
theorem within_reactions {T : List Part} (new : PowerState) (c : Cause) (s : State)
    (sub : [.causes, .mem, .ring, .queue, .kbd, .matrix] ⊆ T) (left : leaves s new = true → [.chg, .port .a, .th] ⊆ T) (x : State) :
    Within T x (anyOrder (fun x => if leaves s new then endBoost (scanModeDecision x) else scanModeDecision x)
      (fun x => if s.overrideValid && leaves s new then withdrawOverrides x else x) (offer (.power new c)) x) := by
  simp only [List.cons_subset, List.nil_subset, and_true] at sub left
  refine within_anyOrder (fun y => ?_) (fun y => ?_) (fun y => (within_offer _ y).mono (by simp [sub])) x
  · split
    · next l => exact (within_endBoostDecision y).mono (by simp [sub, left l])
    · exact (within_scanModeDecision y).mono (by simp [sub])
  · split
    · next l =>
      rw [Bool.and_eq_true] at l
      exact (within_withdrawOverrides y).mono (by simp [sub, left l.2])
    · exact Within.refl _ _

theorem within_powerUpdate (f : Power → Power) (s : State) :
    Within [.power, .mode, .keys] s (updatingPower (fun x => { x with power := f x.power }) s) :=
  within_updatingPower (within_powerAny _ s)

theorem updatingPower_power (f : Power → Power) (s : State) :
    (updatingPower (fun x => { x with power := f x.power }) s).power = f s.power := by
  unfold updatingPower commitPower
  split <;> rfl

/-- R4, R6: the power fields after a change of power state. -/
theorem changePower_power (new : PowerState) (c : Cause) (f : Power → Power) (s : State) :
    (changePower new c f s).power = powerAfter new c f s.power := by
  rw [changePower_eq, (within_reactions (T := [.causes, .mem, .ring, .queue, .kbd, .matrix, .keys, .chg, .port .a, .th])
    new c s (by simp) (fun _ => by simp) _).power (by simp), updatingPower_power]

/-- R31: after a change of power state the scan mode is the decided one. -/
theorem changePower_decided (new : PowerState) (c : Cause) (f : Power → Power) (s : State) :
    scanModeDecided (changePower new c f s) := by
  rw [changePower_eq]
  refine anyOrder_establishes (P := fun _ => True) (fun x _ => ?_) (fun _ _ => trivial) (fun x q => ?_)
    (fun _ _ => trivial) (fun x q => (within_offer _ x).mode (by simp) q) trivial
  · split
    · exact (within_endBoost _).mode (by simp) (scanModeDecided_decision x)
    · exact scanModeDecided_decision x
  · split
    · exact (within_withdrawOverrides x).mode (by simp) q
    · exact q

/-- R31, R46: the table stands still where the scan mode is another than FULL. -/
theorem changePower_table {s : State} (new : PowerState) (c : Cause) (f : Power → Power) (mode : s.kbd.mode ≠ .full) :
    (changePower new c f s).kbd.table = s.kbd.table := by
  have none : ∀ x, (if leaves s new then endBoost (scanModeDecision x) else scanModeDecision x).kbd =
      (scanModeDecision x).kbd := fun x => by
    split
    · exact (within_endBoost _).kbd (by simp)
    · rfl
  have withdrawn : ∀ x, (if s.overrideValid && leaves s new then withdrawOverrides x else x).kbd = x.kbd := fun x => by
    split
    · exact (within_withdrawOverrides x).kbd (by simp)
    · rfl
  have offered : ∀ x, (offer (.power new c) x).kbd = x.kbd := fun x => (within_offer _ x).kbd (by simp)
  rw [changePower_eq]
  refine anyOrder_establishes (P := fun x => x.kbd = s.kbd) (Q := fun x => x.kbd.table = s.kbd.table)
    (fun x p => ?_) (fun x p => (withdrawn x).trans p) (fun x q => ?_) (fun x p => (offered x).trans p)
    (fun x q => ?_) ((within_powerUpdate _ s).kbd (by simp))
  · rw [none, scanModeDecision_table (by rw [p]; exact mode), p]
  · rw [withdrawn, q]
  · rw [offered, q]

/-- A decided mode is FULL only in RUN. -/
theorem mode_ne_full_of_decided {s : State} (decided : scanModeDecided s) (state : s.power.state ≠ .run) :
    s.kbd.mode ≠ .full := by
  unfold scanModeDecided decideMode at decided
  rw [decided]
  split
  · split
    · next run => exact absurd run state
    · split <;> simp
    · split <;> simp
    all_goals simp
  · simp

theorem waking_of_subset {T : List Part} (sub : waking ⊆ T) :
    [Part.causes, .mem, .ring, .queue, .kbd, .matrix] ⊆ T := List.Subset.trans (by simp) sub

/-- R4: a change of power state; out of RUN it changes more. -/
theorem within_changePower {T : List Part} (new : PowerState) (c : Cause) (f : Power → Power) (s : State) (sub : waking ⊆ T)
    (left : leaves s new = true → [.chg, .port .a, .th] ⊆ T) (keys : s.power.state = .run → .keys ∈ T) :
    Within T s (changePower new c f s) := by
  refine Within.of_decided ?_ (changePower_decided new c f s) fun none decided => ?_
  · rw [changePower_eq]
    have power : Part.power ∈ T := sub (by simp)
    exact ((within_powerUpdate _ s).mono (by simp [power])).trans (within_reactions new c s
      (fun _ m => by simp [waking_of_subset sub m]) (fun l _ m => by simp [left l m]) _)
  · exact changePower_table new c f (mode_ne_full_of_decided decided fun run => none (keys run))

/-! ### Wakes -/

theorem mem_toFront {f : Factor} (l : List Factor) (n : Nat) : f ∈ toFront l n ↔ f ∈ l := by
  unfold toFront
  split
  · next x here =>
    obtain ⟨lt, eq⟩ := List.getElem?_eq_some_iff.mp here
    have whole : l.take n ++ x :: l.drop (n + 1) = l := by rw [← eq, ← List.drop_eq_getElem_cons lt, List.take_append_drop]
    rw [List.eraseIdx_eq_take_drop_succ]
    exact List.perm_middle.mem_iff.symm.trans (by rw [whole])
  · exact Iff.rfl

/-- R12: what latching leaves of the power fields: only the pending set grows, and its first factor stays. -/
theorem latch_power (fs : List Factor) (s : State) : ∃ l, (latch fs s).power = { s.power with pendingWake := l } ∧
    (∀ f ∈ fs, f ∈ l) ∧ (s.power.pendingWake ≠ [] → l.head? = s.power.pendingWake.head?) ∧ s.power.pendingWake ⊆ l := by
  have grown : ∀ f ∈ fs, f ∈ s.power.pendingWake ++ fs.filter fun f => !s.power.pendingWake.contains f := fun f m => by
    by_cases old : f ∈ s.power.pendingWake <;> simp [old, m]
  unfold latch
  dsimp only
  split
  · next first =>
    refine ⟨_, rfl, fun f m => ?_, fun h => absurd first.1 h, by simp [first.1]⟩
    rw [mem_toFront]
    exact (List.mem_append.mp (grown f m)).resolve_left (by simp [first.1])
  · exact ⟨_, rfl, grown, fun h => by rw [List.head?_append, List.head?_eq_some_head h]; rfl, List.subset_append_left _ _⟩

theorem within_latch (fs : List Factor) (s : State) : Within [.power] s (latch fs s) := by
  unfold latch
  dsimp only
  split
  · exact Within.mono ((within_useTurn s).then (within_power _ _ rfl rfl rfl)) (by simp)
  · exact within_power _ s rfl rfl rfl

theorem within_beginHold (s : State) : Within [.power] s (beginHold s) := within_power _ s rfl rfl rfl

theorem within_raiseMain (s : State) : Within [.power] s (raiseMain s) := by
  have raised := within_power { s.power with enMain := true, step := .mainHigh, stepMs := 0 } s rfl rfl rfl
  unfold raiseMain
  dsimp only
  split
  · exact raised.trans (within_beginHold _)
  · exact raised

theorem within_standbyUp (s : State) : Within [.power] s (standbyUp s) :=
  (within_power { s.power with seenStby := true } s rfl rfl rfl).trans (within_raiseMain _)

/-- R5: a wake out of another state than RUN. -/
theorem within_enterWaking (fs : List Factor) (first : Option Factor) (s : State) (state : s.power.state ≠ .run) :
    Within waking s (enterWaking fs first s) := by
  have changed : ∀ f, Within waking s (changePower .waking .wake f s) := fun f =>
    within_changePower .waking .wake f s (List.Subset.refl _) (fun l => by simp [leaves, state] at l)
      fun run => absurd run state
  unfold enterWaking
  dsimp only
  split
  · split
    · exact ((changed _).then (within_standbyUp _)).mono (by simp)
    · exact changed _
  · exact ((changed _).then (within_raiseMain _)).mono (by simp)

theorem within_takeWake (fs : List Factor) (s : State) (state : s.power.state ≠ .run) :
    Within waking s (takeWake fs s) := by
  unfold takeWake
  refine ((within_latch _ s).then (within_enterWaking _ _ _ ?_)).mono (by simp)
  obtain ⟨l, power, _⟩ := latch_power (fs ++ if s.power.state = .sleep then sleepConditions s else offConditions s) s
  rw [power]
  exact state

theorem within_powerOn (f : Factor) (s : State) (state : s.power.state ≠ .run) : Within waking s (powerOn f s) :=
  (Within.refl _ s).ite (within_takeWake _ s state)

/-! ### Shutting down and sleeping -/

/-- R4, R6: a change of power state, whatever the state before. -/
theorem within_anyChange (new : PowerState) (c : Cause) (f : Power → Power) (s : State) :
    Within powering s (changePower new c f s) :=
  within_changePower new c f s (by simp) (fun _ => by simp) fun _ => by simp

theorem within_snapshot (s : State) : Within [.power] s { s with power := takeSnapshot s.power } :=
  within_power _ s rfl rfl rfl

theorem within_reachOff (s : State) : Within powering s (reachOff s) := by
  have off := within_powerUpdate (fun p => { p with state := .off, cause := completionCause s.power, step := .none, stepMs := 0 }) s
  have scanned := (off.then (within_scanModeDecision _)).mono (W := .mode :: .keys :: powering) (by simp)
  have told := (scanned.next (within_emptyQueue _) (by simp)).next (within_offer (.power .off (completionCause s.power)) _) (by simp)
  have decided := (within_offer (.power .off (completionCause s.power)) _).mode (by simp)
    ((within_emptyQueue _).mode (by simp) (scanModeDecided_decision (updatingPower (fun x => { x with power :=
      { x.power with state := .off, cause := completionCause s.power, step := .none, stepMs := 0 } }) s)))
  exact (told.next (within_snapshot _) (by simp)).of_decided ((within_snapshot _).mode (by simp) decided) fun h => absurd (by simp) h

theorem within_dropStandby (s : State) : Within powering s (dropStandby s) := by
  have dropped := within_power { s.power with enStby := false, step := .stbyLow, stepMs := 0 } s rfl rfl rfl
  unfold dropStandby
  dsimp only
  split
  · exact dropped.mono (by simp)
  · exact (dropped.then (within_reachOff _)).mono (by simp)

theorem within_enterShutdown (c : Cause) (s : State) : Within powering s (enterShutdown c s) := by
  unfold enterShutdown
  dsimp only
  split
  · split
    · exact within_anyChange _ _ _ s
    · exact (within_anyChange _ _ _ s).trans (within_dropStandby _)
  · exact Within.refl _ s

theorem powerAfter_state (new : PowerState) (c : Cause) (f : Power → Power) (p : Power) :
    (powerAfter new c f p).state = new := rfl

theorem within_reachSleep (s : State) : Within powering s (reachSleep s) := by
  unfold reachSleep
  dsimp only
  split
  · exact within_anyChange _ _ _ s
  · refine ((within_anyChange _ _ _ s).then (within_takeWake _ _ ?_)).mono (by simp)
    rw [changePower_power, powerAfter_state]
    simp

theorem within_enterSuspending (s : State) : Within powering s (enterSuspending s) := by
  unfold enterSuspending
  dsimp only
  split
  · exact within_anyChange _ _ _ s
  · exact (within_anyChange _ _ _ s).trans (within_reachSleep _)

theorem within_delayExpires (s : State) : Within powering s (delayExpires s) := by
  unfold delayExpires
  split
  · exact Within.refl _ s
  · split
    · exact within_enterSuspending s
    · exact within_enterShutdown _ s

/-! ### Critical battery and the discharge selection -/

/-- What a decision of the discharge selection changes. -/
@[simp] def selecting : List Part := [.causes, .mem, .ring, .queue, .power, .kbd, .matrix, .dsg]

/-- A change of critical battery and of the grace. -/
theorem within_critical (d : Discharge) (p : Power) (s : State) (state : p.state = s.power.state)
    (table : p.table = s.power.table) (levels : p.levels = s.power.levels) :
    Within [.power, .dsg] s { s with dsg := d, power := p } :=
  ((within_power p s state table levels).then (within_dsg d _)).mono (by simp)

theorem within_criticalNotice (s : State) : Within (.power :: reporting) s (criticalNotice s) :=
  ((within_powerOnly (fun p => { p with graceMs := some 0 }) s rfl rfl rfl).then (within_offer _ _)).mono (by simp)

theorem updatingPower_state (f : State → State) (s : State) (state : (f s).power.state = s.power.state) :
    (updatingPower f s).power.state = s.power.state := by
  unfold updatingPower commitPower
  split
  · exact state
  · exact state

theorem within_criticalRise (s : State) : Within selecting s (criticalRise s) := by
  have raised : Within [.dsg] s (updatingPower (fun x => { x with dsg := { x.dsg with critical := true } }) s) :=
    within_updatingPower (within_dsg _ s)
  unfold criticalRise
  dsimp only
  split
  · split
    · exact (raised.then (within_latch _ _)).mono (by simp)
    · have rose : Within [.power, .dsg] s (updatingPower (fun x => { x with
          dsg := { x.dsg with critical := true }, power := { x.power with graceMs := some 0 } }) s) :=
        within_updatingPower (within_critical _ { s.power with graceMs := some 0 } s rfl rfl rfl)
      exact (rose.then (within_offer _ _)).mono (by simp)
  · exact (raised.then (within_latch _ _)).mono (by simp)
  · next sleep =>
    refine (raised.then (within_takeWake _ _ ?_)).mono (by simp)
    rw [raised.power (by simp), sleep]
    simp
  all_goals exact raised.mono (by simp)

theorem within_criticalWithdrawal (s : State) : Within [.power, .dsg] s (criticalWithdrawal s) :=
  within_updatingPower (within_critical _ { s.power with graceMs := none } s rfl rfl rfl)

theorem within_setCritical (b : Bool) (s : State) : Within selecting s (setCritical b s) :=
  (Within.refl _ s).ite ((within_criticalRise s).ite ((within_criticalWithdrawal s).mono (by simp)))

theorem within_criticalDecision (s : State) : Within selecting s (criticalDecision s) := within_setCritical _ s

theorem within_setDischarge (x : Option PackId) (s : State) : Within [.dsg] s (setDischarge x s) :=
  (Within.refl _ s).ite (within_updatingPacks (within_dsg _ s))

theorem within_dischargeDecision (s : State) : Within selecting s (dischargeDecision s) :=
  ((within_setDischarge _ s).then (within_criticalDecision _)).mono (by simp)

/-! ### Rails, button, heartbeat -/

theorem within_reachRun (s : State) : Within (.keys :: waking) s (reachRun s) := by
  have running := within_changePower .run (completionCause s.power)
    (fun p => { p with hrstAsserted := false, step := .none, stepMs := 0 }) s (T := .keys :: waking) (by simp)
    (fun l => by simp [leaves] at l) (fun _ => by simp)
  unfold reachRun
  dsimp only
  split
  · exact (running.next (within_offer _ _) (by simp)).next (within_criticalNotice _) (by simp)
  · exact running.next (within_offer _ _) (by simp)

theorem within_powerGoodUp (r : Rail) (s : State) : Within [.power] s (powerGoodUp r s) := by
  unfold powerGoodUp
  split
  · exact within_standbyUp s
  · exact within_beginHold s
  · exact Within.refl _ s

theorem within_powerGoodDown (r : Rail) (s : State) : Within powering s (powerGoodDown r s) := by
  unfold powerGoodDown
  split
  · exact (within_enterShutdown _ s).when
  · exact (within_enterShutdown _ s).when
  · exact within_enterShutdown _ s
  · exact within_enterShutdown _ s
  · exact within_reachSleep s
  · exact within_enterShutdown _ s
  · exact Within.refl _ s
  · exact (within_dropStandby s).when
  · exact (within_reachOff s).when
  · exact Within.refl _ s

theorem within_setPowerGood (r : Rail) (b : Bool) (s : State) : Within [] s (setPowerGood r b s) := by
  cases r <;> exact within_pins _ s

theorem within_waitRunsOut (s : State) : Within powering s (waitRunsOut s) := by
  have late := within_power { s.power with timedOut := true } s rfl rfl rfl
  unfold waitRunsOut
  dsimp only
  split
  · exact within_enterShutdown _ s
  · exact within_enterShutdown _ s
  · split
    · exact (late.then (within_reachSleep _)).mono (by simp)
    · exact (late.then (within_dropStandby _)).mono (by simp)
  · exact (late.then (within_reachOff _)).mono (by simp)
  all_goals exact Within.refl _ s

theorem within_longPress (s : State) : Within powering s (longPress s) :=
  Within.mono ((within_enterShutdown _ s).then (within_power _ _ rfl rfl rfl)) (by simp)

theorem within_buttonPress (s : State) : Within waking s (buttonPress s) := by
  have held := within_power { s.power with heldMs := some 0 } s rfl rfl rfl
  unfold buttonPress
  dsimp only
  split
  · exact Within.refl _ s
  · split
    · split
      · exact (held.then (within_latch _ _)).mono (by simp)
      · exact ((held.then (within_power { s.power with heldMs := some 0, reported := true } _ rfl rfl rfl)).then (within_offer _ _)).mono (by simp)
    · exact (held.then (within_latch _ _)).mono (by simp)
    · next sleep => exact (held.then (within_takeWake _ _ (by simp [sleep]))).mono (by simp)
    · next off => exact (held.then (within_powerOn _ _ (by simp [off]))).mono (by simp)
    all_goals exact held.mono (by simp)

theorem within_buttonRelease (s : State) : Within (.power :: reporting) s (buttonRelease s) := by
  have let_go := within_power { s.power with heldMs := none, comboMs := none, ignore := false, reported := false } s rfl rfl rfl
  unfold buttonRelease
  dsimp only
  split
  · exact (let_go.then (within_offer _ _)).mono (by simp)
  · exact let_go.mono (by simp)

theorem within_comboSettle (s : State) : Within powering s (comboSettle s) := by
  have moved : ∀ n, Within [.power] s { s with power := { s.power with comboMs := n } } := fun _ =>
    within_power _ s rfl rfl rfl
  unfold comboSettle
  dsimp only
  split
  · split
    · exact Within.refl _ s
    · exact (moved _).mono (by simp)
  · split
    · split
      · exact ((moved _).then (within_longPress _)).mono (by simp)
      · exact (moved _).mono (by simp)
    · exact Within.refl _ s

theorem within_comboExpires (s : State) : Within powering s (comboExpires s) :=
  ((within_power { s.power with comboMs := none, ignore := true } s rfl rfl rfl).then (within_enterShutdown _ _)).mono (by simp)

theorem within_wakeSettle (s : State) : Within waking s (wakeSettle s) := by
  unfold wakeSettle
  split
  · exact (within_latch _ s).mono (by simp)
  · split
    · next sleep =>
      exact (Within.refl _ s).ite (within_takeWake _ s (by simp [sleep]))
    · next off => exact (Within.refl _ s).ite (within_takeWake _ s (by simp [off]))
    all_goals exact Within.refl _ s

theorem within_powerSettle (s : State) : Within powering s (powerSettle s) :=
  ((within_comboSettle s).then (within_wakeSettle _)).mono (by simp)

theorem within_heartbeatEvent (s : State) : Within (.power :: reporting) s (heartbeatEvent s) := by
  have watched : Within [.power] s (updatingPower (fun x => { x with power :=
      { x.power with heartbeat := .watching, heartbeatMs := 0 } }) s) :=
    within_updatingPower (within_power _ s rfl rfl rfl)
  unfold heartbeatEvent
  split
  · split
    · exact watched.mono (by simp)
    · exact watched.mono (by simp)
    · exact (Within.refl _ s).ite ((watched.then (within_offer _ _)).mono (by simp))
  · exact Within.refl _ s

theorem within_heartbeatAct (s : State) : Within powering s (heartbeatAct s) := by
  unfold heartbeatAct
  split
  · exact Within.refl _ s
  · refine (within_power _ s ?_ ?_ ?_).mono (by simp) <;> unfold abandonDelay <;> dsimp only <;> split <;> rfl
  · exact within_enterShutdown _ s

theorem within_heartbeatExpires (s : State) : Within powering s (heartbeatExpires s) := by
  have silent : Within [.power] s (updatingPower (fun x => { x with power :=
      { x.power with heartbeat := .silent, heartbeatMs := 0 } }) s) :=
    within_updatingPower (within_power _ s rfl rfl rfl)
  have told := ((silent.then (within_withdrawOverrides _)).then (within_offer (.heartbeat false) _)).mono (W := powering) (by simp)
  exact told.trans (within_heartbeatAct _)

theorem within_pulseEnds (s : State) : Within (.power :: .th :: charging) s (pulseEnds s) := by
  have ended : Within [.power] s (updatingPower (fun x => { x with power :=
      { x.power with pulseMs := none, hrstAsserted := false, heartbeat := .disarmed, heartbeatMs := 0 } }) s) :=
    within_updatingPower (within_power _ s rfl rfl rfl)
  exact ((ended.then (within_withdrawOverrides _)).mono (by simp)).ite (ended.mono (by simp))

theorem within_startDelay (t : SleepTarget) (n : Nat) (s : State) : Within [.power] s (startDelay t n s) := by
  unfold startDelay
  cases t
  · exact within_power _ s rfl rfl rfl
  · exact within_power _ s rfl rfl rfl

theorem within_adoptPlatform (t : PlatformTable) (s : State) : Within powering s (adoptPlatform t s) := by
  have scanned : Within powering s (scanModeDecision { s with power := takePlatform t s.power }) :=
    (((within_powerAny (takePlatform t s.power) s).then (within_scanModeDecision _)).mono (W := .mode :: .keys :: powering) (by simp)).of_decided (scanModeDecided_decision _) fun h => absurd (by simp) h
  unfold adoptPlatform
  dsimp only
  split
  · exact scanned.trans (within_longPress _)
  · exact scanned

end Sys2Proof.Proofs.Frames
end

section
/-! PROOF. The frame of each function of the request slots, the pack monitor, the thermal unit and the ports. -/
set_option Elab.async false

namespace Sys2Proof.Proofs.Frames

open Sys2Proof Sys2Proof.Machine Sys2Proof.Safety Sys2Proof.Laws

/-! ### Request slots -/

/-- The runs of a reply stay inside the parameter area of their slot (R190). -/
def FitsSlot (reply : List ReplyBytes) : Prop := ∀ r ∈ reply, r.1 + r.2.length ≤ 48

theorem within_setSlotState (n v : Nat) (s : State) : Within [.mem, .slot n] s (setSlotState n v s) :=
  within_storeBytes_slot n _ _ s (Nat.le_refl _) (by simp [bytes16])

theorem within_storeReply (n : Nat) : (reply : List ReplyBytes) → (s : State) → FitsSlot reply →
    Within [.mem, .slot n] s (storeReply n reply s)
  | [], s, _ => Within.refl _ s
  | (o, b) :: rest, s, fits => by
    have len : o + b.length ≤ 48 := fits (o, b) (by simp)
    exact (within_storeBytes_slot n _ b s (by omega) (by omega)).trans
      (within_storeReply n rest _ fun r m => fits r (by simp [m]))

theorem within_storeReply_any (n : Nat) : (reply : List ReplyBytes) → (s : State) →
    Within [.mem, .slots] s (storeReply n reply s)
  | [], s => Within.refl _ s
  | (o, b) :: rest, s => (within_storeBytes_slots _ b s (by unfold slotBase; omega)).trans
      (within_storeReply_any n rest _)

theorem within_holdSlot (n : Nat) (w : HeldWork) (s : State) : Within [.posted] s (holdSlot n w s) := within_posted _ s

/-- R188: what follows the reply: detail and flags, result, state word, the list and the cause. -/
theorem within_completed (n : Nat) (r : Result) (d b : Nat) (s : State) : Within [.causes, .mem, .slot n, .posted] s
    (setCause causeSlotDone { setSlotState n slotDone (storeBytes (slotBase n + 4) (bytes16 r.code)
      (storeBytes (slotBase n + 6) (bytes16 d ++ [BitVec.ofNat 8 b]) s)) with
      posted := s.posted.filter fun h => h.slot != n }) := by
  have detail := within_storeBytes_slot n (slotBase n + 6) (bytes16 d ++ [BitVec.ofNat 8 b]) s (by omega) (by simp [bytes16])
  have result := within_storeBytes_slot n (slotBase n + 4) (bytes16 r.code)
    (storeBytes (slotBase n + 6) (bytes16 d ++ [BitVec.ofNat 8 b]) s) (by omega) (by simp [bytes16])
  have stored := (detail.trans result).trans (within_setSlotState n slotDone _)
  exact Within.mono ((stored.then (within_posted _ _)).then (within_setCause _ _)) (by simp)

/-- R188: a completion touches its own slot only. -/
theorem within_completeSlot (n : Nat) (r : Result) (d : Nat) (reply : List ReplyBytes) (s : State) (fits : FitsSlot reply) :
    Within [.causes, .mem, .slot n, .posted] s (completeSlot n r d reply s) :=
  ((within_storeReply n reply s fits).then (within_completed n r d _ _)).mono (by simp)

theorem fitsSlot_nil : FitsSlot [] := fun _ m => absurd m List.not_mem_nil

theorem fitsSlot_byte (o : Nat) (b : Byte) (h : o < 48) : FitsSlot [(o, [b])] := fun r m => by
  rw [List.mem_singleton] at m
  rw [m]
  exact h

/-- What the completion of some slot changes. -/
@[simp] def answering : List Part := [.causes, .mem, .slots, .posted]

/-- A list that names one slot is no longer than one that names them all. -/
theorem Within.anySlot {n : Nat} {T : List Part} {s t : State} (w : Within (.slot n :: T) s t) : Within (.slots :: T) s t where
  causes h := w.causes (by simpa using h)
  mem h := w.mem (by simpa using h)
  front h := w.front (by simpa using h)
  ring h := w.ring (by simpa using h)
  slot _ h := absurd (by simp) h
  queue h := w.queue (by simpa using h)
  posted h := w.posted (by simpa using h)
  power h := w.power (by simpa using h)
  kbd h := w.kbd (by simpa using h)
  matrix h := w.matrix (by simpa using h)
  mode h := w.mode (by simpa using h)
  keys h := w.keys (by simpa using h)
  port p h := w.port p (by simpa using h)
  engine p h := w.engine p (by simpa using h)
  pack k h := w.pack k (by simpa using h)
  dsg h := w.dsg (by simpa using h)
  chg h := w.chg (by simpa using h)
  th h := w.th (by simpa using h)

theorem within_completeAny (n : Nat) (r : Result) (d : Nat) (reply : List ReplyBytes) (s : State) :
    Within answering s (completeSlot n r d reply s) :=
  ((within_storeReply_any n reply s).then ((within_completed n r d _ _).mono (W := [.slot n, .causes, .mem, .posted]) (by simp)).anySlot).mono (by simp)

/-! ### Packs -/

/-- What a change of a pack's state changes. -/
@[simp] def monitoring (k : PackId) : List Part :=
  [.causes, .mem, .ring, .queue, .power, .kbd, .matrix, .dsg, .chg, .port .a, .pack k]

/-- What the end of a pack's probe changes. -/
@[simp] def probing (k : PackId) : List Part :=
  [.causes, .mem, .ring, .queue, .slots, .posted, .power, .kbd, .matrix, .dsg, .chg, .port .a, .pack k]

theorem within_updatingPack (r : Rec) (k : PackId) (f : State → Pack) (s : State) :
    Within [.pack k] s (updating r (fun x => x.setPack k (f x)) s) := within_updating _ (within_setPack k _ s)

theorem within_setPackState (k : PackId) (new : PackState) (r : PackReason) (f : Pack → Pack) (s : State) :
    Within (monitoring k) s (setPackState k new r f s) := by
  have changed : Within (monitoring k) s (commit (.probe k) s (updating (.pack k)
      (fun x => x.setPack k { f (x.pack k) with state := new, reason := r }) s)) :=
    within_commit _ s (Within.mono (within_updatingPack _ k _ s) (by simp))
  exact ((changed.next (within_offer _ _) (by simp)).next (within_dischargeDecision _) (by simp)).next (within_evaluate _) (by simp)

theorem within_completeProbeRequest (k : PackId) (r : Result) (d : Nat) (s : State) :
    Within (.pack k :: answering) s (completeProbeRequest k r d s) := by
  unfold completeProbeRequest
  split
  · exact Within.refl _ s
  · exact ((within_setPack k _ s).then (within_completeAny _ _ _ _ _)).mono (by simp)

theorem completeProbeRequest_unasked {k : PackId} {s : State} (none : (s.pack k).request = none) (r : Result) (d : Nat) :
    completeProbeRequest k r d s = s := by
  unfold completeProbeRequest
  rw [none]

theorem within_probeBegun (k : PackId) (s : State) : Within (monitoring k) s (probeBegun k s) :=
  (within_setPackState k _ _ _ s).when

theorem within_recordFailure (k : PackId) (n : Nat) (o : BusOutcome) (s : State) :
    Within [.pack k] s (recordFailure k n o s) := within_commit _ s (within_updatingPack _ k _ s)

/-- R113: the failure before the answer to a request. -/
theorem within_failure (k : PackId) (n : Nat) (o : BusOutcome) (s : State) : Within (monitoring k) s
    (if 3 ≤ ((recordFailure k n o s).pack k).failures then setPackState k .faulted .probeFailed id (recordFailure k n o s)
      else recordFailure k n o s) := by
  have failed := (within_recordFailure k n o s).mono (W := monitoring k) (by simp)
  split
  · exact failed.trans (within_setPackState k _ _ _ _)
  · exact failed

theorem within_probeFails (k : PackId) (n : Nat) (o : BusOutcome) (s : State) :
    Within (probing k) s (probeFails k n o s) :=
  ((within_failure k n o s).then (within_completeProbeRequest k _ _ _)).mono (by simp)

theorem within_probeGranted (u : ProbeUnit) (s : State) : Within (monitoring u.pack) s (probeGranted u s) :=
  ((within_updatingPack _ u.pack _ s).then (within_probeBegun u.pack _)).mono (by simp)

/-- R106: only a probe step hears of its grant. -/
theorem within_grantNotice {T : List Part} (w : Work) (s : State) (sub : ∀ u, w = .probe u → monitoring u.pack ⊆ T) :
    Within T s (grantNotice w s) := by
  cases w with
  | probe u => exact (within_probeGranted u s).mono (sub u rfl)
  | charger g => exact Within.refl _ s
  | poll n => exact Within.refl _ s
  | host n => exact Within.refl _ s

theorem within_offerWork {T : List Part} (p : PortId) (w : Work) (s : State) (port : .port p ∈ T)
    (sub : ∀ u, w = .probe u → monitoring u.pack ⊆ T) : Within T s (offerWork p w s) := by
  have moved : ∀ f, Within T s (updatingPort p f s) := fun f => (within_updatingPort p f s).mono (by simp [port])
  exact ((moved _).trans (within_grantNotice w _ sub)).ite (moved _)

theorem within_offerStep_live (k : PackId) (run : ProbeRun) (s : State) (halted : s.portA.state ≠ .halted)
    (disabled : s.portA.state ≠ .disabled) : Within (monitoring k) s (offerStep k run s) := by
  have waits := (within_updatingPack (.probe k) k (fun x => { x.pack k with
    probe := some run, record := { (x.pack k).record with state := .waiting } }) s)
  have port : (updating (.probe k) (fun x => x.setPack k { x.pack k with
    probe := some run, record := { (x.pack k).record with state := .waiting } }) s).portA = s.portA :=
    waits.port .a (by simp)
  unfold offerStep
  dsimp only
  rw [port, if_neg (by simp [halted, disabled])]
  exact (waits.mono (by simp)).trans (within_offerWork .a _ _ (by simp) fun u e => by
    rw [← Work.probe.inj e]
    exact List.Subset.refl _)

theorem within_offerStep (k : PackId) (run : ProbeRun) (s : State) : Within (probing k) s (offerStep k run s) := by
  have waits := (within_updatingPack (.probe k) k (fun x => { x.pack k with
    probe := some run, record := { (x.pack k).record with state := .waiting } }) s).mono (W := probing k) (by simp)
  unfold offerStep
  dsimp only
  split
  · exact (waits.next (within_probeBegun k _) (by simp)).trans (within_probeFails k _ _ _)
  · exact waits.trans (within_offerWork .a _ _ (by simp) fun u e => by
      rw [← Work.probe.inj e]
      simp [stepUnit])

theorem within_startProbe_live (k : PackId) (s : State) (halted : s.portA.state ≠ .halted)
    (disabled : s.portA.state ≠ .disabled) : Within (monitoring k) s (startProbe k s) := by
  have fresh := within_updatingPack (.probe k) k (fun x => { x.pack k with
    record := newRecord (packTarget s.chg.profile k) (targetOf s.engineA.list (packTarget s.chg.profile k)).address }) s
  have port := fresh.port .a (by simp)
  have step := within_offerStep_live k ⟨1, (targetOf s.engineA.list (packTarget s.chg.profile k)).address,
    (targetOf s.engineA.list (packTarget s.chg.profile k)).pec⟩ _ (fun e => halted ((congrArg (·.state) port).symm.trans e))
    (fun e => disabled ((congrArg (·.state) port).symm.trans e))
  exact (fresh.then step).mono (by simp)

theorem within_startProbe (k : PackId) (s : State) : Within (probing k) s (startProbe k s) :=
  ((within_updatingPack _ k _ s).then (within_offerStep k _ _)).mono (by simp)

theorem within_flagReactions (a b : Word16) (s : State) :
    Within [.causes, .mem, .ring, .queue, .power, .kbd, .matrix, .dsg, .chg, .port .a] s (flagReactions a b s) := by
  unfold flagReactions
  dsimp only
  split
  · split
    · exact Within.refl _ s
    · exact (within_dischargeDecision s).mono (by simp)
  · split
    · exact (within_evaluate s).mono (by simp)
    · exact ((within_dischargeDecision s).then (within_evaluate _)).mono (by simp)

theorem within_probeSucceeds (k : PackId) (i : Identity) (w : Nat) (s : State) :
    Within (probing k) s (probeSucceeds k i w s) := by
  have ended := (within_updatingPack (.probe k) k (fun x => { x.pack k with
    probe := none, record := endRecord x .ok (setStep (x.pack k).record 4 .ok) }) s).mono (W := probing k) (by simp)
  exact (((ended.next (within_updatingPack _ k _ _) (by simp)).next (within_flagReactions _ _ _) (by simp)).next
    (within_setPackState k _ _ _ _) (by simp)).next (within_completeProbeRequest k _ _ _) (by simp)

theorem within_probeBadIdentity (k : PackId) (i : Identity) (s : State) :
    Within (probing k) s (probeBadIdentity k i s) :=
  (((within_updatingPack _ k _ s).mono (W := probing k) (by simp)).next (within_setPackState k _ _ _ _) (by simp)).next
    (within_completeProbeRequest k _ _ _) (by simp)

theorem within_nextStep (k : PackId) (run : ProbeRun) (f : ProbeRecord → ProbeRecord) (s : State) :
    Within (probing k) s (nextStep k run f s) := ((within_updatingPack _ k _ s).then (within_offerStep k _ _)).mono (by simp)

theorem within_probeStepEnd (u : ProbeUnit) (o : BusOutcome) (d : List Byte) (s : State) :
    Within (probing u.pack) s (probeStepEnd u o d s) := by
  unfold probeStepEnd
  dsimp only
  split
  · exact Within.refl _ s
  · split
    · exact Within.refl _ s
    · split
      · exact within_probeFails _ _ _ s
      · split
        · exact within_nextStep _ _ _ s
        · exact within_nextStep _ _ _ s
        · split
          · exact within_probeFails _ _ _ s
          · split
            · exact within_probeBadIdentity _ _ s
            · exact within_nextStep _ _ _ s
        · split
          · exact within_probeSucceeds _ _ _ s
          · exact within_probeFails _ _ _ s

theorem within_probeSentBack (u : ProbeUnit) (s : State) : Within [.pack u.pack] s (probeSentBack u s) :=
  (Within.refl _ s).ite (within_updatingPack _ u.pack _ s)

theorem within_portA (x : Port) (s : State) : Within [.port .a] s { s with portA := x } := within_setPort .a x s

theorem within_abandonProbe (k : PackId) (s : State) : Within [.pack k, .port .a] s (abandonProbe k s) := by
  unfold abandonProbe
  split
  · exact Within.refl _ s
  · exact ((within_updatingPack (.probe k) k _ s).then (within_updating (.port .a) (within_portA _ _))).mono (by simp)

theorem within_presenceRise (k : PackId) (s : State) : Within (probing k) s (presenceRise k s) :=
  (((within_setPackState k _ _ _ s).then (within_startProbe k _)).mono (by simp)).when

theorem within_presenceFall (k : PackId) (s : State) : Within (probing k) s (presenceFall k s) :=
  (Within.refl _ s).ite ((((within_abandonProbe k s).mono (W := probing k) (by simp)).next (within_setPackState k _ _ _ _) (by simp)).next
    (within_completeProbeRequest k _ _ _) (by simp))

theorem within_criteriaCheck (k : PackId) (s : State) : Within (probing k) s (criteriaCheck k s) := by
  unfold criteriaCheck
  split
  · split
    · exact ((within_setPackState k _ _ _ s).then (within_startProbe k _)).mono (by simp)
    · exact Within.refl _ s
  · exact Within.refl _ s

theorem within_storedReactions (k : PackId) (f : PackField) (old : Pack) (s : State) :
    Within [.causes, .mem, .ring, .queue, .power, .kbd, .matrix, .dsg, .chg, .port .a] s (storedReactions k f old s) := by
  unfold storedReactions
  split
  · exact ((within_dischargeDecision s).mono (by simp)).when
  · exact within_flagReactions _ _ s
  · exact ((within_redecideDpk s).mono (by simp)).when
  all_goals exact Within.refl _ s

theorem within_packDelivery (k : PackId) (f : PackField) (o : BusOutcome) (w : Nat) (s : State) :
    Within (probing k) s (packDelivery k f o w s) := by
  have stored := (within_updatingPack (.pack k) k (fun x => delivered x.dsg.settleMs.isSome f o w (x.pack k)) s).mono
    (W := probing k) (by simp)
  unfold packDelivery
  dsimp only
  split
  · split
    · exact (stored.next (within_storedReactions k f _ _) (by simp)).trans (within_criteriaCheck k _)
    · exact stored.trans (within_criteriaCheck k _)
  · exact Within.refl _ s

/-- What changes of both packs change. -/
@[simp] def bothPacks : List Part := [.causes, .mem, .ring, .queue, .slots, .posted, .power, .kbd, .matrix, .dsg, .chg, .port .a,
  .pack .pack0, .pack .pack1]

theorem probing_subset (k : PackId) : probing k ⊆ bothPacks := by cases k <;> simp

theorem within_agePack (k : PackId) (s : State) :
    Within [.pack k] s (updating (.pack k) (fun x => x.setPack k (agePack (x.pack k))) s) := within_updatingPack _ k _ s

theorem within_packRoundEnd (s : State) : Within [.pack .pack0, .pack .pack1] s (packRoundEnd s) :=
  ((within_agePack .pack0 s).then (within_agePack .pack1 _)).mono (by simp)

theorem within_packRoundStart (s : State) : Within bothPacks s (packRoundStart s) :=
  ((within_startProbe .pack0 s).mono (probing_subset _)).when.trans
    ((within_startProbe .pack1 _).mono (probing_subset _)).when

theorem within_profileReactions (s : State) : Within bothPacks s (profileReactions s) :=
  (((within_criteriaCheck .pack0 s).mono (probing_subset _)).trans
    ((within_criteriaCheck .pack1 _).mono (probing_subset _))).next (within_criticalDecision _) (by simp)

theorem within_attachRequest (k : PackId) (n : Nat) (s : State) : Within [.pack k] s (attachRequest k n s) :=
  within_setPack k _ s

/-! ### Thermal unit -/

theorem within_setSlot (n : Nat) (x : Slot) (s : State) : Within [.th] s (setSlot n x s) := within_th _ s

theorem within_thermalNotice (n : Nat) (e : Option ThermalEvent) (s : State) :
    Within reporting s (thermalNotice n e s) := by
  unfold thermalNotice
  split
  · exact within_offer _ s
  · exact Within.refl _ s

theorem within_raiseFans (b : Bool) (s : State) : Within [.th] s (raiseFans b s) :=
  ((within_raiseToFloor .fan0 s).trans (within_raiseToFloor .fan1 _)).when

theorem within_wakeAfterTrip (s : State) : Within waking s (wakeAfterTrip s) := by
  unfold wakeAfterTrip
  split
  · next off => exact within_takeWake _ s (by simp [off.1])
  · exact Within.refl _ s

/-- R152: the trip's end wakes the part out of OFF only. -/
theorem within_tripEnds (s : State) :
    Within [.causes, .mem, .ring, .queue, .power, .kbd, .matrix, .chg, .port .a] s (tripEnds s) :=
  ((within_setThermalCause false s).then (within_wakeAfterTrip _)).mono (by simp)

theorem within_tripChange (b : Bool) (s : State) : Within powering s (tripChange b s) :=
  (Within.refl _ s).ite ((((within_setThermalCause true s).then (within_enterShutdown _ _)).mono (by simp)).ite ((within_tripEnds s).mono (by simp)))

theorem within_slotChange (n : Nat) (stored : Bool) (x : Slot) (s : State) :
    Within powering s (slotChange n stored x s) := by
  have set_ : Within [.th] s (if stored then publish (.sensor n) (setSlot n x s) else updating (.sensor n) (setSlot n x) s) :=
    ((within_setSlot n x s).next (within_publish _ _) (by simp)).ite (within_updating _ (within_setSlot n x s))
  have raised : Within powering s (updatingFans (fun y => raiseFans s.tripActive
      (if stored then publish (.sensor n) (setSlot n x y) else updating (.sensor n) (setSlot n x) y)) s) :=
    within_updatingFans ((set_.then (within_raiseFans _ _)).mono (by simp))
  have told := ((raised.next (within_thermalNotice n (slotEvent (slotOf s n).state x.state) _) (by simp)).next
    (within_thermalNotice n (tripEvent (slotOf s n).tripped x.tripped) _) (by simp)).trans (within_tripChange s.tripActive _)
  exact (told.next (within_redecideDcs _) (by simp)).ite told

theorem within_measureLocal (n : Nat) (m : Measurement) (s : State) : Within powering s (measureLocal n m s) := by
  unfold measureLocal
  split
  · split
    all_goals exact within_slotChange _ _ _ s
  · exact Within.refl _ s

theorem within_sensorDelivery (n : Nat) (o : BusOutcome) (r : SkipReason) (w : Nat) (s : State) :
    Within powering s (sensorDelivery n o r w s) := by
  have changed : ∀ b x, Within powering s (slotChange n b x s) := fun b x => within_slotChange n b x s
  unfold sensorDelivery
  dsimp only
  split
  · split
    case h_6 => exact (Within.refl _ s).ite (changed _ _)
    all_goals first | exact changed _ _ | exact Within.refl _ s
  · exact Within.refl _ s

theorem within_unbindSlots (l : PollList) : (ns : List Nat) → (s : State) → Within powering s (unbindSlots l ns s)
  | [], s => Within.refl _ s
  | _ :: rest, s => (within_slotChange _ _ _ s).when.trans (within_unbindSlots l rest _)

theorem within_commitSensors (b : State) : (ns : List Nat) → (s : State) → Within [] s (commitSensors b ns s)
  | [], s => Within.refl _ s
  | _ :: rest, s => (within_commit _ b (Within.refl _ s)).trans (within_commitSensors b rest _)

theorem within_clearNotices (b : State) : (ns : List Nat) → (s : State) → Within reporting s (clearNotices b ns s)
  | [], s => Within.refl _ s
  | _ :: rest, s => (within_thermalNotice _ _ s).trans (within_clearNotices b rest _)

theorem within_adoptThermal (t : ThermalTable) (s : State) : Within powering s (adoptThermal t s) := by
  have taken : Within powering s (updatingFans (fun x => { x with th := takeThermal t x.th }) s) :=
    within_updatingFans ((within_th _ s).mono (by simp))
  exact (((taken.next (within_commitSensors s _ _) (by simp)).next (within_clearNotices s _ _) (by simp)).trans
    (within_tripChange s.tripActive _)).next (within_redecideDcs _) (by simp)

theorem within_adoptCurves (s : State) : Within (.th :: answering) s (adoptCurves s) := by
  unfold adoptCurves
  split
  · exact Within.refl _ s
  · exact ((within_th _ s).then (within_completeAny _ _ _ _ _)).mono (by simp)

/-- What an update of the fans changes. -/
@[simp] def fanning : List Part := [.causes, .mem, .ring, .queue, .slots, .posted, .chg, .port .a, .th]

theorem within_fanUpdate (s : State) : Within fanning s (fanUpdate s) := by
  have closed : Within fanning s (adoptCurves (closeFan .fan1 (closeFan .fan0 s))) :=
    (((within_closeFan .fan0 s).mono (W := fanning) (by simp)).next (within_closeFan .fan1 _) (by simp)).next (within_adoptCurves _) (by simp)
  exact ((((closed.next (within_driveFan s .fan0 _) (by simp)).next (within_driveFan s .fan1 _) (by simp)).next (within_th _ _) (by simp)).next
    (within_openWindow .fan0 _) (by simp)).next (within_openWindow .fan1 _) (by simp)

theorem within_thermalUpdate (m0 m1 : Measurement) (s : State) :
    Within (.slots :: .posted :: powering) s (thermalUpdate m0 m1 s) := by
  have measured : Within (.slots :: .posted :: powering) s
      (measureLocal 1 m1 (measureLocal 0 m0 { s with th := { s.th with updateMs := 0 } })) :=
    (((within_th _ s).mono (W := .slots :: .posted :: powering) (by simp)).next (within_measureLocal 0 m0 _) (by simp)).next
      (within_measureLocal 1 m1 _) (by simp)
  exact measured.next (within_updatingFans (within_fanUpdate _)) (by simp)

theorem within_startFans (s : State) : Within [.th] s (startFans s) :=
  (within_startFan .fan0 s).trans (within_startFan .fan1 _)

end Sys2Proof.Proofs.Frames
end

section
/-! PROOF. The frame of each function of the ports, the poll engines and the arbiters, and of the settling. -/
set_option Elab.async false

namespace Sys2Proof.Proofs.Frames

open Sys2Proof Sys2Proof.Machine Sys2Proof.Safety Sys2Proof.Laws

/-! ### Ports -/

theorem within_portCause (p : PortId) (b : Bool) (s : State) : Within charging s (portCause p b s) := by
  cases p
  · exact within_setPortCause b s
  · exact Within.refl _ s

theorem within_transferEnds (n : Nat) (o : BusOutcome) (d : List Byte) (s : State) :
    Within answering s (transferEnds n o d s) := within_completeAny _ _ _ _ s

theorem within_refuseHosts (d : Nat) : (l : List Nat) → (s : State) → Within answering s (refuseHosts d l s)
  | [], s => Within.refl _ s
  | _ :: rest, s => (within_completeAny _ _ _ _ s).trans (within_refuseHosts d rest _)

theorem within_refuseProbes : (l : List ProbeUnit) → (s : State) → Within bothPacks s (refuseProbes l s)
  | [], s => Within.refl _ s
  | u :: rest, s => by
    have begun : monitoring u.pack ⊆ bothPacks := List.Subset.trans (by simp) (probing_subset u.pack)
    exact (((within_probeBegun u.pack s).mono begun).trans
      ((within_probeStepEnd u _ _ _).mono (probing_subset _))).trans (within_refuseProbes rest _)

theorem within_refuseGroup (g : Option WriteGroup) (s : State) : Within charging s (refuseGroup g s) := by
  cases g with
  | none => exact Within.refl _ s
  | some g => exact within_groupEnd g .portHalted s

theorem within_endBusReset (p : PortId) (r : Result) (d : Nat) (s : State) :
    Within (.port p :: answering) s (endBusReset p r d s) := by
  unfold endBusReset
  split
  · exact Within.refl _ s
  · exact ((within_setPort p _ s).then (within_completeAny _ _ _ _ _)).mono (by simp)

/-- What the refusal of all that waits at a port changes. -/
@[simp] def refusing (p : PortId) : List Part := [.port p, .causes, .mem, .ring, .queue, .slots, .posted, .power, .kbd, .matrix,
  .dsg, .chg, .port .a, .pack .pack0, .pack .pack1]

theorem within_refuseWaiting (p : PortId) (old : Port) (d : Nat) (s : State) :
    Within (refusing p) s (refuseWaiting p old d s) :=
  ((((within_refuseHosts d old.hosts s).mono (W := refusing p) (by simp)).next (within_refuseGroup old.charger _) (by simp)).next
    (within_refuseProbes old.probes _) (by simp)).next (within_endBusReset p _ _ _) (by simp)

theorem within_enterDisabled (p : PortId) (s : State) : Within (refusing p) s (enterDisabled p s) :=
  (((within_updatingPort p _ s).mono (W := refusing p) (by simp)).trans (within_refuseWaiting p _ _ _)).next (within_portCause p _ _) (by simp)

theorem within_enterHalted (p : PortId) (f : Port → Port) (s : State) : Within (refusing p) s (enterHalted p f s) :=
  ((((within_updatingPort p _ s).mono (W := refusing p) (by simp)).next (within_offer _ _) (by simp)).trans
    (within_refuseWaiting p _ _ _)).next (within_portCause p _ _) (by simp)

theorem within_enterRecovering (p : PortId) (c : StuckCause) (f : Port → Port) (s : State) :
    Within (.port p :: reporting) s (enterRecovering p c f s) :=
  ((within_updatingPort p _ s).then (within_offer _ _)).mono (by simp)

theorem within_sentBack (w : Work) (s : State) : Within [.pack .pack0, .pack .pack1] s (sentBack w s) := by
  cases w with
  | probe u => exact (within_probeSentBack u s).mono (by cases u.pack <;> simp)
  | charger g => exact Within.refl _ s
  | poll n => exact Within.refl _ s
  | host n => exact Within.refl _ s

/-- What data found low changes. -/
@[simp] def sticking (p : PortId) : List Part := [.port p, .causes, .mem, .ring, .queue, .pack .pack0, .pack .pack1]

theorem within_stuckData (p : PortId) (w : Work) (s : State) : Within (sticking p) s (stuckData p w s) :=
  ((within_sentBack w s).then (within_enterRecovering p _ _ _)).mono (by simp)

theorem within_attemptSucceeds (p : PortId) (r : Nat × Bool) (s : State) : Within (refusing p) s (attemptSucceeds p r s) :=
  ((((within_updatingPort p _ s).mono (W := refusing p) (by simp)).next (within_offer _ _) (by simp)).next
    (within_endBusReset p _ _ _) (by simp)).next (within_portCause p _ _) (by simp)

theorem within_attemptFails (p : PortId) (r : Nat × Bool) (s : State) : Within (refusing p) s (attemptFails p r s) :=
  (within_enterHalted p _ s).ite ((within_updatingPort p _ s).mono (by simp))

theorem within_retryFails (p : PortId) (r : Nat × Bool) (s : State) : Within [.port p] s (retryFails p r s) :=
  within_updatingPort p _ s

theorem within_attemptThenDisabled (p : PortId) (r : Nat × Bool) (s : State) :
    Within (refusing p) s (attemptThenDisabled p r s) :=
  ((within_updatingPort p _ s).mono (W := refusing p) (by simp)).trans (within_enterDisabled p _)

theorem within_unitDone (p : PortId) (s : State) : Within (refusing p) s (unitDone p s) :=
  (within_enterDisabled p s).ite ((within_updatingPort p _ s).mono (by simp))

theorem probing_subset_refusing (k : PackId) (p : PortId) : probing k ⊆ refusing p := by cases k <;> simp

theorem within_recoveryStepEnds (p : PortId) (u : ProbeUnit) (r : Nat × Bool) (s : State) :
    Within (refusing p) s (recoveryStepEnds p u r s) := by
  have noted := (within_updatingPort p (fun x => { noteAttempt r x with granted := none }) s).mono (W := refusing p) (by simp)
  have ended : ∀ o, Within (refusing p) s (probeStepEnd u o [] (updatingPort p (fun x =>
      { noteAttempt r x with granted := none }) s)) := fun o =>
    noted.next (within_probeStepEnd u o [] _) (probing_subset_refusing _ p)
  unfold recoveryStepEnds
  dsimp only
  split
  · exact (ended .ok).trans (within_unitDone p _)
  · split
    · exact (ended .busStuck).trans (within_enterDisabled p _)
    · exact ((ended .busStuck).next (within_updatingPort p _ _) (by simp)).next (within_offer _ _) (by simp)

theorem within_attemptEnds (p : PortId) (r : Nat × Bool) (s : State) : Within (refusing p) s (attemptEnds p r s) := by
  unfold attemptEnds
  dsimp only
  split
  · exact ((within_attemptThenDisabled p r s).ite
      ((within_attemptSucceeds p r s).ite (within_attemptFails p r s))).when
  · exact ((within_attemptThenDisabled p r s).ite
      ((within_attemptSucceeds p r s).ite ((within_retryFails p r s).mono (by simp)))).when
  · exact (within_recoveryStepEnds p _ r s).when
  · exact Within.refl _ s

theorem within_retryBegins (p : PortId) (s : State) : Within [.port p] s (retryBegins p s) := within_updatingPort p _ s

theorem within_portRoundStart (p : PortId) (s : State) : Within [.port p] s (portRoundStart p s) :=
  (within_updatingPort p _ s).when

/-- R70: a BUS_RESET touches its own slot only. -/
theorem within_busResetRequest (n : Nat) (p : PortId) (s : State) :
    Within [.causes, .mem, .ring, .queue, .slot n, .posted, .chg, .port .a, .port p] s (busResetRequest n p s) :=
  Within.ite (((within_updatingPort p _ s).then (within_portCause p _ _)).mono (by simp)) ((within_completeSlot n _ _ _ s fitsSlot_nil).mono (by simp))

theorem within_disablePort (p : PortId) (s : State) : Within (refusing p) s (disablePort p s) := by
  have later := (within_setPort p { s.port p with disableDue := true } s).mono (W := refusing p) (by simp)
  unfold disablePort
  dsimp only
  split
  · exact Within.refl _ s
  · exact within_enterDisabled p s
  · exact later
  · exact later.ite (within_enterDisabled p s)
  · exact later.ite (within_enterDisabled p s)

theorem within_enablePort (p : PortId) (s : State) : Within (.port p :: charging) s (enablePort p s) :=
  Within.ite (((within_updatingPort p _ s).then (within_portCause p _ _)).mono (by simp)) ((within_setPort p _ s).mono (by simp))

theorem within_takeHeader (p : PortId) (l : PollList) (s : State) : Within (refusing p) s (takeHeader p l s) := by
  have taken := (within_updatingPort p (fun x => { x with fast := l.fast, clockLow := l.clockLow }) s).mono (W := refusing p) (by simp)
  unfold takeHeader
  dsimp only
  split
  · exact taken.next (within_enablePort p _) (by simp)
  · exact taken.trans (within_disablePort p _)

/-! ### Poll engines -/

/-- What a round or a hand-over of the arbiters can change: everything but the front of the memory and that the mode is decided. -/
@[simp] def rounding : List Part := [.causes, .mem, .ring, .queue, .slots, .posted, .power, .kbd, .matrix, .keys, .dsg, .chg, .th,
  .port .a, .port .b, .engine .a, .engine .b, .pack .pack0, .pack .pack1]

theorem port_mem_rounding (p : PortId) : .port p ∈ rounding := by cases p <;> simp
theorem engine_mem_rounding (p : PortId) : .engine p ∈ rounding := by cases p <;> simp
theorem probing_subset_rounding (k : PackId) : probing k ⊆ rounding := by cases k <;> simp
theorem monitoring_subset_rounding (k : PackId) : monitoring k ⊆ rounding := by cases k <;> simp
theorem refusing_subset_rounding (p : PortId) : refusing p ⊆ rounding := by cases p <;> simp

theorem within_round_port {p : PortId} {s t : State} (w : Within [.port p] s t) : Within rounding s t :=
  w.mono (by simpa using port_mem_rounding p)

theorem within_round_engine (p : PortId) (x : Engine) (s : State) : Within rounding s (s.setEngine p x) :=
  (within_setEngine p x s).mono (by simpa using engine_mem_rounding p)

theorem within_deliver (e : PollEntry) (o : BusOutcome) (r : SkipReason) (d : List Byte) (s : State) :
    Within rounding s (deliver e o r d s) := by
  unfold deliver
  split
  · exact Within.refl _ s
  · exact ((within_storeBytes_slots _ _ s (by omega)).mono (by simp)).when
  · exact (within_packDelivery _ _ _ _ s).mono (probing_subset_rounding _)
  · exact (within_chargerDelivery _ _ _ s).mono (by simp)
  · exact (within_sensorDelivery _ _ _ _ s).mono (by simp)

theorem within_evaluateWatch (p : PortId) (n : Nat) (w : Watch) (v : Nat) (s : State) :
    Within rounding s (evaluateWatch p n w v s) := by
  have set_ : ∀ r, Within rounding s (s.setEngine p (setWatchResult n r (s.engine p))) := fun _ =>
    within_round_engine p _ s
  unfold evaluateWatch
  dsimp only
  split
  · split
    · exact set_ _
    · split
      · exact ((set_ _).next (within_offer _ _) (by simp)).next (within_evaluate _) (by simp)
      · exact (set_ _).next (within_offer _ _) (by simp)
  · exact set_ _

theorem within_watchStep (p : PortId) (n : Nat) (e : PollEntry) (o : BusOutcome) (d : List Byte) (s : State) :
    Within rounding s (watchStep p n e o d s) := by
  unfold watchStep
  split
  · exact Within.refl _ s
  · exact (within_evaluateWatch p n _ _ s).when

theorem within_entryEnd (p : PortId) (n : Nat) (o : BusOutcome) (r : SkipReason) (d : List Byte) (s : State) :
    Within rounding s (entryEnd p n o r d s) :=
  (((within_deliver _ o r d s).trans (within_round_engine p _ _)).trans (within_watchStep p n _ o d _)).trans
    (within_round_engine p _ _)

theorem within_unboundSlots (p : PortId) (l : PollList) (s : State) : Within powering s (unboundSlots p l s) := by
  cases p
  · exact Within.refl _ s
  · exact within_unbindSlots l _ s

theorem within_updatingEngine (r : Rec) (p : PortId) (f : State → Engine) (s : State) :
    Within [.engine p] s (updating r (fun x => x.setEngine p (f x)) s) := within_updating _ (within_setEngine p _ s)

theorem within_round_update (r : Rec) (p : PortId) (f : State → Engine) (s : State) :
    Within rounding s (updating r (fun x => x.setEngine p (f x)) s) :=
  (within_updatingEngine r p f s).mono (by simpa using engine_mem_rounding p)

theorem within_adoptList (p : PortId) (n : Nat) (s : State) : Within rounding s (adoptList p n s).1 := by
  unfold adoptList
  dsimp only
  split
  · exact (within_completeAny _ _ _ _ s).mono (by simp)
  · have adopted := ((((within_round_engine p (takeList (readPollList s.mem (pollTable p)) (s.engine p)) s).next
      (within_completeAny n .ok 0 [(1, [0#8])] _) (by simp)).trans
      ((within_takeHeader p (readPollList s.mem (pollTable p)) _).mono (refusing_subset_rounding p))).next
      (within_unboundSlots p (readPollList s.mem (pollTable p)) _) (by simp))
    exact adopted.ite (adopted.trans (within_round_update _ p _ _))

theorem within_restartInterval (p : PortId) (s : State) : Within [.engine p] s (restartInterval p s) :=
  within_updatingEngine _ p _ s

theorem within_handRoundEnd (p : PortId) (s : State) : Within rounding s (handRoundEnd p s) := by
  cases p
  · have ended := (within_packRoundEnd s).mono (W := rounding) (by simp)
    exact (ended.next (within_evaluate _) (by simp)).ite ended
  · exact Within.refl _ s

theorem within_afterBoundary (p : PortId) (b : Bool) {start : State → State} (hs : ∀ x, Within rounding x (start x)) (s : State) :
    Within rounding s (afterBoundary p b start s) := by
  have noted := within_round_engine p { s.engine p with prevOverrun := (s.engine p).overrun } s
  exact noted.ite ((noted.trans (hs _)).ite ((noted.trans (within_round_update _ p _ _)).ite
    (noted.trans (within_round_update _ p _ _))))

theorem within_boundary {start : State → State} (p : PortId) (hs : ∀ x, Within rounding x (start x)) (s : State) :
    Within rounding s (boundary start p s) := by
  unfold boundary
  dsimp only
  split
  · exact (within_handRoundEnd p s).trans (within_afterBoundary p _ hs _)
  · exact ((within_handRoundEnd p s).trans (within_adoptList p _ _)).trans (within_afterBoundary p _ hs _)

theorem within_round_offer (p : PortId) (w : Work) (s : State) : Within rounding s (offerWork p w s) :=
  within_offerWork p w s (port_mem_rounding p) fun _ _ => monitoring_subset_rounding _

theorem within_takeEntries (p : PortId) {finish : State → State} (hf : ∀ x, Within rounding x (finish x)) :
    (l : List PollEntry) → (n : Nat) → (s : State) → Within rounding s (takeEntries p finish n l s)
  | [], _, s => hf s
  | e :: rest, n, s => by
    have ended : ∀ r, Within rounding s (takeEntries p finish (n + 1) rest (entryEnd p n .skipped r [] s)) := fun r =>
      (within_entryEnd p n _ r [] s).trans (within_takeEntries p hf rest (n + 1) _)
    unfold takeEntries
    split
    · split
      · exact ended _
      · split
        · exact (within_round_engine p _ s).trans (within_round_offer p _ _)
        · exact ended _
    · exact within_takeEntries p hf rest (n + 1) s

theorem within_startRound {finish : State → State} (p : PortId) (number : Nat) (hf : ∀ x, Within rounding x (finish x)) (s : State) :
    Within rounding s (startRound finish p number s) := by
  have begun : Within rounding s (portRoundStart p (updating (.port p)
      (fun x => x.setEngine p (beginRound number x (x.engine p))) s)) :=
    (within_round_update _ p _ s).trans (within_round_port (within_portRoundStart p _))
  unfold startRound
  dsimp only
  cases p
  · exact (begun.next (within_packRoundStart _) (by simp)).trans (within_takeEntries .a hf _ _ _)
  · exact begun.trans (within_takeEntries .b hf _ _ _)

theorem within_lastBoundary (p : PortId) (s : State) : Within rounding s (lastBoundary p s) :=
  within_boundary p (fun x => Within.refl _ x) s

theorem within_nextRound (p : PortId) (s : State) : Within rounding s (nextRound p s) :=
  within_startRound p _ (within_lastBoundary p) s

theorem within_roundBoundary (p : PortId) (s : State) : Within rounding s (roundBoundary p s) :=
  within_boundary p (fun x => within_startRound p _ (within_lastBoundary p) x) s

theorem within_firstRound (p : PortId) (s : State) : Within rounding s (firstRound p s) :=
  (within_startRound p _ (within_lastBoundary p) s).when

theorem within_nextEntries (p : PortId) (n : Nat) (s : State) : Within rounding s (nextEntries p n s) :=
  (within_round_engine p _ s).trans (within_takeEntries p (within_roundBoundary p) _ _ _)

theorem within_offeredEnds (p : PortId) (n : Nat) (o : BusOutcome) (r : SkipReason) (d : List Byte) (s : State) :
    Within rounding s (offeredEnds p n o r d s) := (within_entryEnd p n o r d s).trans (within_nextEntries p n _)

theorem within_overrun (p : PortId) (s : State) : Within (.engine p :: reporting) s (overrun p s) := by
  have held := within_updatingEngine (.port p) p (fun x => { x.engine p with
    held := true, overrun := true, timerMs := none }) s
  exact Within.ite (held.mono (by simp)) ((held.then (within_offer _ _)).mono (by simp))

theorem within_adoptNow (p : PortId) (n : Nat) (s : State) : Within rounding s (adoptNow p n s) := by
  have adopted := within_adoptList p n s
  exact Within.ite ((adopted.trans (within_nextRound p _)).ite (adopted.trans (within_round_update _ p _ _))) adopted

theorem within_loadList (p : PortId) (n : Nat) (s : State) : Within rounding s (loadList p n s) :=
  (Within.refl _ s).ite (within_adoptNow p n s)

/-! ### The end and the begin of a unit's work -/

theorem within_handOutcome (p : PortId) (w : Work) (o : BusOutcome) (d : List Byte) (s : State) :
    Within rounding s (handOutcome p w o d s) := by
  cases w with
  | charger g => exact (within_groupEnd g o s).mono (by simp)
  | probe u => exact (within_probeStepEnd u o d s).mono (probing_subset_rounding _)
  | poll n => exact within_offeredEnds p n o _ d s
  | host n => exact (within_transferEnds n o d s).mono (by simp)

theorem sticking_subset_rounding (p : PortId) : sticking p ⊆ rounding := by cases p <;> simp

theorem within_afterUnit (p : PortId) (o : BusOutcome) (s : State) : Within (refusing p) s (afterUnit p o s) :=
  ((within_enterRecovering p _ _ s).mono (by simp)).ite (within_unitDone p s)

theorem within_unitEnds (p : PortId) (w : Work) (t : Transaction) (o : BusOutcome) (d : List Byte) (s : State) :
    Within rounding s (unitEnds p w t o d s) :=
  ((within_round_port (within_updatingPort p _ s)).trans (within_handOutcome p w o d _)).trans
    ((within_afterUnit p o _).mono (refusing_subset_rounding p))

theorem within_secondBegins (p : PortId) (w : Work) (t : Transaction) (s : State) :
    Within (sticking p) s (secondBegins p w t s) := by
  have noted := (within_updatingPort p (fun x => { noteTransaction t .ok x with second := true }) s).mono (W := sticking p) (by simp)
  exact (noted.trans (within_stuckData p w _)).ite noted

theorem within_transactionEnds (p : PortId) (w : Work) (r : TransactionResult) (s : State) :
    Within rounding s (transactionEnds p w r s) := by
  cases r with
  | dataFoundLow => exact (within_stuckData p w s).mono (sticking_subset_rounding p)
  | ran reply =>
    exact ((within_secondBegins p w _ s).mono (sticking_subset_rounding p)).ite (within_unitEnds p w _ _ _ s)

theorem within_clockTimesOut (p : PortId) (w : Work) (s : State) : Within rounding s (clockTimesOut p w s) :=
  within_unitEnds p w _ _ _ s

theorem within_recoveryStep (p : PortId) (u : ProbeUnit) (s : State) : Within (refusing p) s (recoveryStep p u s) := by
  refine Within.ite ?_ (Within.mono (within_updatingPort p _ s) (by simp))
  exact (((within_updatingPort p _ s).mono (W := refusing p) (by simp)).next (within_probeStepEnd u _ _ _)
    (probing_subset_refusing _ p)).trans (within_unitDone p _)

theorem within_beginWork (p : PortId) (s : State) : Within rounding s (beginWork p s) := by
  have begun : Within rounding s (s.setPort p { s.port p with starting := false }) :=
    within_round_port (within_setPort p _ s)
  have checked : ∀ w, Within rounding s (if dataStuck ((s.setPort p { s.port p with starting := false }).line p) then
      stuckData p w (s.setPort p { s.port p with starting := false }) else s.setPort p { s.port p with starting := false }) :=
    fun w => (begun.trans ((within_stuckData p w _).mono (sticking_subset_rounding p))).ite begun
  unfold beginWork
  dsimp only
  split
  · exact begun
  · split
    · exact (begun.trans ((within_recoveryStep p _ _).mono (refusing_subset_rounding p))).ite (checked _)
    all_goals exact checked _

theorem within_handBack (p : PortId) (n : Nat) (s : State) : Within rounding s (handBack p n s) :=
  (within_round_port (within_setPort p _ s)).trans (within_offeredEnds p n _ _ _ _)

theorem within_grantNow (p : PortId) (s : State) : Within rounding s (grantNow p s) := by
  unfold grantNow
  split
  · split
    · exact (within_round_port (within_updatingPort p _ s)).trans
        (within_grantNotice _ _ fun _ _ => monitoring_subset_rounding _)
    · exact Within.refl _ s
  · exact Within.refl _ s

theorem within_arbiterStep (p : PortId) (s : State) : Within rounding s (arbiterStep p s) := by
  unfold arbiterStep
  dsimp only
  split
  · exact within_beginWork p s
  · split
    · exact (within_grantNow p s).ite (within_handBack p _ s)
    · exact within_grantNow p s

theorem within_service (p : PortId) (s : State) : Within rounding s (service p s) := by
  have two : ∀ x, Within rounding x (arbiterStep p (arbiterStep p x)) := fun x =>
    (within_arbiterStep p x).trans (within_arbiterStep p _)
  exact (((two s).trans (two _)).trans (two _)).trans (two _)

theorem within_servicePorts (s : State) : Within rounding s (servicePorts s) :=
  (within_service .a s).trans (within_service .b _)

theorem within_publishDue (s : State) : Within [] s (publishDue s) := by
  have made : ∀ (b : Bool) (r : Rec) (x : State), Within [] s x → Within [] s (if b then publish r x else x) :=
    fun b r x w => (w.trans (within_publish r x)).ite w
  exact made _ _ _ (made _ _ _ (made _ _ _ (within_due _ s)))

theorem within_settle (s : State) : Within rounding s (settle s) :=
  (((within_servicePorts s).next (within_powerSettle _) (by simp)).trans (within_servicePorts _)).next (within_publishDue _) (by simp)

end Sys2Proof.Proofs.Frames
end

section
/-! PROOF. Every command leaves the scan mode decided and no update due: what settles leaves none due, and what does not settle
announces nothing. -/
set_option Elab.async false

namespace Sys2Proof.Proofs.ScanModes

open Sys2Proof Sys2Proof.Machine Sys2Proof.Safety Sys2Proof.Laws Sys2Proof.Proofs.Frames

/-- The mode stays the decided one, and no update comes due. -/
structure Tidy (s t : State) : Prop where
  decided : scanModeDecided s → scanModeDecided t
  none : noUpdateDue s → noUpdateDue t

theorem Tidy.refl (s : State) : Tidy s s := ⟨id, id⟩

theorem Tidy.ite {s a b : State} {c : Prop} [Decidable c] (ha : Tidy s a) (hb : Tidy s b) : Tidy s (if c then a else b) := by
  split <;> assumption

/-- A command that completes in a tidy state. -/
def Tidies (s : State) (a : Answer) : Prop := ∃ t, a = .next t ∧ Tidy s t

/-- R50, R78: the settling publishes what is due. -/
theorem noUpdateDue_settle (s : State) : noUpdateDue (settle s) := by
  have none : ∀ (b : Bool) (r : Rec) (x : State), noUpdateDue x → noUpdateDue (if b then publish r x else x) :=
    fun b r x h => by split <;> exact h
  exact none _ _ _ (none _ _ _ (none _ _ _ rfl))

theorem tidy_settle {s t : State} (h : scanModeDecided s → scanModeDecided t) : Tidy s (settle t) where
  decided d := (within_settle t).mode (by simp) (h d)
  none _ := noUpdateDue_settle t

theorem tidies_next {s t : State} (h : Tidy s t) : Tidies s (.next t) := ⟨t, rfl, h⟩

theorem tidies_quiet {f : State → State} {s : State} (h : Tidy s (f s)) : Tidies s (quiet f s) :=
  tidies_next (Tidy.ite (Tidy.refl s) h)

theorem tidies_event {f : State → State} {s : State} (h : scanModeDecided s → scanModeDecided (f s)) :
    Tidies s (event f s) := tidies_quiet (tidy_settle h)

theorem tidies_within {T : List Part} {f : State → State} {s : State} (w : Within T s (f s)) (m : .mode ∉ T) :
    Tidies s (event f s) := tidies_event (w.mode m)

/-- An event that is due only under a condition. -/
theorem tidies_when {b : Bool} {f : State → State} {s : State} (h : scanModeDecided s → scanModeDecided (f s)) :
    Tidies s (event (when_ b f) s) := tidies_event fun d => by
  unfold when_
  split
  · exact h d
  · exact d

theorem tidies_whenWithin {T : List Part} {b : Bool} {f : State → State} {s : State} (w : Within T s (f s))
    (m : .mode ∉ T) : Tidies s (event (when_ b f) s) := tidies_when (w.mode m)

/-- R186: a post that is taken. -/
theorem tidies_takePost {n k : Nat} {f : State → State} {s : State}
    (h : ∀ x, scanModeDecided x → scanModeDecided (f x)) : Tidies s (event (takePost n k f) s) := tidies_event fun d => by
  unfold takePost
  split
  · exact h _ ((within_setSlotState n _ s).mode (by simp) d)
  · exact d

theorem tidies_takePostWithin {T : List Part} {n k : Nat} {f : State → State} {s : State} (w : ∀ x, Within T x (f x))
    (m : .mode ∉ T) : Tidies s (event (takePost n k f) s) := tidies_takePost fun x => (w x).mode m

/-! ### Restarts -/

theorem within_handOne (k : PackId) (s : State) :
    Within bothPacks s (if s.seated k then presenceRise k s else s) :=
  ((within_presenceRise k s).mono (probing_subset k)).when

theorem within_handPresence (s : State) : Within bothPacks s (handPresence s) :=
  (within_handOne .pack0 s).trans (within_handOne .pack1 _)

/-- What every unit does after the scan mode is decided. -/
theorem within_afterDecision (s : State) :
    Within rounding s (firstRound .b (firstRound .a (dischargeDecision (handPresence s)))) :=
  ((((within_handPresence s).mono (W := rounding) (by simp)).next (within_dischargeDecision _) (by simp)).trans
    (within_firstRound .a _)).trans (within_firstRound .b _)

theorem decided_beginAgain (s : State) : scanModeDecided (beginAgain s) :=
  (within_afterDecision _).mode (by simp) ((within_evaluate _).mode (by simp) (scanModeDecided_decision s))

theorem decided_restartFromPins (s : State) : scanModeDecided (restartFromPins s) := decided_beginAgain _

theorem within_autoPowerOn (s : State) (off : s.power.state ≠ .run) : Within waking s (autoPowerOn s) :=
  (within_powerOn _ s off).when

theorem decided_ite {a b : State} {c : Prop} [Decidable c] (ha : scanModeDecided a) (hb : scanModeDecided b) :
    scanModeDecided (if c then a else b) := by split <;> assumption

/-- R5: a wake decides the scan mode, whatever the state before. -/
theorem decided_takeWake (fs : List Factor) (s : State) : scanModeDecided (takeWake fs s) := by
  have changed : ∀ f x, scanModeDecided (changePower .waking .wake f x) := fun f x => changePower_decided _ _ f x
  exact decided_ite (decided_ite ((within_standbyUp _).mode (by simp) (changed _ _)) (changed _ _))
    ((within_raiseMain _).mode (by simp) (changed _ _))

theorem decided_coldStart (pins : PinLevels) (s : State) : scanModeDecided (coldStart pins s) := by
  have begun := decided_beginAgain (resetValues (sampleStraps pins.straps) .none none { s with pins := pins })
  unfold coldStart autoPowerOn powerOn
  split
  · split
    · exact begun
    · exact decided_takeWake _ _
  · exact begun

theorem decided_withCombinationRestart {f : State → State} {s : State} (h : scanModeDecided s → scanModeDecided (f s))
    (d : scanModeDecided s) : scanModeDecided (withCombinationRestart f s) := by
  unfold withCombinationRestart
  dsimp only
  split
  · exact decided_restartFromPins _
  · exact h d

theorem within_handPortState (s : State) : Within charging s (handPortState s) := (within_setPortCause _ s).when

theorem decided_warmRestart (n : Nat) (s : State) : scanModeDecided (warmRestart n s) := by
  unfold warmRestart
  exact (within_afterDecision _).mode (by simp) ((within_handPortState _).mode (by simp)
    ((within_evaluate _).mode (by simp) (scanModeDecided_decision _)))

/-! ### Levels, pins and registers -/

/-- The scan mode decides from the power fields alone. -/
theorem decided_of_power {s t : State} (mode : t.kbd.mode = s.kbd.mode) (state : t.power.state = s.power.state)
    (table : t.power.table = s.power.table) (lid : t.power.levels.lid = s.power.levels.lid) (d : scanModeDecided s) :
    scanModeDecided t := (mode.trans d).trans (decideMode_eq_of lid state table).symm

theorem tidy_rawInput (i : FilteredInput) (b : Bool) (s : State) : Tidy s (rawInput i b s) := Tidy.ite ⟨id, id⟩ ⟨id, id⟩

theorem tidy_rawRowChange (b : Bool) (s : State) : Tidy s (rawRowChange b s) := Tidy.ite ⟨id, id⟩ (Tidy.ite ⟨id, id⟩ ⟨id, id⟩)

theorem within_publishLevel_lid (s : State) : Within [.power, .mode, .keys] s (publishLevel .lid s) :=
  within_updatingPower (within_powerAny _ s)

/-- R1: every other input than the lid is none of the scanner's. -/
theorem within_publishLevel (i : FilteredInput) (s : State) (other : i ≠ .lid) : Within [.power] s (publishLevel i s) := by
  have same : (completeCount i s.power s.pins.inputs).levels.lid = s.power.levels.lid := by
    cases i with
    | lid => exact absurd rfl other
    | _ => rfl
  have moved : Within [.power] s { s with power := completeCount i s.power s.pins.inputs } :=
    { Within.refl _ s with
      power := touched (by simp)
      mode := fun _ d => decided_of_power (s := s) rfl rfl rfl same d
      keys := fun _ d => ⟨decided_of_power (s := s) rfl rfl rfl same d, rfl⟩ }
  exact within_updatingPower moved

theorem within_publishAdapter (s : State) : Within [.power] s (publishAdapter s) :=
  within_updatingPower { Within.refl _ s with power := touched (by simp) }

theorem within_adapterNotice (s : State) : Within reporting s (adapterNotice s) := (within_offer _ s).when

theorem within_insertionPowerOn (s : State) : Within waking s (insertionPowerOn s) := by
  unfold insertionPowerOn
  split
  · next h =>
    refine within_powerOn _ s ?_
    simp only [Bool.and_eq_true, beq_iff_eq] at h
    simp [h.1.2]
  · exact Within.refl _ s

/-- What the adapter's change starts in the units. -/
@[simp] def adapting : List Part := [.causes, .mem, .ring, .queue, .power, .kbd, .matrix, .dsg, .chg, .port .a]

theorem within_adapterChange (s : State) : Within adapting s (adapterChange s) := by
  have reactions := within_eitherOrder (T := adapting) (f := anyOrder dischargeDecision evaluate adapterNotice)
    (g := insertionPowerOn)
    (within_anyOrder (fun y => (within_dischargeDecision y).mono (by simp)) (fun y => (within_evaluate y).mono (by simp))
      (fun y => (within_adapterNotice y).mono (by simp)))
    (fun y => (within_insertionPowerOn y).mono (by simp))
  exact ((within_publishAdapter s).mono (W := adapting) (by simp)).trans (reactions _)

theorem within_lidNotice (s : State) :
    Within reporting s (if s.power.state = .run then offer (.lid s.lidOpen) s else s) := (within_offer _ s).when

/-- R31: a change of the lid decides the scan mode. -/
theorem decided_lidChange (s : State) : scanModeDecided (lidChange s) := by
  unfold lidChange eitherOrder
  dsimp only
  split
  · exact scanModeDecided_decision _
  · exact (within_lidNotice _).mode (by simp) (scanModeDecided_decision _)

theorem within_presenceChange (k : PackId) (s : State) : Within (probing k) s (presenceChange k s) :=
  ((within_publishLevel (presenceInput k) s (by cases k <;> simp [presenceInput])).mono (W := probing k) (by simp)).trans
    ((within_presenceRise k _).ite (within_presenceFall k _))

theorem within_setLine (p : PortId) (l : BusLine) (s : State) : Within [] s (s.setLine p l) := by
  cases p <;> exact within_pins _ s

theorem within_transactionEnd (p : PortId) (r : TransactionResult) (l : BusLine) (s : State) :
    Within rounding s (transactionEnd p r l s) := by
  unfold transactionEnd
  split
  · exact Within.refl _ s
  · exact ((within_setLine p l s).then (within_transactionEnds p _ r _)).mono (by simp)

theorem within_clockTimeout (p : PortId) (s : State) : Within rounding s (clockTimeout p s) := by
  unfold clockTimeout
  split
  · exact Within.refl _ s
  · exact within_clockTimesOut p _ s

theorem within_attemptEnd (p : PortId) (seen : AttemptSeen) (s : State) : Within (refusing p) s (attemptEnd p seen s) := by
  have lined := (within_setLine p seen.after s).mono (W := refusing p) (by simp)
  exact (lined.trans (within_attemptEnds p _ _)).when

theorem within_roundStart (p : PortId) (l : BusLine) (s : State) : Within rounding s (roundStart p l s) := by
  have lined := (within_setLine p l s).mono (W := rounding) (by simp)
  exact (lined.trans (within_nextRound p _)).when

theorem within_longPressExpires (s : State) : Within powering s (longPressExpires s) := by
  have reached_ : Within [.power] s (holdReached s) := within_power _ s rfl rfl rfl
  exact Within.ite (reached_.mono (by simp)) ((reached_.then (within_longPress _)).mono (by simp))

theorem within_rowFilterDone (s : State) : Within [.kbd] s (rowFilterDone s) :=
  Within.when (within_updating .keyboard { Within.refl _ s with kbd := touched (by simp) })

/-! ### Requests -/

theorem within_adoptKeymap (m : Keymap) (s : State) : Within [.kbd, .matrix] s (adoptKeymap m s) :=
  within_updating .keyboard { Within.refl _ s with kbd := touched (by simp), matrix := touched (by simp) }

theorem within_ownerTakes (t : TableId) (n : Nat) (s : State) : Within rounding s (ownerTakes t n s) := by
  have done := fun x => (within_completeAny n .ok 0 [(1, [0#8])] x).mono (W := rounding) (by simp)
  cases t with
  | keymap => exact ((within_adoptKeymap _ s).mono (W := rounding) (by simp)).trans (done _)
  | pollA => exact within_loadList .a n s
  | pollB => exact within_loadList .b n s
  | chargeProfile => exact ((done s).next (within_adoptProfile _ _) (by simp)).next (within_profileReactions _) (by simp)
  | thermal => exact (done s).next (within_adoptThermal _ _) (by simp)
  | fanCurves => exact Within.refl _ s
  | platform => exact (done s).next (within_adoptPlatform _ _) (by simp)

theorem within_loadTable (n : Nat) (s : State) : Within rounding s (loadTable n s) := by
  have done := fun r d b x => (within_completeAny n r d b x).mono (W := rounding) (by simp)
  unfold loadTable validateAndTake
  split
  · exact done _ _ _ s
  · split
    · exact done _ _ _ s
    · split
      · exact ((within_holdSlot n _ s).mono (W := rounding) (by simp)).trans (done _ _ _ _)
      · exact ((within_holdSlot n _ s).mono (W := rounding) (by simp)).trans (within_ownerTakes _ n _)

theorem within_offerTransfer (n : Nat) (s : State) : Within rounding s (offerTransfer n s) := by
  unfold offerTransfer
  dsimp only
  split
  all_goals first | exact (within_completeAny _ _ _ _ s).mono (by simp) | exact within_round_offer _ _ s

theorem within_busTransfer (n : Nat) (s : State) : Within rounding s (busTransfer n s) := by
  unfold busTransfer
  split
  · exact (within_completeAny _ _ _ _ s).mono (by simp)
  · exact ((within_holdSlot n _ s).mono (W := rounding) (by simp)).trans (within_offerTransfer n _)

theorem within_busReset (n : Nat) (s : State) :
    Within [.causes, .mem, .ring, .queue, .slot n, .posted, .chg, .port .a, .port (portOfNat (slotParam s n 0))] s (busReset n s) :=
  Within.ite ((within_completeSlot n _ _ _ s fitsSlot_nil).mono (by simp))
    (((within_holdSlot n _ s).then (within_busResetRequest n _ _)).mono (by simp))

theorem within_probeRequest (n : Nat) (s : State) : Within bothPacks s (probeRequest n s) := by
  have attached := fun k => (within_attachRequest k n s).mono (W := bothPacks) (by cases k <;> simp)
  have started := fun k x => (within_startProbe k x).mono (probing_subset k)
  unfold probeRequest
  split
  · exact (within_completeAny _ _ _ _ s).mono (by simp)
  · next k _ =>
    split
    · exact (within_completeAny _ _ _ _ s).mono (by simp)
    · split
      · exact (within_completeAny _ _ _ _ s).mono (by simp)
      · exact ((attached k).trans ((within_setPackState k _ _ _ _).mono (by cases k <;> simp))).trans (started k _)
      · exact ((attached k).trans ((within_setPackState k _ _ _ _).mono (by cases k <;> simp))).trans (started k _)
      all_goals exact (attached k).ite ((attached k).trans (started k _))

theorem within_probePack (n : Nat) (s : State) : Within bothPacks s (probePack n s) := by
  unfold probePack
  split
  · exact (within_completeAny _ _ _ _ s).mono (by simp)
  · exact ((within_holdSlot n _ s).mono (W := bothPacks) (by simp)).trans (within_probeRequest n _)

theorem within_setOverride (n : Nat) (s : State) :
    Within (.th :: .slot n :: .posted :: charging) s (setOverride n s) := by
  have done := fun r d x => (within_completeSlot n r d [] x fitsSlot_nil).mono (W := .th :: .slot n :: .posted :: charging) (by simp)
  unfold setOverride
  dsimp only
  split
  · exact done _ _ s
  · split
    · exact done _ _ s
    · split
      · exact done _ _ s
      · split
        · exact (((within_setOverrides _ _ s).mono (W := .th :: .slot n :: .posted :: charging) (by simp)).next
            (within_setCap _ _) (by simp)).trans (done _ _ _)
        · exact done _ _ s

theorem within_chargeModeRequest (n : Nat) (s : State) :
    Within (.slot n :: .posted :: charging) s (chargeModeRequest n s) := by
  unfold chargeModeRequest
  split
  · exact (within_completeSlot n _ _ _ s fitsSlot_nil).mono (by simp)
  · exact ((within_setChargeMode _ s).then (within_completeSlot n _ _ _ _ fitsSlot_nil)).mono (by simp)

theorem within_acceptPower (n : Nat) (t : SleepTarget) (d : Nat) (s : State) :
    Within (.slot n :: .posted :: powering) s (acceptPower n t d s) := by
  have started := ((within_completeSlot n .ok 0 [] s fitsSlot_nil).mono (W := .slot n :: .posted :: powering) (by simp)).next
    (within_startDelay t d _) (by simp)
  exact (started.next (within_delayExpires _) (by simp)).ite started

theorem within_powerRequest (n : Nat) (s : State) : Within (.slot n :: .posted :: powering) s (powerRequest n s) := by
  have done := fun r d => (within_completeSlot n r d [] s fitsSlot_nil).mono (W := .slot n :: .posted :: powering) (by simp)
  unfold powerRequest
  dsimp only
  split
  · exact done _ _
  · exact (done _ _).ite ((done _ _).ite ((done _ _).ite ((done _ _).ite (within_acceptPower n _ _ s))))

theorem within_foundCancelled (n : Nat) (s : State) : Within [.causes, .mem, .slot n, .posted] s (foundCancelled n s) :=
  (within_completeSlot n _ _ _ s fitsSlot_nil).when

theorem within_unknownPost (n : Nat) (s : State) : Within [.causes, .mem, .slot n, .posted] s (unknownPost n s) :=
  (within_completeSlot n _ _ _ s fitsSlot_nil).when

/-! ### Window writes -/

/-- What a host write changes. -/
@[simp] def storing : List Part := [.causes, .mem, .front, .ring, .slots, .queue, .posted, .power, .kbd, .port .a, .port .b]

theorem within_withdrawTransfer (p : PortId) (n : Nat) (s : State) :
    Within [.causes, .mem, .slot n, .posted, .port p] s (withdrawTransfer p n s) :=
  ((within_updatingPort p _ s).then (within_completeSlot n _ _ _ _ fitsSlot_nil)).mono (by simp)

theorem within_cancelEvent (n : Nat) (s : State) :
    Within [.slot n, .causes, .mem, .posted, .port .a, .port .b] s (cancelEvent n s) := by
  unfold cancelEvent
  split
  · exact (within_completeSlot n _ _ _ s fitsSlot_nil).mono (by simp)
  · next p _ => exact (within_withdrawTransfer p n s).mono (by cases p <;> simp) |>.when
  all_goals exact Within.refl _ s

theorem within_noteDiscard (o : Nat) (s : State) : Within [.causes] s (noteDiscard o s) := by
  have noted : Within [.causes] s (setCause causeProtocol { s with link := { s.link with lastProtocol := BitVec.ofNat 16 o } }) :=
    { Within.refl _ s with causes := touched (by simp) }
  exact noted.next (within_publish _ _) (by simp)

theorem within_discardWrite (s : State) (w : WindowWrite) : Within [.causes] s (discardWrite s w) :=
  (((within_useTurn s).mono (W := [.causes]) (by simp)).when).next (within_noteDiscard _ _) (by simp)

theorem within_storeWrite (s : State) (w : WindowWrite) : Within storing s (storeWrite s w) := by
  have stored := (within_storeBytes w.offset w.bytes s).mono (W := storing) (by simp)
  unfold storeWrite
  split
  · exact stored
  · exact stored.next (within_heartbeatEvent _) (by simp)
  · exact ((within_queue _ s).then (within_roomEvent _)).mono (by simp)
  · exact stored.next (within_cancelEvent _ _).anySlot (by simp)

theorem within_windowWrite (w : WindowWrite) (s : State) : Within storing s (windowWrite w s) :=
  (within_storeWrite s w).ite ((Within.refl _ s).ite ((within_discardWrite s w).mono (by simp)))

theorem within_hostWrite (a : Word32) (b : List Byte) (s : State) : Within storing s (hostWrite a b s) :=
  (within_windowWrite _ s).when

/-! ### Every command -/

theorem tidy_tick (s : State) : Tidy s (tick s) := ⟨decided_of_power (s := s) rfl rfl rfl rfl, id⟩

theorem tidy_endBoost (s : State) : Tidy s (endBoost s) where
  decided := (within_endBoost s).mode (by simp)
  none h := by
    have due : (endBoost s).due = s.due := by
      unfold endBoost setBoost updatingFans commit
      split
      · split <;> split <;> rfl
      · rfl
    exact due.trans h

theorem tidy_settleTimerEnds (b : Bool) (s : State) : Tidy s (when_ b settleTimerEnds s) where
  decided d := by
    unfold when_
    split
    · exact (within_updatingPacks (f := fun x => { x with dsg := { x.dsg with settleMs := none } }) (within_dsg _ s)).mode
        (by simp) d
    · exact d
  none h := by
    have due : (when_ b settleTimerEnds s).due = s.due := by
      unfold when_ settleTimerEnds updatingPacks commit
      split
      · split <;> split <;> rfl
      · rfl
    exact due.trans h

theorem tidy_tachPulse (f : FanId) (n : Nat) (s : State) : Tidy s (tachPulse f n s) :=
  Tidy.ite (by cases f <;> exact ⟨id, id⟩) (Tidy.refl s)

theorem tidies_powerGoodRise (r : Rail) (s : State) : Tidies s (exec (.powerGoodRise r) s) := by
  have pin := within_setPowerGood r true s
  show Tidies s (execPowerGoodRise r s)
  unfold execPowerGoodRise
  split
  · exact tidies_next ⟨id, id⟩
  · split
    · exact tidies_next { decided := pin.mode (by simp), none := by cases r <;> exact id }
    · exact tidies_next (tidy_settle fun d => (within_powerGoodUp r _).mode (by simp) (pin.mode (by simp) d))

theorem tidies_powerGoodFall (r : Rail) (s : State) : Tidies s (exec (.powerGoodFall r) s) := by
  have pin := within_setPowerGood r false s
  show Tidies s (execPowerGoodFall r s)
  unfold execPowerGoodFall
  split
  · exact tidies_next ⟨id, id⟩
  · split
    · exact tidies_next { decided := pin.mode (by simp), none := by cases r <;> exact id }
    · exact tidies_next (tidy_settle fun d => decided_withCombinationRestart
        (fun d => (within_powerGoodDown r _).mode (by simp) (pin.mode (by simp) d)) d)

theorem tidies_pinResetRelease (straps : StrapPins) (a b : BusLine) (s : State) :
    Tidies s (exec (.pinResetRelease straps a b) s) :=
  tidies_next (Tidy.ite (tidy_settle fun _ => decided_restartFromPins _) (Tidy.refl s))

/-- R31, R50, R78: every command leaves the scan mode decided and no update due. -/
theorem exec_tidies (c : Instr) (s : State) : Tidies s (exec c s) := by
  cases c with
  | coldStart pins => exact tidies_next (tidy_settle fun _ => decided_coldStart pins s)
  | pinResetAssert => exact tidies_next ⟨id, id⟩
  | pinResetRelease straps a b => exact tidies_pinResetRelease straps a b s
  | rawInputChange i b => exact tidies_next (tidy_rawInput i b s)
  | lidChange => exact tidies_when fun _ => decided_lidChange s
  | adapterChange => exact tidies_whenWithin (within_adapterChange s) (by simp)
  | packPresenceChange k => exact tidies_whenWithin (within_presenceChange k s) (by simp)
  | auxWakeChange => exact tidies_whenWithin (within_publishLevel .wakeAux s (by simp)) (by simp)
  | buttonPress =>
    exact tidies_when fun d => (within_buttonPress _).mode (by simp) ((within_publishLevel .pwrbtn s (by simp)).mode (by simp) d)
  | buttonRelease =>
    exact tidies_when fun d => (within_buttonRelease _).mode (by simp) ((within_publishLevel .pwrbtn s (by simp)).mode (by simp) d)
  | powerGoodRise r => exact tidies_powerGoodRise r s
  | powerGoodFall r => exact tidies_powerGoodFall r s
  | railWaitTimeout => exact tidies_event (decided_withCombinationRestart ((within_waitRunsOut s).mode (by simp)))
  | resetHoldExpiry => exact tidies_whenWithin (within_reachRun s) (by simp)
  | suspendDelayExpiry => exact tidies_within (within_delayExpires s) (by simp)
  | longPressExpiry => exact tidies_whenWithin (within_longPressExpires s) (by simp)
  | combinationTimerExpiry => exact tidies_when (decided_withCombinationRestart ((within_comboExpires s).mode (by simp)))
  | heartbeatWrite f b => exact tidies_within (within_windowWrite _ s) (by simp)
  | heartbeatExpiry => exact tidies_whenWithin (within_heartbeatExpires s) (by simp)
  | resetPulseEnd => exact tidies_whenWithin (within_pulseEnds s) (by simp)
  | criticalGraceExpiry => exact tidies_whenWithin (within_enterShutdown _ s) (by simp)
  | scanPass cols => exact tidies_whenWithin (within_scanPass cols s) (by simp)
  | rawRowChange b => exact tidies_next (tidy_rawRowChange b s)
  | rowFilterExpiry => exact tidies_within (within_rowFilterDone s) (by simp)
  | transactionEnd p r l => exact tidies_within (within_transactionEnd p r l s) (by simp)
  | clockTimeout p => exact tidies_within (within_clockTimeout p s) (by simp)
  | recoveryAttemptEnd p x => exact tidies_within (within_attemptEnd p x s) (by simp)
  | haltRetryExpiry p => exact tidies_whenWithin (within_retryBegins p s) (by simp)
  | roundStart p l => exact tidies_within (within_roundStart p l s) (by simp)
  | roundOverrun p => exact tidies_whenWithin (within_overrun p s) (by simp)
  | settleTimerExpiry => exact tidies_quiet (tidy_settleTimerEnds _ s)
  | thermalUpdate m0 m1 => exact tidies_within (within_thermalUpdate m0 m1 s) (by simp)
  | tachPulse f n => exact tidies_quiet (tidy_tachPulse f n s)
  | boostExpiry => exact tidies_quiet (tidy_endBoost s)
  | partTimeTick => exact tidies_quiet (tidy_tick s)
  | hostWindowWrite a b => exact tidies_within (within_hostWrite a b s) (by simp)
  | alertCauseWrite f b => exact tidies_quiet (f := fun x => { x with link := clearCauses f b x.link }) ⟨id, id⟩
  | alertEnableWrite f b => exact tidies_quiet (f := fun x => { x with link := writeEnables f b x.link }) ⟨id, id⟩
  | windowCtrlWrite f b => exact tidies_quiet (f := fun x => { x with link := writeControl f b x.link }) ⟨id, id⟩
  | registerWriteOther o b => exact tidies_quiet (f := id) (Tidy.refl s)
  | postFoundCancelled n => exact tidies_within (within_foundCancelled _ s) (by simp)
  | unknownKind n => exact tidies_within (within_unknownPost _ s) (by simp)
  | loadTable n => exact tidies_takePostWithin (within_loadTable _) (by simp)
  | busTransfer n => exact tidies_takePostWithin (within_busTransfer _) (by simp)
  | busReset n => exact tidies_takePost fun x => (within_busReset _ x).mode (by simp)
  | probePack n => exact tidies_takePostWithin (within_probePack _) (by simp)
  | setOverride n => exact tidies_takePostWithin (within_setOverride _) (by simp)
  | setChargeMode n => exact tidies_takePostWithin (within_chargeModeRequest _) (by simp)
  | setPowerState n => exact tidies_takePostWithin (within_powerRequest _) (by simp)
  | warmRestart n => exact tidies_takePost fun x _ => decided_warmRestart _ x
  | cancelWrite n => exact tidies_within (within_windowWrite _ s) (by simp)
  | slotFreeWrite n => exact tidies_within (within_windowWrite _ s) (by simp)
  | readIndexWrite v => exact tidies_within (within_windowWrite _ s) (by simp)

theorem exec_tidy {c : Instr} {s t : State} (h : exec c s = .next t) : Tidy s t := by
  obtain ⟨u, hu, k⟩ := exec_tidies c s
  cases h.symm.trans hu
  exact k

/-! ### The obligations -/

/-- Settles O60: the front command is tidy, and an idle step changes nothing. -/
theorem stepKeepsScanMode : Obligations.StepKeepsScanMode := by
  refine ⟨⟨rfl, rfl⟩, fun s t h => ?_⟩
  unfold step at h
  split at h
  · cases h
    exact ⟨id, id⟩
  · have k := exec_tidy h
    exact ⟨k.decided, k.none⟩

/-- Settles O52, from what the settling keeps. -/
theorem settlingFrame : Obligations.SettlingFrame := by
  intro s
  have k := keeps_settle s
  exact ⟨k.pins, k.inReset, k.pending, k.levels, k.straps, k.windowCtrl, k.alertEnable, k.partTime, k.lastProtocol,
    k.causesStay⟩

end Sys2Proof.Proofs.ScanModes
end

section
/-! PROOF. An update of a record leaves every part of the state as the change made it: reading a part after it. -/
set_option Elab.async false

namespace Sys2Proof.Proofs.Updates

open Sys2Proof Sys2Proof.Machine Sys2Proof.Safety Sys2Proof.Laws Sys2Proof.Proofs.Frames

/-! ### Reading a part after an update of a record -/

theorem within_told (r : Rec) (before after : State) : Within [] after (commit r before after) :=
  within_commit r before (Within.refl [] after)

theorem within_toldPower (before after : State) : Within [] after (commitPower before after) :=
  (Within.refl [] after).ite (within_publish .platform after)

/-- What no update of a record touches and no frame speaks of. -/
theorem commit_surroundings (r : Rec) (b a : State) : (commit r b a).pins = a.pins ∧ (commit r b a).turns = a.turns ∧
    (commit r b a).link.partTime = a.link.partTime := by
  unfold commit
  split
  · exact ⟨rfl, rfl, rfl⟩
  · exact ⟨announce_pins r a, announce_turns r a, announce_partTime r a⟩

@[simp] theorem commit_pins (r : Rec) (b a : State) : (commit r b a).pins = a.pins := (commit_surroundings r b a).1
@[simp] theorem commit_turns (r : Rec) (b a : State) : (commit r b a).turns = a.turns := (commit_surroundings r b a).2.1
@[simp] theorem commit_partTime (r : Rec) (b a : State) : (commit r b a).link.partTime = a.link.partTime :=
  (commit_surroundings r b a).2.2
@[simp] theorem commit_alertCause (r : Rec) (b a : State) : (commit r b a).link.alertCause = a.link.alertCause :=
  (within_told r b a).causes (by simp)
@[simp] theorem commit_mem (r : Rec) (b a : State) : (commit r b a).mem = a.mem := (within_told r b a).mem (by simp)
@[simp] theorem commit_queue (r : Rec) (b a : State) : (commit r b a).queue = a.queue := (within_told r b a).queue (by simp)
@[simp] theorem commit_posted (r : Rec) (b a : State) : (commit r b a).posted = a.posted :=
  (within_told r b a).posted (by simp)
@[simp] theorem commit_power (r : Rec) (b a : State) : (commit r b a).power = a.power := (within_told r b a).power (by simp)
@[simp] theorem commit_kbd (r : Rec) (b a : State) : (commit r b a).kbd = a.kbd := (within_told r b a).kbd (by simp)
@[simp] theorem commit_port (r : Rec) (b a : State) (p : PortId) : (commit r b a).port p = a.port p :=
  (within_told r b a).port p (by simp)
@[simp] theorem commit_portA (r : Rec) (b a : State) : (commit r b a).portA = a.portA := commit_port r b a .a
@[simp] theorem commit_portB (r : Rec) (b a : State) : (commit r b a).portB = a.portB := commit_port r b a .b
@[simp] theorem commit_engine (r : Rec) (b a : State) (p : PortId) : (commit r b a).engine p = a.engine p :=
  (within_told r b a).engine p (by simp)
@[simp] theorem commit_engineA (r : Rec) (b a : State) : (commit r b a).engineA = a.engineA := commit_engine r b a .a
@[simp] theorem commit_engineB (r : Rec) (b a : State) : (commit r b a).engineB = a.engineB := commit_engine r b a .b
@[simp] theorem commit_pack (r : Rec) (b a : State) (k : PackId) : (commit r b a).pack k = a.pack k :=
  (within_told r b a).pack k (by simp)
@[simp] theorem commit_pack0 (r : Rec) (b a : State) : (commit r b a).pack0 = a.pack0 := commit_pack r b a .pack0
@[simp] theorem commit_pack1 (r : Rec) (b a : State) : (commit r b a).pack1 = a.pack1 := commit_pack r b a .pack1
@[simp] theorem commit_dsg (r : Rec) (b a : State) : (commit r b a).dsg = a.dsg := (within_told r b a).dsg (by simp)
@[simp] theorem commit_chg (r : Rec) (b a : State) : (commit r b a).chg = a.chg := (within_told r b a).chg (by simp)
@[simp] theorem commit_th (r : Rec) (b a : State) : (commit r b a).th = a.th := (within_told r b a).th (by simp)

@[simp] theorem commitPower_pins (b a : State) : (commitPower b a).pins = a.pins := by unfold commitPower; split <;> rfl
@[simp] theorem commitPower_turns (b a : State) : (commitPower b a).turns = a.turns := by unfold commitPower; split <;> rfl
@[simp] theorem commitPower_power (b a : State) : (commitPower b a).power = a.power :=
  (within_toldPower b a).power (by simp)
@[simp] theorem commitPower_mem (b a : State) : (commitPower b a).mem = a.mem := (within_toldPower b a).mem (by simp)
@[simp] theorem commitPower_queue (b a : State) : (commitPower b a).queue = a.queue :=
  (within_toldPower b a).queue (by simp)
@[simp] theorem commitPower_dsg (b a : State) : (commitPower b a).dsg = a.dsg := (within_toldPower b a).dsg (by simp)
@[simp] theorem commitPower_kbd (b a : State) : (commitPower b a).kbd = a.kbd := (within_toldPower b a).kbd (by simp)
@[simp] theorem commitPower_th (b a : State) : (commitPower b a).th = a.th := (within_toldPower b a).th (by simp)

/-- R78: an event of a port makes its change. -/
@[simp] theorem port_updatingPort (p : PortId) (f : Port → Port) (s : State) :
    (updatingPort p f s).port p = f (s.port p) := by simp [updatingPort, updating]

end Sys2Proof.Proofs.Updates
end

section
/-! PROOF. The side bus on the wire (R57 to R61) and the arbiter's choice (R71 to R73). -/
namespace Sys2Proof.Proofs.Wire

open Sys2Proof Sys2Proof.Machine Sys2Proof.Safety Sys2Proof.Laws Sys2Proof.Proofs.Frames Sys2Proof.Proofs.Updates

/-! ### The packet error code -/

theorem crcByte_self (v : Byte) : crcByte v v = 0#8 := by
  unfold crcByte
  rw [BitVec.xor_self]
  decide

/-- R60: a run of covered bytes with its code comes out at 0. -/
theorem crc8_append_self (bytes : List Byte) : crc8 (bytes ++ [crc8 bytes]) = 0#8 := by
  have last : crc8 (bytes ++ [crc8 bytes]) = crcByte (crc8 bytes) (crc8 bytes) := by
    simp [crc8, List.foldl_append]
  exact last.trans (crcByte_self _)

theorem sentBytes_write {t : Transaction} (pec : t.pec = true) (kind : t.kind = .writeWord ∨ t.kind = .writeBlock) :
    sentBytes t = sentBody t ++ [crc8 (sentBody t)] := by
  rcases kind with kind | kind <;> simp [sentBytes, appendsPec, pec, kind]

/-! ### The outcome of a transaction -/

theorem outcome_readWord {t : Transaction} {r : Reply} (kind : t.kind = .readWord) (acknowledged : r.nackAt = none) :
    transactionOutcome t r =
      checkPec t r [receivedByte r 0, receivedByte r 1] [receivedByte r 0, receivedByte r 1] := by
  simp [transactionOutcome, acknowledged, kind]

theorem checkPec_bad {t : Transaction} {r : Reply} {covered : List Byte} (data : List Byte) (pec : t.pec = true)
    (bad : receivedByte r covered.length ≠ crc8 (sentBody t ++ covered)) : checkPec t r covered data = (.pecFail, []) := by
  simp [checkPec, pec, bad]

theorem checkPec_good {t : Transaction} {r : Reply} {covered : List Byte} (data : List Byte)
    (good : receivedByte r covered.length = crc8 (sentBody t ++ covered)) : checkPec t r covered data = (.ok, data) := by
  simp [checkPec, good]

theorem outcome_nack {t : Transaction} {r : Reply} {i : Nat} (nack : r.nackAt = some i) (sent : i < (sentBytes t).length) :
    transactionOutcome t r = (if isAddressByte t i then .nackAddr else .nackData, []) := by
  unfold transactionOutcome
  rw [nack, Option.filter_some, if_pos (by simpa using sent)]
  dsimp only
  split <;> rfl

theorem badCount_iff (t : Transaction) (n : Nat) : badCount t n = true ↔ n = 0 ∨ 32 < n ∨ t.readLength < n := by
  simp [badCount, or_assoc]

theorem outcome_badCount {t : Transaction} {r : Reply} (kind : t.kind = .readBlock) (acknowledged : r.nackAt = none)
    (bad : badCount t (receivedByte r 0).toNat = true) : transactionOutcome t r = (.badCount, []) := by
  simp [transactionOutcome, acknowledged, kind, bad]

/-- Settles O27: the code of R60, then the outcomes by what the target acknowledges and sends. -/
theorem transactionOutcomes : Obligations.TransactionOutcomes := by
  refine ⟨⟨crc8_append_self, fun t => sentBytes_write, fun t r pec kind ack => ?_⟩, fun t r => ⟨fun i => outcome_nack, ?_⟩⟩
  · rw [outcome_readWord kind ack]
    exact ⟨checkPec_bad (covered := [receivedByte r 0, receivedByte r 1]) _ pec,
      checkPec_good (covered := [receivedByte r 0, receivedByte r 1]) _⟩
  · exact fun ack kind bad => outcome_badCount kind ack ((badCount_iff _ _).mpr bad)

/-! ### The arbiter's choice -/

theorem chooseWork_charger {x : Port} {g : WriteGroup} (h : x.charger = some g) :
    chooseWork x = some (.charger g, { x with charger := none }) := by
  unfold chooseWork
  rw [h]

theorem chooseWork_fair {x : Port} {n : Nat} {rest : List Nat} (h : x.charger = none) (hosts : x.hosts = n :: rest)
    (four : x.fairness = 4) : chooseWork x = some (.host n, { x with hosts := rest }) := by
  simp [chooseWork, h, four, takeHost, hosts]

/-- R72: without a host transfer whose turn has come, the probes come first, then the poll entry, then the transfers. -/
theorem chooseWork_inOrder {x : Port} (h : x.charger = none) (unfair : x.fairness ≠ 4 ∨ x.hosts = []) :
    chooseWork x = ((takeProbe x).or (takePoll x)).or (takeHost x) := by
  have first : (if x.fairness = 4 then takeHost x else none) = none := by
    rcases unfair with unfair | unfair
    · exact if_neg unfair
    · simp [takeHost, unfair]
  simp [chooseWork, h, first, HOrElse.hOrElse, OrElse.orElse, Option.or_assoc]

theorem chooseWork_host {x : Port} {n : Nat} {rest : List Nat} (h : x.charger = none) (probes : x.probes = [])
    (poll : x.poll = none) (hosts : x.hosts = n :: rest) : chooseWork x = some (.host n, { x with hosts := rest }) := by
  by_cases four : x.fairness = 4
  · exact chooseWork_fair h hosts four
  · simp [chooseWork_inOrder h (.inl four), takeProbe, probes, takePoll, poll, takeHost, hosts]

theorem takeGroup_idle {x : Port} (g : WriteGroup) (idle : x.state = .idle) :
    takeGroup g x = putOnBus (.charger g) { x with charger := none } := if_pos idle

theorem takeGroup_busy {x : Port} (g : WriteGroup) (notIdle : x.state ≠ .idle) :
    takeGroup g x = { x with charger := some g } := if_neg notIdle

/-- R72: an idle port with empty lists grants what is no probe step at once. -/
theorem port_offerWork_idle {p : PortId} {w : Work} {s : State} (idle : (s.port p).state = .idle)
    (empty : nothingWaits (s.port p) = true) (noProbe : grantNotice w (updatingPort p (putOnBus w) s) =
      updatingPort p (putOnBus w) s) : (offerWork p w s).port p = putOnBus w (s.port p) := by
  unfold offerWork
  rw [if_pos ⟨idle, empty⟩, noProbe, port_updatingPort]

/-- Settles O28: one equation of the choice for each head of the waiting lists. -/
theorem arbiterOrder : Obligations.ArbiterOrder := by
  intro x
  refine ⟨fun g h => ⟨_, chooseWork_charger h, rfl⟩, fun n rest h hosts four => chooseWork_fair h hosts four,
    fun u rest h unfair probes => ?_, fun n h unfair probes poll => ?_, fun n rest h probes poll hosts =>
      chooseWork_host h probes poll hosts, fun _ => rfl, fun _ => rfl, fun _ => rfl, fun _ => rfl, fun g idle => ?_,
    fun g notIdle => takeGroup_busy g notIdle, fun p n s own idle empty w kind => ?_⟩
  · simp [chooseWork_inOrder h unfair, takeProbe, probes]
  · simp [chooseWork_inOrder h unfair, takeProbe, probes, takePoll, poll]
  · rw [takeGroup_idle g idle]
    exact ⟨rfl, rfl, fun newer => takeGroup_busy newer (by simp [putOnBus])⟩
  · subst own
    rcases kind with rfl | rfl
    all_goals
      rw [port_offerWork_idle idle empty rfl]
      exact ⟨rfl, rfl, empty⟩

end Sys2Proof.Proofs.Wire
end

section
/-! PROOF. Host cycles (R169 to R173, R177 to R180): what a write may touch, the registers' lanes, the millisecond. -/
set_option Elab.async false

namespace Sys2Proof.Proofs.Window

open Sys2Proof Sys2Proof.Machine Sys2Proof.Safety Sys2Proof.Laws Sys2Proof.Proofs.Frames Sys2Proof.Proofs.Updates

/-! ### The class of a byte -/

theorem stagingOf_eq_none {o : Nat} (h : o < 0x1000 ∨ 0x2000 ≤ o) : stagingOf o = none := by
  unfold stagingOf
  rcases h with low | high
  · exact if_pos low
  · repeat rw [if_neg (by omega)]

theorem accessClass_host {o : Nat} (lo : 0x00F0 ≤ o) (hi : o < 0x00F4) : accessClass o = .host := if_pos ⟨lo, hi⟩

theorem accessClass_part {o : Nat} (h : o < 0x00F0 ∨ 0x00F4 ≤ o ∧ o < 0x0104 ∨ 0x0106 ≤ o ∧ o < 0x0600 ∨
    0x0A00 ≤ o ∧ o < 0x1000 ∨ 0x2000 ≤ o) : accessClass o = .part := by
  unfold accessClass
  rw [if_neg (by omega), if_neg (by omega), if_neg (by omega), stagingOf_eq_none (by omega)]

theorem accessClass_staging {o : Nat} {t : TableId} (lo : 0x1000 ≤ o) (own : stagingOf o = some t) :
    accessClass o = .staging t := by
  unfold accessClass
  rw [if_neg (by omega), if_neg (by omega), if_neg (by omega), own]

theorem accessClass_slot {n o : Nat} (slot : n < 16) (own : inSlot n o) : accessClass o = .slot n := by
  unfold inSlot slotBase at own
  unfold accessClass
  rw [if_neg (by omega), if_neg (by omega), if_pos (by omega)]
  congr 1
  omega

/-- R185: the state word of a slot. -/
theorem stateWordAllowed_iff (new : Nat) :
    (stateWordAllowed slotFree new = true ↔ new = slotFree ∨ new = slotPosted) ∧
    (stateWordAllowed slotPosted new = true ↔ new = slotCancel) ∧
    (stateWordAllowed slotActive new = true ↔ new = slotCancel) ∧
    (stateWordAllowed slotDone new = true ↔ new = slotFree) ∧ stateWordAllowed slotCancel new = false := by
  simp [stateWordAllowed, slotFree, slotPosted, slotActive, slotDone, slotCancel]

/-- R185: the bytes of a slot beyond its state word. -/
theorem byteAllowed_slot {s : State} {w : WindowWrite} {n o : Nat} (slot : n < 16) (lo : slotBase n + 2 ≤ o)
    (hi : o < slotBase n + 64) : byteAllowed s w o = true ↔ slotState s n = slotFree := by
  have beyond : inStateWord n o = false := by
    simp only [inStateWord, Bool.or_eq_false_iff, beq_eq_false_iff_ne]
    omega
  simp [byteAllowed, accessClass_slot slot (show inSlot n o from ⟨by omega, hi⟩), slotByteAllowed, beyond]

/-- Settles O39: by the class of the byte. -/
theorem accessClasses : Obligations.AccessClasses := by
  refine ⟨fun s w o => ⟨fun part => ?_, fun lo hi => ?_, fun t lo _ own => ?_, fun n slot lo hi =>
    byteAllowed_slot slot lo hi⟩, stateWordAllowed_iff⟩
  · simp [byteAllowed, accessClass_part part]
  · simp [byteAllowed, accessClass_host lo hi]
  · simp [byteAllowed, accessClass_staging lo own]

/-! ### The registers -/

theorem writeLanes_byte (w : Word32) (first : Fin 4) (b : Byte) : writeLanes w first [b] =
    w &&& ~~~(0xFF#32 <<< (8 * first.val)) ||| BitVec.ofNat 32 b.toNat <<< (8 * first.val) := by
  simp [writeLanes]

theorem getLsbD_255 (i : Nat) : (0xFF#32).getLsbD i = decide (i < 8) := by
  rw [show (0xFF#32) = (BitVec.allOnes 8).setWidth 32 from rfl, BitVec.getLsbD_setWidth, BitVec.getLsbD_allOnes]
  by_cases h : i < 8 <;> simp [h]
  omega

/-- R178: a lane takes its byte, the other bits stay. -/
theorem writeLanes_byte_bit (w : Word32) (first : Fin 4) (b : Byte) {i : Nat} (wide : i < 32) :
    (writeLanes w first [b]).getLsbD i =
      if 8 * first.val ≤ i ∧ i < 8 * first.val + 8 then b.getLsbD (i - 8 * first.val) else w.getLsbD i := by
  have byte : ∀ j, j < 32 → (BitVec.ofNat 32 b.toNat).getLsbD j = b.getLsbD j := fun j hj => by
    rw [BitVec.getLsbD_ofNat, decide_eq_true hj, Bool.true_and, BitVec.getLsbD]
  rw [writeLanes_byte]
  simp only [BitVec.getLsbD_or, BitVec.getLsbD_and, BitVec.getLsbD_not, BitVec.getLsbD_shiftLeft, getLsbD_255, wide,
    decide_true, Bool.true_and]
  by_cases below : i < 8 * first.val
  · simp [below, show ¬ 8 * first.val ≤ i by omega]
  · rw [byte (i - 8 * first.val) (by omega)]
    by_cases lane : i < 8 * first.val + 8
    · simp [below, lane, show 8 * first.val ≤ i by omega, show i - 8 * first.val < 8 by omega]
    · simp [below, lane, show ¬ i - 8 * first.val < 8 by omega, BitVec.getLsbD_of_ge b (i - 8 * first.val) (by omega)]

/-- Settles O42: the three registers' equations and the lanes they share. -/
theorem registerWritesByLane : Obligations.RegisterWritesByLane :=
  ⟨fun first bytes s high =>
    ⟨quiet_next (fun x => { x with link := clearCauses first bytes x.link }) s high,
      quiet_next (fun x => { x with link := writeEnables first bytes x.link }) s high,
      quiet_next (fun x => { x with link := writeControl first bytes x.link }) s high,
      fun w b _ wide => writeLanes_byte_bit w first b wide⟩,
    fun _ _ s => congrArg Host.Outcome.next (ite_self s)⟩

/-! ### The millisecond -/

theorem stepTimed_iff (x : SeqStep) : stepTimed x = true ↔ x ≠ .none := by cases x <;> simp [stepTimed]

theorem tickPower_stepMs (p : Power) : (if stepTimed p.step then p.stepMs + 1 else p.stepMs) =
    if p.step = .none then p.stepMs else p.stepMs + 1 := by
  by_cases idle : p.step = .none
  · rw [if_pos idle, if_neg (by simp [stepTimed_iff, idle])]
  · rw [if_neg idle, if_pos ((stepTimed_iff _).mpr idle)]

/-- Settles O37: `tick` raises these fields; the step's timer stands while no step is timed. -/
theorem tickRaisesTimers : Obligations.TickRaisesTimers := by
  intro s high
  refine (quiet_next tick s high).trans (congrArg Host.Outcome.next ?_)
  rw [← tickPower_stepMs s.power]
  rfl

end Sys2Proof.Proofs.Window
end

section
/-! PROOF. Completing a request slot (R184, R188): what its bytes then read, and the requests that only complete their slot. -/
set_option Elab.async false

namespace Sys2Proof.Proofs.Completion

open Sys2Proof Sys2Proof.Machine Sys2Proof.Safety Sys2Proof.Laws Sys2Proof.Proofs.Frames Sys2Proof.Proofs.Updates

/-! ### Words in the exchange memory -/

theorem value16_bytes (v : Nat) : value16 (BitVec.ofNat 8 v) (BitVec.ofNat 8 (v / 256)) = v % 65536 := by
  simp only [value16, BitVec.toNat_ofNat]
  omega

/-- A stored word reads back modulo 65536. -/
theorem read16_stored {m : Memory} (wf : Memory.wf m = true) (a v : Nat) (more : List Byte) :
    Memory.read16 (Memory.writeList m a (bytes16 v ++ more)) a = v % 65536 := by
  simp [Memory.read16, Memory.read_writeList wf, bytes16, value16_bytes]

/-- A store beside a word leaves it. -/
theorem read16_writeList_outside {m : Memory} {a b : Nat} {vs : List Byte} (h : b + 1 < a ∨ a + vs.length ≤ b) :
    Memory.read16 (Memory.writeList m a vs) b = Memory.read16 m b := by
  unfold Memory.read16
  rw [read_writeList_outside a vs m (by omega), read_writeList_outside a vs m (by omega)]

/-- Stored bytes read back. -/
theorem readList_stored {m : Memory} (wf : Memory.wf m = true) (a : Nat) (vs : List Byte) :
    Memory.readList (Memory.writeList m a vs) a vs.length = vs := by
  apply List.ext_getElem
  · simp [Memory.readList]
  · intro i _ hi
    simp [Memory.readList, Memory.read_writeList wf, hi]

/-- The words of a region that stands still. -/
theorem read16_of_same {region : Nat → Prop} {s t : State} (same : SameBytes region s t) {a : Nat} (here : region a)
    (next : region (a + 1)) : Memory.read16 t.mem a = Memory.read16 s.mem a := by
  unfold Memory.read16
  rw [same a here, same (a + 1) next]

/-! ### A slot's words -/

theorem slotState_of_same {n : Nat} {s t : State} (same : SameBytes (inSlot n) s t) : slotState t n = slotState s n :=
  read16_of_same same ⟨Nat.le_refl _, by omega⟩ ⟨by omega, by omega⟩

theorem slotParam_of_same {n o : Nat} {s t : State} (same : SameBytes (inSlot n) s t) (o48 : o < 48) :
    slotParam t n o = slotParam s n o := congrArg BitVec.toNat (same _ ⟨by omega, by omega⟩)

theorem slotState_setSlotState {s : State} (wf : memoryCanonical s) {n v : Nat} (small : v < 65536) :
    slotState (setSlotState n v s) n = v :=
  (read16_stored wf (slotBase n) v []).trans (Nat.mod_eq_of_lt small)

/-- The state word is written alone. -/
theorem read_setSlotState (n v : Nat) (s : State) {a : Nat} (h : a < slotBase n ∨ slotBase n + 2 ≤ a) :
    Memory.read (setSlotState n v s).mem a = Memory.read s.mem a := read_writeList_outside _ _ _ h

theorem slotParam_setSlotState (n v o : Nat) (s : State) : slotParam (setSlotState n v s) n o = slotParam s n o :=
  congrArg BitVec.toNat (read_setSlotState n v s (by omega))

theorem slotParam16_setSlotState (n v o : Nat) (s : State) : slotParam16 (setSlotState n v s) n o = slotParam16 s n o :=
  read16_writeList_outside (by simp [bytes16]; omega)

theorem canonical_setSlotState {s : State} (wf : memoryCanonical s) (n v : Nat) : memoryCanonical (setSlotState n v s) :=
  storeBytes_wf _ _ wf

theorem canonical_storeReply (n : Nat) {s : State} (wf : memoryCanonical s) (reply : List ReplyBytes) :
    memoryCanonical (storeReply n reply s) := (low_storeReply n reply s).memory wf

/-! ### Completion -/

/-- R188: the state after the reply, with its four parts. -/
theorem completeSlot_eq (n : Nat) (r : Result) (d : Nat) (reply : List ReplyBytes) (s : State) :
    ∃ b, completeSlot n r d reply s = setCause causeSlotDone { storeReply n reply s with
      mem := Memory.writeList (Memory.writeList (Memory.writeList (storeReply n reply s).mem (slotBase n + 6) (bytes16 d ++ [b]))
        (slotBase n + 4) (bytes16 r.code)) (slotBase n) (bytes16 slotDone)
      posted := (storeReply n reply s).posted.filter fun h => h.slot != n } := ⟨_, rfl⟩

theorem resultCode_lt (r : Result) : r.code < 65536 := by cases r <;> decide

/-- R188: a completed slot. -/
theorem doneWith_completeSlot {s : State} (wf : memoryCanonical s) (n : Nat) (r : Result) {d : Nat} (small : d < 65536)
    (reply : List ReplyBytes) : doneWith (completeSlot n r d reply s) n r d := by
  obtain ⟨b, eq⟩ := completeSlot_eq n r d reply s
  rw [eq]
  have wf1 := canonical_storeReply n wf reply
  have wf2 := Memory.writeList_wf wf1 (slotBase n + 6) (bytes16 d ++ [b])
  have wf3 := Memory.writeList_wf wf2 (slotBase n + 4) (bytes16 r.code)
  refine ⟨read16_stored wf3 _ slotDone [], ?_, ?_, by simp [isHeld], ?_⟩
  · exact (read16_writeList_outside (by simp [bytes16])).trans
      ((read16_stored wf2 _ r.code []).trans (Nat.mod_eq_of_lt (resultCode_lt r)))
  · exact (read16_writeList_outside (by simp [bytes16])).trans ((read16_writeList_outside (by simp [bytes16])).trans
      ((read16_stored wf1 _ d [b]).trans (Nat.mod_eq_of_lt small)))
  · simp [causeSlotDone]

/-- A completed slot stays completed while nothing touches its bytes, the list of posts or its cause. -/
theorem doneWith_later {t u : State} {n d : Nat} {r : Result} (done : doneWith t n r d) (same : SameBytes (inSlot n) t u)
    (posted : u.posted = t.posted) (cause : ∀ i, t.link.alertCause.getLsbD i = true → u.link.alertCause.getLsbD i = true) :
    doneWith u n r d := by
  obtain ⟨state, code, detail, held, set⟩ := done
  refine ⟨(slotState_of_same same).trans state, ?_, ?_, ?_, cause 0 set⟩
  · exact (read16_of_same same ⟨by omega, by omega⟩ ⟨by omega, by omega⟩).trans code
  · exact (read16_of_same same ⟨by omega, by omega⟩ ⟨by omega, by omega⟩).trans detail
  · unfold isHeld
    rw [posted]
    exact held

/-- As `doneWith_later`, by the frame of what follows the completion. -/
theorem doneWith_within {T : List Part} {t u : State} {n d : Nat} {r : Result} (done : doneWith t n r d)
    (w : Within T t u) (k : Keeps true t u) (slots : .slots ∉ T) (slot : .slot n ∉ T) (posted : .posted ∉ T) :
    doneWith u n r d := doneWith_later done (w.slot n slots slot) (w.posted posted) k.causesStay

/-- What a request that only completes its slot changes. -/
@[simp] def completing (n : Nat) : List Part := [.causes, .mem, .slot n, .posted]

theorem onlyCompletes_of_within {n : Nat} {s t : State} (w : Within (completing n) s t) : onlyCompletes n s t :=
  ⟨w.sameButSlot (by simp) (by simp) (by simp) fun m ne => by simp [ne], w.sameBus (by simp) (by simp),
    w.samePacks (by simp) (by simp), w.sameControl (by simp) (by simp), w.samePlatform (by simp) (by simp) (by simp)⟩

theorem within_completing {n : Nat} {s x : State} (w : Within (completing n) s x) (r : Result) (d : Nat) {reply : List ReplyBytes}
    (fits : FitsSlot reply) : Within (completing n) s (completeSlot n r d reply x) :=
  w.next (within_completeSlot n r d reply x fits) (by simp)

/-- A request answered at once: `x` is the state in which its slot has been taken. -/
theorem answered {n : Nat} {s x : State} (w : Within (completing n) s x) (wf : memoryCanonical x) (r : Result) {d : Nat}
    (small : d < 65536) {reply : List ReplyBytes} (fits : FitsSlot reply) :
    doneWith (completeSlot n r d reply x) n r d ∧ onlyCompletes n s (completeSlot n r d reply x) :=
  ⟨doneWith_completeSlot wf n r small reply, onlyCompletes_of_within (within_completing w r d fits)⟩

/-! ### Taking a post -/

/-- The state in which a post has been taken. -/
abbrev taken (n : Nat) (s : State) : State := setSlotState n slotActive s

theorem within_taken (n : Nat) (s : State) : Within (completing n) s (taken n s) :=
  (within_setSlotState n slotActive s).mono (by simp)

theorem canonical_taken {s : State} (wf : memoryCanonical s) (n : Nat) : memoryCanonical (taken n s) :=
  canonical_setSlotState wf n slotActive

/-- R186: a posted request is taken. -/
theorem event_takePost {n kind : Nat} {f : State → State} {s : State} (high : s.inReset = false)
    (posted : postedKind s n kind = true) : event (takePost n kind f) s = .next (settle (f (taken n s))) :=
  (event_next _ s high).trans (by unfold takePost; rw [if_pos posted])

/-! ### Posts without work -/

theorem kindKnown_false {k : Nat} (h : k = 0 ∨ 8 < k) : kindKnown k = false := by
  simp only [kindKnown, Bool.and_eq_false_iff, decide_eq_false_iff_not]
  omega

/-- Settles O45: both posts are completed as they stand. -/
theorem postsWithoutWorkComplete : Obligations.PostsWithoutWorkComplete := by
  intro n s high wf
  constructor
  · intro cancelled free
    refine ⟨completeSlot n .cancelled 0 [] s, (event_next _ s high).trans ?_,
      answered (Within.refl _ s) wf _ (by decide) fitsSlot_nil⟩
    simp [foundCancelled, cancelled, free]
  · intro posted unknown
    refine ⟨completeSlot n .unknownKind 0 [] s, (event_next _ s high).trans ?_,
      answered (Within.refl _ s) wf _ (by decide) fitsSlot_nil⟩
    simp [unknownPost, posted, kindKnown_false unknown]

end Sys2Proof.Proofs.Completion
end

section
/-! PROOF. The report queue (R198 to R204): records placed one after another are placed together, and what an offer and a room
event leave in the ring. -/
set_option Elab.async false

namespace Sys2Proof.Proofs.Reports

open Sys2Proof Sys2Proof.Machine Sys2Proof.Safety Sys2Proof.Laws Sys2Proof.Proofs.Frames Sys2Proof.Proofs.Updates

/-! ### Units in the ring -/

theorem unitsStored_cons (m : Memory) (w : Nat) (u : List Byte) (us : List (List Byte)) :
    unitsStored m w (u :: us) = unitsStored (Memory.writeList m (unitOffset w) u) (w + 1) us := by
  have shift : ∀ k, (us.zipIdx (k + 1)).map (fun x => (x.1, w + x.2)) = (us.zipIdx k).map fun x => (x.1, w + 1 + x.2) := by
    intro k
    apply List.ext_getElem (by simp)
    intro i _ _
    simp [Nat.add_assoc, Nat.add_comm, Nat.add_left_comm]
  have byPlace : ∀ (l : List (List Byte × Nat)) (v : Nat) (x : Memory),
      l.foldl (fun m u => Memory.writeList m (0x0110 + 8 * ((v + u.2) % 128)) u.1) x =
        (l.map fun u => (u.1, v + u.2)).foldl (fun m u => Memory.writeList m (unitOffset u.2) u.1) x := by
    intro l v x
    rw [List.foldl_map]
    rfl
  unfold unitsStored
  rw [List.zipIdx_cons, List.foldl_cons, byPlace, byPlace, shift 0]
  rfl

theorem unitsStored_append (m : Memory) (us vs : List (List Byte)) (w : Nat) :
    unitsStored m w (us ++ vs) = unitsStored (unitsStored m w us) (w + us.length) vs := by
  induction us generalizing m w with
  | nil => rfl
  | cons u us ih =>
    rw [List.cons_append, unitsStored_cons, ih, unitsStored_cons, List.length_cons, Nat.add_right_comm w 1, Nat.add_assoc]

/-- R198: the ring's units are numbered modulo 128. -/
theorem unitsStored_mod (m : Memory) (w : Nat) (us : List (List Byte)) :
    unitsStored m (w % 128) us = unitsStored m w us := by
  unfold unitsStored
  simp only [Nat.mod_add_mod]

theorem storeUnits_eq (w : Nat) (us : List (List Byte)) (s : State) :
    storeUnits w us s = { s with mem := unitsStored s.mem w us } := by
  induction us generalizing w s with
  | nil => rfl
  | cons u us ih =>
    rw [storeUnits, ih, unitsStored_cons]
    rfl

/-- R198: units stored, W moved, REPORT set. -/
theorem place_eq (us : List (List Byte)) (s : State) : place us s = { s with
    mem := unitsStored s.mem s.queue.write us
    queue := { s.queue with write := (s.queue.write + us.length) % 128 }
    link := { s.link with alertCause := s.link.alertCause ||| 2#32 } } := by
  unfold place
  rw [storeUnits_eq]
  rfl

/-- Units placed as long as there are any. -/
def placeAll (us : List (List Byte)) (s : State) : State := if us = [] then s else place us s

theorem place_place (us vs : List (List Byte)) (s : State) : place vs (place us s) = place (us ++ vs) s := by
  simp only [place_eq, unitsStored_append, unitsStored_mod, List.length_append, Nat.mod_add_mod, Nat.add_assoc,
    BitVec.or_assoc, BitVec.or_self]

theorem placeAll_cons (u : List Byte) (us : List (List Byte)) (s : State) :
    placeAll (u :: us) s = placeAll us (place [u] s) := by
  unfold placeAll
  rw [if_neg (List.cons_ne_nil u us)]
  split
  · next none => rw [none]
  · exact (place_place [u] us s).symm

theorem place_placeAll (us vs : List (List Byte)) (s : State) : place vs (placeAll us s) = place (us ++ vs) s := by
  unfold placeAll
  split
  · next none => rw [none, List.nil_append]
  · exact place_place us vs s

theorem placeAll_mem (us : List (List Byte)) (s : State) : (placeAll us s).mem = unitsStored s.mem s.queue.write us := by
  unfold placeAll
  split
  · next none => rw [none]; rfl
  · rw [place_eq]

theorem placeAll_queue (us : List (List Byte)) {s : State} (inRing : s.queue.write < 128) :
    (placeAll us s).queue = { s.queue with write := (s.queue.write + us.length) % 128 } := by
  unfold placeAll
  split
  · next none =>
    rw [none, List.length_nil, Nat.add_zero, Nat.mod_eq_of_lt inRing]
  · rw [place_eq]

theorem placeAll_alertCause (us : List (List Byte)) (s : State) : (placeAll us s).link.alertCause =
    if us = [] then s.link.alertCause else s.link.alertCause ||| 2#32 := by
  unfold placeAll
  split
  · rfl
  · rw [place_eq]

theorem placeAll_kbd (us : List (List Byte)) (s : State) : (placeAll us s).kbd = s.kbd := by
  unfold placeAll
  split
  · rfl
  · rw [place_eq]

/-! ### Offers -/

theorem setStale_same (x : StaleSet) (s : State) : (setStale x s).queue = { s.queue with stale := x } ∧
    (setStale x s).mem = s.mem ∧ (setStale x s).link.alertCause = s.link.alertCause := by
  unfold setStale
  split
  · next own => rw [← own]; exact ⟨rfl, rfl, rfl⟩
  · exact ⟨rfl, rfl, rfl⟩

theorem resyncIfDue_clean {s : State} (clean : s.queue.stale = emptyStale) : resyncIfDue s = s :=
  if_neg fun due => due.1 clean

theorem offer_fits {n : Notice} {s : State} (clean : s.queue.stale = emptyStale)
    (fits : (n.units s.link.partTime).length ≤ room s.queue) : offer n s = place (n.units s.link.partTime) s := by
  unfold offer
  rw [resyncIfDue_clean clean]
  exact if_pos fits

theorem offer_full {n : Notice} {s : State} (clean : s.queue.stale = emptyStale)
    (full : room s.queue < (n.units s.link.partTime).length) :
    offer n s = setStale (emptyStale.add n.staleClass) s := by
  unfold offer
  rw [resyncIfDue_clean clean]
  dsimp only
  rw [if_neg (by omega), clean]

theorem placeResync_same (s : State) :
    (placeResync s).mem = unitsStored s.mem s.queue.write [resyncUnit s.queue.stale s.link.partTime] ∧
    (placeResync s).queue = ⟨(s.queue.write + 1) % 128, s.queue.read, emptyStale⟩ ∧
    (placeResync s).link.alertCause = s.link.alertCause ||| 2#32 := by
  obtain ⟨queue, mem, cause⟩ := setStale_same emptyStale (place [resyncUnit s.queue.stale s.link.partTime] s)
  unfold placeResync
  rw [queue, mem, cause, place_eq]
  exact ⟨rfl, rfl, rfl⟩

/-! ### Room events -/

/-- The unit of an owed release. -/
def owedUnit (t : Word32) (r : OwedRelease) : List Byte :=
  keyUnit (if r.sweep then .sweepUp else .up) r.position r.code t

theorem room_place {u : List Byte} {s : State} (w : s.queue.write < 128) (r : s.queue.read < 128) (free : 1 ≤ room s.queue) :
    room (place [u] s).queue = room s.queue - 1 := by
  rw [place_eq]
  simp only [room, occupancy, List.length_singleton] at free ⊢
  omega

/-- R203, step 1: the owed releases are placed together, the oldest first, as far as the room goes. -/
theorem placeOwed_eq (l : List OwedRelease) (s : State) (owed : s.kbd.owed = l) (w : s.queue.write < 128)
    (r : s.queue.read < 128) : let n := min l.length (room s.queue)
    placeOwed l s = placeAll ((l.take n).map (owedUnit s.link.partTime)) { s with kbd := { s.kbd with owed := l.drop n } } := by
  induction l generalizing s with
  | nil =>
    show s = { s with kbd := { s.kbd with owed := [] } }
    rw [← owed]
  | cons x rest ih =>
    dsimp only
    unfold placeOwed
    split
    · next free =>
      have more : min (x :: rest).length (room s.queue) = min rest.length (room s.queue - 1) + 1 := by
        simp only [List.length_cons]
        omega
      rw [more, List.take_succ_cons, List.map_cons, List.drop_succ_cons, placeAll_cons]
      have grown := ih (place [owedUnit s.link.partTime x] { s with kbd := { s.kbd with owed := rest } })
        (by rw [place_eq]) (by rw [place_eq]; exact Nat.mod_lt _ (by decide)) (by rw [place_eq]; exact r)
      dsimp only at grown
      rw [room_place (s := { s with kbd := { s.kbd with owed := rest } }) w r free] at grown
      refine grown.trans ?_
      rw [place_eq, place_eq]
    · next none =>
      have zero : min (x :: rest).length (room s.queue) = 0 := by omega
      rw [zero]
      show s = { s with kbd := { s.kbd with owed := x :: rest } }
      rw [← owed]

theorem resetPressCount_owed (k : Keyboard) : (resetPressCount k).owed = k.owed := by
  unfold resetPressCount
  split <;> rfl

/-- R203: the state between the two steps of a room event. -/
def owedPlaced (s : State) : State :=
  updating .keyboard (fun x =>
    let x1 := placeOwed x.kbd.owed x
    { x1 with kbd := resetPressCount x1.kbd }) s

theorem owedPlaced_same {s : State} (ring : indicesInRing s) : let n := min s.kbd.owed.length (room s.queue)
    let units := (s.kbd.owed.take n).map (owedUnit s.link.partTime)
    (owedPlaced s).mem = unitsStored s.mem s.queue.write units ∧
    (owedPlaced s).queue = { s.queue with write := (s.queue.write + units.length) % 128 } ∧
    (owedPlaced s).link.alertCause = (if units = [] then s.link.alertCause else s.link.alertCause ||| 2#32) ∧
    (owedPlaced s).kbd.owed = s.kbd.owed.drop n ∧ (owedPlaced s).kbd.table = s.kbd.table ∧
    (owedPlaced s).link.partTime = s.link.partTime := by
  obtain ⟨w, r⟩ := ring
  dsimp only
  have placed := placeOwed_eq s.kbd.owed s rfl w r
  have time := (low_placeOwed s.kbd.owed s).partTime
  have table := (resetPressCount_same (placeOwed s.kbd.owed s).kbd).2.2.2.2
  unfold owedPlaced updating
  simp only [commit_mem, commit_queue, commit_alertCause, commit_kbd, commit_partTime, resetPressCount_owed, time, table]
  rw [placed]
  exact ⟨placeAll_mem _ _, placeAll_queue _ w, placeAll_alertCause _ _, by rw [placeAll_kbd], by rw [placeAll_kbd], trivial⟩

theorem length_owedUnits (l : List OwedRelease) (n : Nat) (t : Word32) :
    ((l.take (min l.length n)).map (owedUnit t)).length = min l.length n := by
  rw [List.length_map, List.length_take, Nat.min_eq_left (Nat.min_le_left _ _)]

/-- R203, step 2: after the releases there is a place for a RESYNC exactly while the room exceeds them. -/
theorem resync_due {s : State} (ring : indicesInRing s) :
    ((owedPlaced s).queue.stale ≠ emptyStale ∧ (owedPlaced s).kbd.owed = [] ∧ 1 ≤ room (owedPlaced s).queue) ↔
      s.queue.stale ≠ emptyStale ∧ s.kbd.owed.length < room s.queue := by
  obtain ⟨_, queue, _, owed, _, _⟩ := owedPlaced_same ring
  obtain ⟨w, r⟩ := ring
  rw [queue, owed, List.drop_eq_nil_iff, length_owedUnits]
  simp only [room, occupancy]
  constructor
  · rintro ⟨stale, all, free⟩
    exact ⟨stale, by omega⟩
  · rintro ⟨stale, less⟩
    exact ⟨stale, by omega, by omega⟩

/-- Settles O44: an offer to a queue without stale classes, then the two steps of a room event. -/
theorem noticeOffered : Obligations.NoticeOffered := by
  constructor
  · intro n s clean
    constructor
    · intro fits
      rw [offer_fits clean fits, place_eq]
      exact ⟨rfl, rfl, rfl⟩
    · intro full
      rw [offer_full clean full]
      exact setStale_same _ s
  · intro s ring
    have w := within_roomEvent s
    have frame : (roomEvent s).power = s.power ∧ (roomEvent s).posted = s.posted ∧ sameBus s (roomEvent s) ∧
        samePacks s (roomEvent s) ∧ sameControl s (roomEvent s) :=
      ⟨w.power (by simp), w.posted (by simp), w.sameBus (by simp) (by simp), w.samePacks (by simp) (by simp),
        w.sameControl (by simp) (by simp)⟩
    obtain ⟨mem, queue, cause, owed, table, time⟩ := owedPlaced_same ring
    have due := resync_due ring
    have steps : roomEvent s = resyncIfDue (owedPlaced s) := rfl
    dsimp only
    by_cases resync : s.queue.stale ≠ emptyStale ∧ s.kbd.owed.length < room s.queue
    · have placed : roomEvent s = placeResync (owedPlaced s) := steps.trans (if_pos (due.mpr resync))
      obtain ⟨rmem, rqueue, rcause⟩ := placeResync_same (owedPlaced s)
      have rkbd := (within_placeResync (owedPlaced s)).kbd (by simp)
      simp only [if_pos resync]
      refine ⟨?_, ?_, ?_, ?_, ?_, frame⟩
      · rw [placed, rmem, mem, queue, time, unitsStored_append, unitsStored_mod]
        rfl
      · rw [placed, rkbd, owed]
      · rw [placed, rqueue, queue]
        simp [Nat.add_assoc]
      · rw [placed, rcause, cause]
        split <;> simp [BitVec.or_assoc]
      · rw [placed, rkbd, table]
    · have still : roomEvent s = owedPlaced s := steps.trans (if_neg fun h => resync (due.mp h))
      simp only [if_neg resync, List.append_nil]
      rw [still] at frame ⊢
      exact ⟨mem, owed, queue, cause, table, frame⟩

/-! ### What a room event never moves -/

theorem placeOwed_still (l : List OwedRelease) (s : State) : (placeOwed l s).queue.read = s.queue.read ∧
    (placeOwed l s).kbd.table = s.kbd.table := by
  induction l generalizing s with
  | nil => exact ⟨rfl, rfl⟩
  | cons x rest ih =>
    unfold placeOwed
    split
    · obtain ⟨read, table⟩ := ih (place [owedUnit s.link.partTime x] { s with kbd := { s.kbd with owed := rest } })
      refine ⟨read.trans (by rw [place_eq]), table.trans (by rw [place_eq])⟩
    · exact ⟨rfl, rfl⟩

theorem resyncIfDue_still (s : State) : (resyncIfDue s).queue.read = s.queue.read ∧ (resyncIfDue s).kbd = s.kbd := by
  refine ⟨?_, (within_resyncIfDue s).kbd (by simp)⟩
  unfold resyncIfDue
  split
  · rw [(placeResync_same s).2.1]
  · rfl

theorem roomEvent_still (s : State) : (roomEvent s).queue.read = s.queue.read ∧ (roomEvent s).kbd.table = s.kbd.table := by
  obtain ⟨read, table⟩ := placeOwed_still s.kbd.owed s
  obtain ⟨sameRead, sameKbd⟩ := resyncIfDue_still (owedPlaced s)
  have kept := (resetPressCount_same (placeOwed s.kbd.owed s).kbd).2.2.2.2
  constructor
  · refine sameRead.trans ?_
    unfold owedPlaced updating
    rw [commit_queue]
    exact read
  · refine (congrArg Keyboard.table sameKbd).trans ?_
    unfold owedPlaced updating
    rw [commit_kbd]
    exact kept.trans table

end Sys2Proof.Proofs.Reports
end

section
/-! PROOF. The keyboard scanner (R30 to R47): a pass debounces, a press adds its entry, an UP carries the code of its press. -/
set_option Elab.async false

namespace Sys2Proof.Proofs.Keys

open Sys2Proof Sys2Proof.Machine Sys2Proof.Safety Sys2Proof.Laws Sys2Proof.Proofs.Frames Sys2Proof.Proofs.Updates
  Sys2Proof.Proofs.Reports Sys2Proof.Proofs.ScanModes

/-! ### Debouncing -/

theorem getElem?_passFrom (columns : List Byte) (passes limit : Nat) (l : List KeyPosition) (n i : Nat) :
    (passFrom columns passes limit n l)[i]? =
      l[i]?.map fun p => if n + i < limit then debounce passes (rawDown columns (n + i)) p else p := by
  induction l generalizing n i with
  | nil => simp [passFrom]
  | cons p rest ih =>
    cases i with
    | zero => simp [passFrom]
    | succ i => simp [passFrom, ih, Nat.add_assoc, Nat.add_comm 1]

theorem debounce_same (passes : Nat) (p : KeyPosition) : debounce passes p.down p = ⟨p.down, 0⟩ := if_pos rfl

theorem debounce_differs {passes : Nat} {raw : Bool} {p : KeyPosition} (h : raw ≠ p.down) :
    (p.counter + 1 < passes → debounce passes raw p = ⟨p.down, p.counter + 1⟩) ∧
    (passes ≤ p.counter + 1 → debounce passes raw p = ⟨raw, 0⟩) := by
  unfold debounce
  rw [if_neg h]
  exact ⟨fun below => if_neg (by omega), fun reached => if_pos reached⟩

/-- Settles O19: the changes that a pass starts leave the positions as the pass has debounced them. -/
theorem scanPassDebounces : Obligations.ScanPassDebounces := by
  intro columns s high full
  refine ⟨scanPass columns s, (event_next _ s high).trans (by simp [when_, full]), ?_⟩
  obtain ⟨t, changes, run⟩ := within_scanPass_changes columns s
  have w := within_scanPass columns s
  obtain ⟨mode, positions, pass, keymap⟩ := changes.matrix (by simp)
  rw [run] at w ⊢
  simp only [commit_kbd]
  refine ⟨pass, mode.trans full, keymap, w.power (by simp), w.samePacks (by simp) (by simp),
    w.sameEngines (by simp) (by simp) (by simp), w.sameButQueue (by simp) (by simp) (by simp), fun n p own => ?_⟩
  rw [positions, getElem?_passFrom, own, Nat.zero_add]
  refine ⟨_, rfl, fun beyond => if_neg (by omega), fun scanned => ?_⟩
  dsimp only
  rw [if_pos scanned]
  refine ⟨fun same => ?_, fun differs => debounce_differs differs⟩
  rw [same, debounce_same]

/-! ### The row filter -/

theorem rawRow_wakeScan {s : State} (scan : s.kbd.mode = .wakeScan) (active : Bool) : rawRow active s = { s with
    pins := { s.pins with rowActive := active }
    kbd := { s.kbd with rowCount := countAfter active s.kbd.rowActive s.kbd.rowCount } } := if_pos scan

theorem rawRow_other {s : State} (other : s.kbd.mode ≠ .wakeScan) (active : Bool) :
    rawRow active s = { s with pins := { s.pins with rowActive := active } } := if_neg other

/-- Settles O22: the row's count, and its completion as an update of the keyboard record. -/
theorem rowLevelFiltered : Obligations.RowLevelFiltered := by
  constructor
  · intro active s high
    have run : exec (.rawRowChange active) s = .next (rawRow active s) :=
      congrArg Host.Outcome.next (if_neg (by simp [high]))
    exact ⟨fun scan => run.trans (by rw [rawRow_wakeScan scan]; rfl), fun other => run.trans (by rw [rawRow_other other])⟩
  · intro s high scan counts
    have w := within_rowFilterDone s
    have kbd : (rowFilterDone s).kbd = { s.kbd with rowActive := !s.kbd.rowActive, rowCount := none } := by
      unfold rowFilterDone updating
      rw [if_pos ⟨scan, counts⟩, commit_kbd]
    exact ⟨_, event_next _ s high, kbd, w.power (by simp), w.mem (by simp), w.queue (by simp), w.posted (by simp),
      w.sameBus (by simp) (by simp), w.samePacks (by simp) (by simp), w.sameControl (by simp) (by simp)⟩

/-! ### A key's DOWN -/

theorem offerKeyDown_placed {late : Bool} {n : Nat} {c : Word16} {s : State} (clean : s.queue.stale = emptyStale)
    (open_ : s.kbd.owed = [] ∧ 1 ≤ room s.queue) : offerKeyDown late n c s =
      (place [keyUnit (if late then .lateDown else .down) n c s.link.partTime] s, true) := by
  unfold offerKeyDown
  rw [resyncIfDue_clean clean]
  exact if_pos open_

theorem offerKeyDown_dropped {late : Bool} {n : Nat} {c : Word16} {s : State} (clean : s.queue.stale = emptyStale)
    (shut : ¬ (s.kbd.owed = [] ∧ 1 ≤ room s.queue)) : offerKeyDown late n c s = (s, false) := by
  unfold offerKeyDown
  rw [resyncIfDue_clean clean]
  exact if_neg shut

/-- R41: a DOWN that is placed marks its entry. -/
theorem reportDown_placed {late : Bool} {n : Nat} {c : Word16} {s : State} (clean : s.queue.stale = emptyStale)
    (open_ : s.kbd.owed = [] ∧ 1 ≤ room s.queue) : reportDown late n c s =
      let t := place [keyUnit (if late then .lateDown else .down) n c s.link.partTime] s
      { t with kbd := changeEntry n (fun e => { e with reported := true }) t.kbd } := by
  unfold reportDown
  rw [offerKeyDown_placed clean open_]
  rfl

/-- R41: a DOWN that finds no place. -/
theorem reportDown_dropped {late : Bool} {n : Nat} {c : Word16} {s : State} (clean : s.queue.stale = emptyStale)
    (shut : ¬ (s.kbd.owed = [] ∧ 1 ≤ room s.queue)) :
    reportDown late n c s = { s with kbd := { s.kbd with overflow := true } } := by
  unfold reportDown
  rw [offerKeyDown_dropped clean shut]
  rfl

/-- R37 to R41: a press that is reported. -/
theorem press_reports {n : Nat} {s : State} (free : s.kbd.table.length < 12) (code : lookupCode s.kbd n ≠ 0#16)
    (clear : suspected s.kbd n = false) (plain : actionOf (lookupCode s.kbd n) = .none) : press n s =
      reportDown false n (lookupCode s.kbd n)
        { s with kbd := addEntry n (lookupCode s.kbd n) (fnInForce s.kbd) true s.kbd } := by
  unfold press actOrReport
  have fits : ¬ Config.tableSize ≤ s.kbd.table.length := by unfold Config.tableSize; omega
  simp only [if_neg fits, if_neg code, clear, plain, if_true, Bool.false_eq_true, if_false]

/-- A change at a position that the table does not hold. -/
theorem map_other {l : List DownKey} {n : Nat} (f : DownKey → DownKey) (other : ∀ e ∈ l, e.position ≠ n) :
    (l.map fun e => if e.position = n then f e else e) = l :=
  (List.map_congr_left fun e m => if_neg (other e m)).trans (List.map_id l)

/-- Settles O20: the new entry at the end of the table, marked where its DOWN finds a place. -/
theorem pressAddsEntry : Obligations.PressAddsEntry := by
  intro n s free other code clear plain clean
  rw [press_reports free code clear plain]
  by_cases open_ : s.kbd.owed = [] ∧ 1 ≤ room s.queue
  · rw [reportDown_placed (s := { s with kbd := addEntry n (lookupCode s.kbd n) (fnInForce s.kbd) true s.kbd }) clean open_,
      place_eq]
    refine ⟨?_, fun _ _ => ⟨rfl, rfl, rfl⟩, fun shut => absurd open_ shut⟩
    simp [changeEntry, addEntry, map_other _ other, newEntry, plain, open_]
  · rw [reportDown_dropped (s := { s with kbd := addEntry n (lookupCode s.kbd n) (fnInForce s.kbd) true s.kbd }) clean open_]
    refine ⟨?_, fun owed free => absurd ⟨owed, free⟩ open_, fun _ => ⟨rfl, rfl, rfl, rfl⟩⟩
    simp [addEntry, newEntry, plain, open_]

/-! ### A key's UP -/

theorem offerKeyUp_placed {sweep : Bool} {n : Nat} {c : Word16} {s : State} (clean : s.queue.stale = emptyStale)
    (free : 1 ≤ room s.queue) : offerKeyUp sweep n c s =
      (place [keyUnit (if sweep then .sweepUp else .up) n c s.link.partTime] s, true) := by
  unfold offerKeyUp
  rw [resyncIfDue_clean clean]
  exact if_pos free

theorem offerKeyUp_dropped {sweep : Bool} {n : Nat} {c : Word16} {s : State} (clean : s.queue.stale = emptyStale)
    (full : room s.queue = 0) : offerKeyUp sweep n c s = (s, false) := by
  unfold offerKeyUp
  rw [resyncIfDue_clean clean]
  exact if_neg (by omega)

theorem mem_insertOwed (r : OwedRelease) (l : List OwedRelease) : r ∈ insertOwed r l := by
  induction l with
  | nil => exact List.mem_singleton.mpr rfl
  | cons x rest ih =>
    unfold insertOwed
    split
    · exact List.mem_cons_self
    · exact List.mem_cons_of_mem x ih

/-- R42: an UP that finds its place. -/
theorem releaseReported_placed {e : DownKey} {sweep : Bool} {s : State} (clean : s.queue.stale = emptyStale)
    (owed : s.kbd.owed = []) (free : 1 ≤ room s.queue) : releaseReported e sweep s =
      place [keyUnit (if sweep then .sweepUp else .up) e.position e.code s.link.partTime] s := by
  unfold releaseReported
  rw [if_pos owed, offerKeyUp_placed clean free]
  rfl

/-- R42, R47: an UP that is owed. -/
theorem releaseReported_owed {e : DownKey} {sweep : Bool} {s : State} (clean : s.queue.stale = emptyStale)
    (waits : s.kbd.owed ≠ [] ∨ room s.queue = 0) : releaseReported e sweep s = owe e sweep s := by
  unfold releaseReported
  by_cases owed : s.kbd.owed = []
  · rw [if_pos owed, offerKeyUp_dropped clean (waits.resolve_left fun h => h owed)]
    rfl
  · rw [if_neg owed]

theorem removeEntry_owed (n : Nat) (k : Keyboard) : (removeEntry n k).owed = k.owed := by
  unfold removeEntry tableEmptied
  split <;> rfl

/-- R42: a release of a reported entry. -/
theorem release_reported {n : Nat} {e : DownKey} {s : State}
    (own : s.kbd.table.find? (fun x => x.position == n) = some e) (reported : e.reported = true) :
    (release n s).1.mem = (releaseReported e false s).mem ∧
    (release n s).1.kbd.owed = (releaseReported e false s).kbd.owed := by
  unfold release
  rw [own]
  simp only [reported, if_true]
  exact ⟨trivial, by rw [resetPressCount_owed, removeEntry_owed]⟩

theorem placeOwed_one {r : OwedRelease} {s : State} (free : 1 ≤ room s.queue) :
    placeOwed [r] s = place [owedUnit s.link.partTime r] { s with kbd := { s.kbd with owed := [] } } := if_pos free

/-- Settles O21: the entry's own code, placed at once or owed; `m` is never looked at. -/
theorem keyUpCarriesLatchedCode : Obligations.KeyUpCarriesLatchedCode := by
  refine ⟨fun n e m s own reported clean => ?_, fun e m s clean => ?_, fun r s free => ?_⟩
  · obtain ⟨mem, owedList⟩ := release_reported (s := { s with kbd := { s.kbd with keymap := m } }) own reported
    rw [mem, owedList]
    constructor
    · intro owed free
      rw [releaseReported_placed (s := { s with kbd := { s.kbd with keymap := m } }) clean owed free, place_eq]
      rfl
    · intro waits
      rw [releaseReported_owed (s := { s with kbd := { s.kbd with keymap := m } }) clean waits]
      exact mem_insertOwed _ _
  · constructor
    · intro owed free
      rw [releaseReported_placed (s := { s with kbd := { s.kbd with keymap := m } }) clean owed free, place_eq]
      rfl
    · intro waits
      rw [releaseReported_owed (s := { s with kbd := { s.kbd with keymap := m } }) clean waits]
      exact mem_insertOwed _ _
  · rw [placeOwed_one free, place_eq]
    rfl

end Sys2Proof.Proofs.Keys
end

section
/-! PROOF. Host writes of the window (R170 to R173, R185, R189, R199): judged as a whole, stored or discarded, with the event that a
stored write starts. -/
set_option Elab.async false

namespace Sys2Proof.Proofs.HostWrites

open Sys2Proof Sys2Proof.Machine Sys2Proof.Safety Sys2Proof.Laws Sys2Proof.Proofs.Frames Sys2Proof.Proofs.Updates
  Sys2Proof.Proofs.Window Sys2Proof.Proofs.Completion Sys2Proof.Proofs.Reports Sys2Proof.Proofs.ScanModes

/-! ### The three ways of a claimed write -/

theorem windowWrite_stored {w : WindowWrite} {s : State} (ok : writeAllowed s w = true) :
    windowWrite w s = storeWrite s w := if_pos ok

theorem windowWrite_silent {w : WindowWrite} {s : State} (no : writeAllowed s w = false)
    (silent : discardedSilently s w = true) : windowWrite w s = s := by
  unfold windowWrite
  rw [no, silent]
  rfl

theorem windowWrite_discarded {w : WindowWrite} {s : State} (no : writeAllowed s w = false)
    (loud : discardedSilently s w = false) : windowWrite w s = discardWrite s w := by
  unfold windowWrite
  rw [no, loud]
  rfl

/-! ### Discarding -/

theorem discardWrite_cause (s : State) (w : WindowWrite) :
    (discardWrite s w).link.alertCause = s.link.alertCause ||| 4#32 := by
  unfold discardWrite
  split <;> rfl

theorem discardWrite_gen (s : State) (w : WindowWrite) (whole : s.link.gens.length = 17) :
    (discardWrite s w).gen .platform = s.gen .platform + 2#16 := by
  have raised : (discardWrite s w).link.gens = (s.link.gens.modify 0 (· + 1#16)).modify 0 (· + 1#16) := by
    unfold discardWrite
    split <;> rfl
  unfold State.gen
  rw [raised]
  obtain ⟨g, rest, eq⟩ := List.exists_cons_of_length_eq_add_one whole
  simp [eq, Rec.index, BitVec.add_assoc]

theorem discardWrite_offset {s : State} {w : WindowWrite} (same : offsetsDiffer s w = false) :
    (discardWrite s w).link.lastProtocol = BitVec.ofNat 16 w.offset := by
  rcases discardOffset_cases s w with own | ⟨differ, _⟩
  · rw [discardWrite_lastProtocol, own]
  · rw [same] at differ
    exact absurd differ Bool.false_ne_true

/-- What a discarded write leaves. -/
theorem discardWrite_frame (s : State) (w : WindowWrite) : (discardWrite s w).posted = s.posted ∧
    sameBus s (discardWrite s w) ∧ samePacks s (discardWrite s w) ∧ sameControl s (discardWrite s w) ∧
    samePlatform s (discardWrite s w) := by
  have within := within_discardWrite s w
  exact ⟨within.posted (by simp), within.sameBus (by simp) (by simp), within.samePacks (by simp) (by simp),
    within.sameControl (by simp) (by simp), within.samePlatform (by simp) (by simp) (by simp)⟩

/-! ### The read index word -/

theorem queueIndex_iff (o : Nat) : accessClass o = .queueIndex ↔ o = 0x0104 ∨ o = 0x0105 := by
  unfold accessClass
  split
  · simp; omega
  · split
    · simp; omega
    · split
      · simp; omega
      · split <;> simp <;> omega

/-- A write that touches the read index word spans a byte of it. -/
theorem span_of_queueIndex {w : WindowWrite} (hit : ((Machine.touched w).any fun o => accessClass o == .queueIndex) = true) :
    w.offset ≤ 0x0105 ∧ 0x0104 < w.offset + w.bytes.length := by
  simp only [Machine.touched, List.any_map, List.any_eq_true, List.mem_range, Function.comp_apply, beq_iff_eq,
    queueIndex_iff] at hit
  obtain ⟨i, len, here⟩ := hit
  omega

theorem offsetsDiffer_of_closed {s : State} {w : WindowWrite} (closed : ¬ (w.offset ≤ 0x0105 ∧
    0x0104 < w.offset + w.bytes.length ∧ readIndexAllowed s.queue (readIndexIfStored s w) = false)) :
    offsetsDiffer s w = false := by
  have none : indexForbidden s w = false := by
    unfold indexForbidden
    rw [Bool.and_eq_false_iff, Bool.not_eq_false']
    by_cases hit : w.offset ≤ 0x0105 ∧ 0x0104 < w.offset + w.bytes.length
    · exact .inr (Bool.not_eq_false _ ▸ fun no => closed ⟨hit.1, hit.2, no⟩)
    · exact .inl (Bool.eq_false_iff.mpr fun t => hit (span_of_queueIndex t))
  unfold offsetsDiffer
  rw [none, Bool.false_and]

/-- Settles O38: unclaimed, discarded, or stored without an event. -/
theorem hostWindowWriteJudged : Obligations.HostWindowWriteJudged := by
  refine ⟨fun address bytes s high out => ?_, fun address bytes s high claim => ?_, fun address bytes s high wf claim => ?_⟩
  · have unclaimed : claimed s address = false := by
      unfold claimed windowEnabled windowBase
      rcases out with off | below | above
      · rw [off, Bool.false_and, Bool.false_and]
      · rw [decide_eq_false (Nat.not_le.mpr below), Bool.and_false, Bool.false_and]
      · rw [decide_eq_false (p := address.toNat < _) (by omega), Bool.and_false]
    refine (event_next _ s high).trans (congrArg (fun x => Host.Outcome.next (settle x)) ?_)
    unfold hostWrite
    rw [unclaimed]
    rfl
  · dsimp only
    intro no loud
    obtain ⟨posted, bus, packs, control, power, kbd, queue⟩ := discardWrite_frame s ⟨address.toNat - windowBase s, bytes⟩
    refine ⟨discardWrite s ⟨address.toNat - windowBase s, bytes⟩, (event_next _ s high).trans ?_, discardWrite_mem _ _,
      discardWrite_cause _ _, ⟨fun closed => discardWrite_offset (offsetsDiffer_of_closed closed), fun _ => ?_⟩,
      discardWrite_gen _ _, power, queue, posted, kbd, bus, packs, control⟩
    · unfold hostWrite
      rw [if_pos claim, windowWrite_discarded no loud]
    · rw [discardWrite_lastProtocol]
      rcases discardOffset_cases s ⟨address.toNat - windowBase s, bytes⟩ with own | ⟨_, other⟩
      · exact .inl (by rw [own])
      · exact .inr (by rw [other])
  · dsimp only
    intro ok plain
    refine ⟨storeBytes (address.toNat - windowBase s) bytes s, (event_next _ s high).trans ?_, readList_stored wf _ _,
      fun a out => read_writeList_outside _ _ _ out, rfl⟩
    unfold hostWrite
    rw [if_pos claim, windowWrite_stored ok]
    unfold storeWrite
    rw [plain]

theorem touched_bytes16 (o v : Nat) : touched ⟨o, bytes16 v⟩ = [o, o + 1] := rfl

theorem accessClass_queueIndex : accessClass 0x0104 = .queueIndex ∧ accessClass 0x0105 = .queueIndex := ⟨rfl, rfl⟩

/-- The write of the whole read index word. -/
abbrev indexWrite (v : Nat) : WindowWrite := ⟨0x0104, bytes16 v⟩

theorem readIndexIfStored_word (s : State) {v : Nat} (small : v < 65536) : readIndexIfStored s (indexWrite v) = v :=
  (value16_bytes v).trans (Nat.mod_eq_of_lt small)

theorem writeAllowed_index (s : State) {v : Nat} (small : v < 65536) :
    writeAllowed s (indexWrite v) = readIndexAllowed s.queue v := by
  simp [writeAllowed, touched_bytes16, byteAllowed, accessClass_queueIndex, readIndexIfStored_word s small]

theorem discardedSilently_index (s : State) (v : Nat) : discardedSilently s (indexWrite v) = false := by
  simp [discardedSilently, touched_bytes16, repeatsCancel, accessClass_queueIndex]

theorem storeWrite_index (s : State) {v : Nat} (small : v < 65536) :
    storeWrite s (indexWrite v) = roomEvent { s with queue := { s.queue with read := v } } := by
  have event : significance s (indexWrite v) = .readIndex := by
    simp [significance, touched_bytes16, accessClass_queueIndex]
  unfold storeWrite
  rw [event]
  dsimp only
  rw [readIndexIfStored_word s small]

theorem readIndexAllowed_iff (q : Queue) (v : Nat) :
    readIndexAllowed q v = true ↔ v < 128 ∧ (v + 128 - q.read) % 128 ≤ occupancy q := by simp [readIndexAllowed]

/-- Settles O41: the index taken with its room event, or the write discarded at its own offset. -/
theorem readIndexWriteJudged : Obligations.ReadIndexWriteJudged := by
  intro value s high
  have small : value.toNat < 65536 := value.isLt
  refine ⟨windowWrite (indexWrite value.toNat) s, event_next _ s high, ?_⟩
  have w := within_windowWrite (indexWrite value.toNat) s
  by_cases ok : readIndexAllowed s.queue value.toNat = true
  · have run := (windowWrite_stored ((writeAllowed_index s small).trans ok)).trans (storeWrite_index s small)
    have moved := ((within_queue { s.queue with read := value.toNat } s).then (within_roomEvent _)).mono
      (W := .kbd :: reporting) (by simp)
    obtain ⟨read, table⟩ := roomEvent_still { s with queue := { s.queue with read := value.toNat } }
    rw [run]
    refine ⟨fun _ _ => read, moved.power (by simp), moved.posted (by simp), table, moved.sameBus (by simp) (by simp),
      moved.samePacks (by simp) (by simp), moved.sameControl (by simp) (by simp),
      moved.sameButQueue (by simp) (by simp) (by simp), fun out => ?_⟩
    have path := (readIndexAllowed_iff _ _).mp ok
    omega
  · have no := Bool.eq_false_iff.mpr ok
    rw [windowWrite_discarded ((writeAllowed_index s small).trans no) (discardedSilently_index s _)]
    obtain ⟨posted, bus, packs, control, power, kbd, queue⟩ := discardWrite_frame s (indexWrite value.toNat)
    refine ⟨fun lo path => absurd ((readIndexAllowed_iff _ _).mpr ⟨lo, path⟩) ok, power, posted, congrArg _ kbd, bus, packs,
      control, fun a _ => congrArg (Memory.read · a) (discardWrite_mem s _),
      fun _ => ⟨queue, discardWrite_mem s _, by simp [discardWrite_cause], ?_⟩⟩
    exact discardWrite_offset (by simp [offsetsDiffer])

/-! ### The state word of a slot -/

/-- The write of a slot's whole state word. -/
abbrev stateWrite (n v : Nat) : WindowWrite := ⟨slotBase n, bytes16 v⟩

theorem accessClass_stateWord (n : Fin 16) :
    accessClass (slotBase n) = .slot n ∧ accessClass (slotBase n + 1) = .slot n :=
  ⟨accessClass_slot n.isLt ⟨Nat.le_refl _, by omega⟩, accessClass_slot n.isLt ⟨by omega, by omega⟩⟩

theorem slotStateIfStored_word (s : State) (n : Nat) {v : Nat} (small : v < 65536) :
    slotStateIfStored s (stateWrite n v) n = v := by
  have bytes : slotStateIfStored s (stateWrite n v) n = value16 (BitVec.ofNat 8 v) (BitVec.ofNat 8 (v / 256)) := by
    simp [slotStateIfStored, byteIfStored, bytes16]
  rw [bytes, value16_bytes, Nat.mod_eq_of_lt small]

theorem writeAllowed_state (s : State) (n : Fin 16) {v : Nat} (small : v < 65536) :
    writeAllowed s (stateWrite n v) = stateWordAllowed (slotState s n) v := by
  simp [writeAllowed, touched_bytes16, byteAllowed, accessClass_stateWord n, slotByteAllowed, inStateWord,
    slotStateIfStored_word s n.val small]

theorem discardedSilently_state (s : State) (n : Fin 16) {v : Nat} (small : v < 65536) :
    discardedSilently s (stateWrite n v) = (slotState s n == slotCancel && v == slotCancel) := by
  simp [discardedSilently, touched_bytes16, repeatsCancel, accessClass_stateWord n, inStateWord,
    slotStateIfStored_word s n.val small]

theorem significance_state (s : State) (n : Fin 16) {v : Nat} (small : v < 65536) : significance s (stateWrite n v) =
    if slotState s n ≠ slotCancel ∧ v = slotCancel then .cancel n else .plain := by
  obtain ⟨lo, hi⟩ := accessClass_stateWord n
  have cancelled : cancelledSlot s (stateWrite n v) =
      if slotState s n ≠ slotCancel ∧ v = slotCancel then some n.val else none := by
    simp only [cancelledSlot, touched_bytes16, List.findSome?_cons, List.findSome?_nil, lo, hi, inStateWord,
      slotStateIfStored_word s n.val small]
    by_cases h : slotState s n ≠ slotCancel ∧ v = slotCancel <;> simp [h]
  simp only [significance, touched_bytes16, List.any_cons, List.any_nil, lo, hi, cancelled]
  by_cases h : slotState s n ≠ slotCancel ∧ v = slotCancel <;> simp [h]

theorem offsetsDiffer_state (s : State) (n : Fin 16) (v : Nat) : offsetsDiffer s (stateWrite n v) = false :=
  offsetsDiffer_of_closed fun h => by
    simp only [slotBase] at h
    omega

/-- A write of the state word that is discarded with PROTOCOL. -/
theorem stateWrite_discarded {s : State} {n : Fin 16} {v : Nat} (small : v < 65536)
    (no : stateWordAllowed (slotState s n) v = false) (loud : (slotState s n == slotCancel && v == slotCancel) = false) :
    let u := windowWrite (stateWrite n v) s
    u.mem = s.mem ∧ u.posted = s.posted ∧ sameBus s u ∧ samePacks s u ∧ sameControl s u ∧ samePlatform s u ∧
      u.link.alertCause.getLsbD 2 = true ∧ u.link.lastProtocol = BitVec.ofNat 16 (slotBase n) := by
  dsimp only
  rw [windowWrite_discarded ((writeAllowed_state s n small).trans no) ((discardedSilently_state s n small).trans loud)]
  obtain ⟨posted, bus, packs, control, platform⟩ := discardWrite_frame s (stateWrite n v)
  exact ⟨discardWrite_mem s _, posted, bus, packs, control, platform, by simp [discardWrite_cause],
    discardWrite_offset (offsetsDiffer_state s n v)⟩

/-- R185: a slot is freed where it is DONE. -/
theorem windowWrite_free {s : State} {n : Fin 16} (done : slotState s n = slotDone) :
    windowWrite (stateWrite n slotFree) s = setSlotState n slotFree s := by
  have plain : significance s (stateWrite n slotFree) = .plain := by
    rw [significance_state s n (by decide), if_neg (by simp [slotFree, slotCancel])]
  rw [windowWrite_stored ((writeAllowed_state s n (by decide)).trans (by simp [done, stateWordAllowed_iff]))]
  unfold storeWrite
  rw [plain]
  rfl

/-- R189: a slot in POSTED or ACTIVE is cancelled. -/
theorem windowWrite_cancel {s : State} {n : Fin 16} (waits : slotState s n = slotPosted ∨ slotState s n = slotActive) :
    windowWrite (stateWrite n slotCancel) s = cancelEvent n (setSlotState n slotCancel s) := by
  have other : slotState s n ≠ slotCancel := by rcases waits with h | h <;> rw [h] <;> decide
  have cancel : significance s (stateWrite n slotCancel) = .cancel n := by
    rw [significance_state s n (by decide), if_pos ⟨other, rfl⟩]
  have ok : stateWordAllowed (slotState s n) slotCancel = true := by
    rcases waits with h | h <;> simp [h, stateWordAllowed_iff]
  rw [windowWrite_stored ((writeAllowed_state s n (by decide)).trans ok)]
  unfold storeWrite
  rw [cancel]
  rfl

/-- R189: what a cancel does, by the work that the slot holds. -/
theorem cancelEvent_load {s : State} {n : Nat} {t : TableId} (held : heldWork s n = some (.load t)) :
    cancelEvent n s = completeSlot n .cancelled 0 [] s := by
  unfold cancelEvent
  rw [held]

theorem cancelEvent_transfer {s : State} {n : Nat} {p : PortId} (held : heldWork s n = some (.transfer p)) :
    cancelEvent n s = if n ∈ (s.port p).hosts then withdrawTransfer p n s else s := by
  unfold cancelEvent
  rw [held]
  simp

theorem cancelEvent_flight {s : State} {n : Nat} (held : heldWork s n = none ∨ (∃ p, heldWork s n = some (.busReset p)) ∨
    ∃ k, heldWork s n = some (.probe k)) : cancelEvent n s = s := by
  unfold cancelEvent
  rcases held with h | ⟨p, h⟩ | ⟨k, h⟩ <;> rw [h]

theorem withdrawTransfer_hosts (p : PortId) (n : Nat) (s : State) : n ∉ ((withdrawTransfer p n s).port p).hosts := by
  unfold withdrawTransfer
  rw [(within_completeSlot n _ _ [] _ fitsSlot_nil).port p (by simp), port_updatingPort]
  simp

/-- R77: a waiting transfer is withdrawn. -/
theorem withdrawn {s : State} (wf : memoryCanonical s) (p : PortId) (n v : Nat) :
    let u := withdrawTransfer p n (setSlotState n v s)
    doneWith u n .cancelled 0 ∧ n ∉ (u.port p).hosts ∧ sameButSlot n s u ∧ samePacks s u ∧ sameControl s u ∧
      samePlatform s u := by
  have w := ((within_setSlotState n v s).then (within_withdrawTransfer p n _)).mono
    (W := [.causes, .mem, .slot n, .posted, .port p]) (by simp)
  have canonical := (keeps_updatingPort p (fun x =>
    let rest := x.hosts.filter (· != n)
    { x with hosts := rest, fairness := if rest = [] then 0 else x.fairness }) (setSlotState n v s)
    (fun h => by dsimp only; split <;> omega)).memory (canonical_setSlotState wf n v)
  exact ⟨doneWith_completeSlot canonical n _ (by decide) [], withdrawTransfer_hosts p n _,
    w.sameButSlot (by simp) (by simp) (by simp) (fun m ne => by simp [ne]), w.samePacks (by simp) (by simp),
    w.sameControl (by simp) (by simp), w.samePlatform (by simp) (by simp) (by simp)⟩

/-- The state word is written alone, and nothing else changes. -/
theorem setSlotState_alone {s : State} (wf : memoryCanonical s) (n : Nat) {v : Nat} (small : v < 65536) :
    slotState (setSlotState n v s) n = v ∧ setSlotState n v s = { s with mem := (setSlotState n v s).mem } ∧
      ∀ a, a ≠ slotBase n → a ≠ slotBase n + 1 → Memory.read (setSlotState n v s).mem a = Memory.read s.mem a :=
  ⟨slotState_setSlotState wf small, rfl, fun a _ _ => read_setSlotState n v s (by omega)⟩

/-- Settles O40: by the state of the slot, and for a cancel by the work that it holds. -/
theorem slotStateWrites : Obligations.SlotStateWrites := by
  refine ⟨fun n s high wf => ⟨windowWrite (stateWrite n slotFree) s, event_next _ s high, fun done => ?_, fun waits =>
    stateWrite_discarded (by decide) ?_ (by simp [slotFree, slotCancel])⟩, fun n s high wf =>
    ⟨windowWrite (stateWrite n slotCancel) s, event_next _ s high, fun waits => ?_, fun cancelled => ?_, fun idle =>
    stateWrite_discarded (by decide) ?_ ?_⟩⟩
  · rw [windowWrite_free done]
    exact setSlotState_alone wf n (by decide)
  · rcases waits with h | h | h <;>
      simp [h, stateWordAllowed, slotFree, slotPosted, slotActive, slotDone, slotCancel]
  · rw [windowWrite_cancel waits]
    have marked := setSlotState_alone wf n (v := slotCancel) (by decide)
    refine ⟨fun t load => ?_, fun p transfer waiting => ?_, fun p transfer granted => ?_, fun flight => ?_⟩
    · rw [cancelEvent_load (s := setSlotState n slotCancel s) load]
      exact answered ((within_setSlotState n slotCancel s).mono (by simp)) (canonical_setSlotState wf n _) _ (by decide)
        fitsSlot_nil
    · rw [cancelEvent_transfer (s := setSlotState n slotCancel s) transfer, if_pos (by simpa [setSlotState] using waiting)]
      exact withdrawn wf p n slotCancel
    · rw [cancelEvent_transfer (s := setSlotState n slotCancel s) transfer, if_neg (by simpa [setSlotState] using granted)]
      exact ⟨marked.1, rfl, rfl⟩
    · rw [cancelEvent_flight (s := setSlotState n slotCancel s) flight]
      exact marked
  · exact windowWrite_silent ((writeAllowed_state s n (by decide)).trans (by rw [cancelled]; rfl))
      ((discardedSilently_state s n (by decide)).trans (by rw [cancelled]; rfl))
  · rcases idle with h | h <;> simp [h, stateWordAllowed, slotFree, slotPosted, slotActive, slotDone, slotCancel]
  · rcases idle with h | h <;> simp [h, slotFree, slotDone, slotCancel]

/-! ### The heartbeat word -/

/-- A write that stays inside the heartbeat word. -/
theorem windowWrite_heartbeat {first : Fin 4} {bytes : List Byte} {s : State} (some_ : bytes ≠ [])
    (inside : first.val + bytes.length ≤ 4) : windowWrite ⟨0x00F0 + first.val, bytes⟩ s =
      heartbeatEvent (storeBytes (0x00F0 + first.val) bytes s) := by
  have host : ∀ o ∈ touched ⟨0x00F0 + first.val, bytes⟩, accessClass o = .host := fun o m => by
    obtain ⟨i, len, rfl⟩ := List.mem_map.mp m
    rw [List.mem_range] at len
    exact accessClass_host (by dsimp only; omega) (by dsimp only at len ⊢; omega)
  have one : 0x00F0 + first.val ∈ touched ⟨0x00F0 + first.val, bytes⟩ :=
    List.mem_map.mpr ⟨0, List.mem_range.mpr (List.length_pos_iff.mpr some_), rfl⟩
  have ok : writeAllowed s ⟨0x00F0 + first.val, bytes⟩ = true :=
    List.all_eq_true.mpr fun o m => by simp [byteAllowed, host o m]
  have event : significance s ⟨0x00F0 + first.val, bytes⟩ = .heartbeat :=
    if_pos (List.any_eq_true.mpr ⟨_, one, by simp [host _ one]⟩)
  rw [windowWrite_stored ok]
  unfold storeWrite
  rw [event]

/-- R20: what a heartbeat write makes of the watch. -/
theorem heartbeatEvent_cases (s : State) :
    (s.power.state = .run → s.power.heartbeat ≠ .silent → (heartbeatEvent s).power.heartbeat = .watching ∧
      (heartbeatEvent s).power.heartbeatMs = 0 ∧ (heartbeatEvent s).queue = s.queue) ∧
    (s.power.state = .run → s.power.heartbeat = .silent → s.power.pulseMs = none →
      (heartbeatEvent s).power.heartbeat = .watching ∧ (heartbeatEvent s).power.heartbeatMs = 0) ∧
    (s.power.state = .run → s.power.heartbeat = .silent → s.power.pulseMs.isSome = true → heartbeatEvent s = s) ∧
    (s.power.state ≠ .run → heartbeatEvent s = s) := by
  refine ⟨fun run loud => ?_, fun run silent quiet => ?_, fun run silent pulse => ?_, fun other => if_neg other⟩
  · have watch : heartbeatEvent s = updatingPower (fun x => { x with power :=
        { x.power with heartbeat := .watching, heartbeatMs := 0 } }) s := by
      unfold heartbeatEvent
      rw [if_pos run]
      split
      · rfl
      · rfl
      · next silent => exact absurd silent loud
    rw [watch, updatingPower]
    simp
  · have told := (low_offer (.heartbeat true) (updatingPower (fun x => { x with power :=
        { x.power with heartbeat := .watching, heartbeatMs := 0 } }) s)).power
    unfold heartbeatEvent
    rw [if_pos run, silent]
    dsimp only
    rw [if_neg (by simp [quiet]), told, updatingPower]
    simp
  · unfold heartbeatEvent
    rw [if_pos run, silent]
    exact if_pos pulse

/-- Settles O17: the word is stored, then the event of R20; what follows the store leaves the bytes outside the ring. -/
theorem heartbeatWriteByState : Obligations.HeartbeatWriteByState := by
  intro first bytes s high wf some_ inside
  have first4 := first.isLt
  have stored : Within [.mem, .front] s (storeBytes (0x00F0 + first.val) bytes s) :=
    within_mem _ s (by simp) (touched (by simp))
      (fun _ a hx => read_writeList_outside _ _ _ (by unfold inRing at hx; omega))
      (fun n _ _ a hx => read_writeList_outside _ _ _ (by unfold inSlot slotBase at hx; omega))
  have after := within_heartbeatEvent (storeBytes (0x00F0 + first.val) bytes s)
  have w := (stored.then after).mono (W := .power :: .front :: reporting) (by simp)
  obtain ⟨loud, silent, pulse, other⟩ := heartbeatEvent_cases (storeBytes (0x00F0 + first.val) bytes s)
  refine ⟨_, (event_next _ s high).trans (by rw [windowWrite_heartbeat some_ inside]), ?_, loud, silent, fun run quiet on => ?_,
    fun off => ?_, fun a out outRing => ?_, w.kbd (by simp), w.posted (by simp), w.sameBus (by simp) (by simp),
    w.samePacks (by simp) (by simp), w.sameControl (by simp) (by simp)⟩
  · refine Eq.trans ?_ (readList_stored wf (0x00F0 + first.val) bytes)
    refine List.map_congr_left fun i m => after.front (by simp) _ ?_
    rw [List.mem_range] at m
    unfold inFront
    omega
  · rw [pulse run quiet on]
    exact ⟨rfl, rfl⟩
  · rw [other off]
    exact ⟨rfl, rfl⟩
  · exact (after.sameButQueue (by simp) (by simp) (by simp) a outRing).trans (read_writeList_outside _ _ _ out)

end Sys2Proof.Proofs.HostWrites
end

section
/-! PROOF. What an evaluation of the charge controller leaves of its settings (R131, R132), the discharge selection (R117 to R119),
the end of a poll entry (R89, R93), and the timers that end without a decision (R21, R69, R156, R159). -/
set_option Elab.async false

namespace Sys2Proof.Proofs.Units

open Sys2Proof Sys2Proof.Machine Sys2Proof.Safety Sys2Proof.Laws Sys2Proof.Proofs.Frames Sys2Proof.Proofs.Updates
  Sys2Proof.Proofs.ScanModes

/-! ### What an evaluation may move in the controller -/

/-- `d` differs from `c` at most in what an evaluation decides; the settings, the counts and the pair written stand. -/
def Evaluates (c d : Charge) : Prop :=
  ∃ state selected latch limit desired outcome waiting dPk iIn iTh iRaw, d = { c with
    state := state, selected := selected, latch := latch, limit := limit, desired := desired, writeOutcome := outcome
    switchWaiting := waiting, dPk := dPk, iIn := iIn, iTh := iTh, iRaw := iRaw }

theorem Evaluates.refl (c : Charge) : Evaluates c c := ⟨_, _, _, _, _, _, _, _, _, _, _, rfl⟩

theorem Evaluates.trans {c d e : Charge} (a : Evaluates c d) (b : Evaluates d e) : Evaluates c e := by
  obtain ⟨_, _, _, _, _, _, _, _, _, _, _, rfl⟩ := a
  obtain ⟨_, _, _, _, _, _, _, _, _, _, _, rfl⟩ := b
  exact ⟨_, _, _, _, _, _, _, _, _, _, _, rfl⟩

theorem evaluates_select (s : State) (sel : Option PackId) : Evaluates s.chg (select s sel) := by
  unfold select
  split
  · exact Evaluates.refl _
  · exact ⟨_, _, _, _, _, _, _, _, _, _, _, rfl⟩

theorem evaluates_withoutPack (s : State) (x : ChargeState) : Evaluates s.chg (withoutPack s x) :=
  (evaluates_select s none).trans ⟨_, _, _, _, _, _, _, _, _, _, _, rfl⟩

theorem evaluates_computeFor (s : State) (k : PackId) : Evaluates s.chg (computeFor s k) := by
  unfold computeFor
  dsimp only
  split <;> exact ⟨_, _, _, _, _, _, _, _, _, _, _, rfl⟩

theorem evaluates_waitingSwitch (s : State) : Evaluates s.chg (waitingSwitch s) := by
  unfold waitingSwitch
  dsimp only
  split <;> exact ⟨_, _, _, _, _, _, _, _, _, _, _, rfl⟩

theorem evaluates_evaluated (s : State) : Evaluates s.chg (evaluated s) := by
  unfold evaluated
  split
  · exact evaluates_withoutPack s _
  · split
    · exact evaluates_withoutPack s _
    · split
      · exact evaluates_withoutPack s _
      · next k _ =>
        split
        · exact evaluates_computeFor s k
        · split
          · exact (evaluates_select s (some k)).trans (evaluates_computeFor { s with chg := select s (some k) } k)
          · exact evaluates_waitingSwitch s

theorem chg_updatingPort (p : PortId) (f : Port → Port) (s : State) : (updatingPort p f s).chg = s.chg :=
  (within_updatingPort p f s).chg (by simp)

theorem evaluates_writeDecision (s : State) : Evaluates s.chg (writeDecision s).chg := by
  unfold writeDecision offerGroup
  split
  · exact Evaluates.refl _
  · split
    · exact ⟨_, _, _, _, _, _, _, _, _, _, _, rfl⟩
    · rw [chg_updatingPort]
      exact Evaluates.refl _

/-- The state in which the write decision of an evaluation is made. -/
theorem chg_evaluateOnce (f : Charge → Charge) (s : State) : (evaluateOnce f s).chg =
    (writeDecision { s with chg := evaluated { s with chg := f s.chg } }).chg := by
  unfold evaluateOnce
  rw [(within_chargeNotice _ _).chg (by simp), updating, commit_chg]

theorem evaluates_evaluateOnce (f : Charge → Charge) (s : State) : Evaluates (f s.chg) (evaluateOnce f s).chg := by
  rw [chg_evaluateOnce]
  exact (evaluates_evaluated { s with chg := f s.chg }).trans (evaluates_writeDecision _)

theorem evaluates_evaluateAgain (n d : Nat) (s : State) : Evaluates s.chg (evaluateAgain n d s).chg := by
  induction n generalizing d s with
  | zero => exact Evaluates.refl _
  | succ n ih =>
    unfold evaluateAgain
    split
    · exact Evaluates.refl _
    · exact (evaluates_evaluateOnce id s).trans (ih _ _)

/-- R132: an evaluation leaves the settings that `f` has made. -/
theorem evaluates_evaluateWith (f : Charge → Charge) (s : State) : Evaluates (f s.chg) (evaluateWith f s).chg :=
  (evaluates_evaluateOnce f s).trans (evaluates_evaluateAgain _ _ _)

theorem setCap_cap (c : Option Nat) (s : State) : (setCap c s).chg.cap = c := by
  obtain ⟨_, _, _, _, _, _, _, _, _, _, _, eq⟩ := evaluates_evaluateWith (fun d => { d with cap := c }) s
  exact congrArg (·.cap) eq

theorem setChargeMode_mode (m : ChargeMode) (s : State) : (setChargeMode m s).chg.mode = m := by
  obtain ⟨_, _, _, _, _, _, _, _, _, _, _, eq⟩ := evaluates_evaluateWith (fun d => { d with mode := m }) s
  exact congrArg (·.mode) eq

/-- R22: the withdrawal of the overrides. -/
theorem withdrawOverrides_same (s : State) : (withdrawOverrides s).chg.cap = none ∧ (withdrawOverrides s).th = { s.th with
    fan0 := { s.th.fan0 with override := 0 }, fan1 := { s.th.fan1 with override := 0 } } := by
  unfold withdrawOverrides clearOverrides updatingFans
  rw [commit_chg, commit_chg, commit_th, commit_th]
  dsimp only
  rw [(within_setCap none s).th (by simp)]
  exact ⟨setCap_cap none s, rfl⟩

/-! ### The discharge selection -/

theorem updatingPower_dsg (f : State → State) (s : State) : (updatingPower f s).dsg = (f s).dsg := commitPower_dsg s (f s)

theorem criticalRise_dsg (s : State) : (criticalRise s).dsg = { s.dsg with critical := true } := by
  unfold criticalRise
  dsimp only
  split
  · split
    · exact ((within_latch _ _).dsg (by simp)).trans (updatingPower_dsg _ s)
    · exact ((within_offer _ _).dsg (by simp)).trans (updatingPower_dsg _ s)
  · exact ((within_latch _ _).dsg (by simp)).trans (updatingPower_dsg _ s)
  · next sleep =>
    have still : (updatingPower (fun x => { x with dsg := { x.dsg with critical := true } }) s).power.state ≠ .run := by
      rw [updatingPower, commitPower_power, sleep]
      simp
    exact ((within_takeWake _ _ still).dsg (by simp)).trans (updatingPower_dsg _ s)
  all_goals exact updatingPower_dsg _ s

theorem setCritical_dsg (b : Bool) (s : State) : (setCritical b s).dsg = { s.dsg with critical := b } := by
  unfold setCritical
  split
  · next own => rw [← own]
  · split
    · next rise => rw [criticalRise_dsg, rise]
    · next fall =>
      rw [Bool.eq_false_iff.mpr fall]
      exact updatingPower_dsg _ s

/-- R117, R118: the selection as decided, and critical battery by it. -/
theorem dischargeDecision_dsg (s : State) : (dischargeDecision s).dsg.selected = decideDischarge s ∧
    (dischargeDecision s).dsg.critical = criticalHolds (setDischarge (decideDischarge s) s) := by
  have chosen : (setDischarge (decideDischarge s) s).dsg.selected = decideDischarge s := by
    unfold setDischarge updatingPacks
    split
    · assumption
    · rw [commit_dsg, commit_dsg]
  unfold dischargeDecision criticalDecision
  rw [setCritical_dsg]
  exact ⟨chosen, rfl⟩

/-- R118: critical battery of a selection, in the packs' own terms. -/
theorem criticalHolds_iff (s : State) : criticalHolds s = true ↔ s.adapterIn = false ∧ ∃ k n, s.dsg.selected = some k ∧
    (s.pack k).ages.getD 2 none = some n ∧ (s.pack k).values.soc ≤ s.chg.profile.criticalSoc ∧
    qualifies s (otherPack k) = false := by
  unfold criticalHolds socAge
  cases chosen : s.dsg.selected with
  | none => simp
  | some k =>
    simp only [Bool.and_eq_true, Bool.not_eq_true', decide_eq_true_eq, Option.isSome_iff_exists, Option.some.injEq]
    constructor
    · rintro ⟨out, ⟨⟨n, age⟩, low⟩, lone⟩
      exact ⟨out, k, n, rfl, age, low, lone⟩
    · rintro ⟨out, _, n, rfl, age, low, lone⟩
      exact ⟨out, ⟨⟨n, age⟩, low⟩, lone⟩

theorem criticalHolds_setDischarge (sel : Option PackId) (s : State) : criticalHolds (setDischarge sel s) = true ↔
    s.adapterIn = false ∧ ∃ k n, (setDischarge sel s).dsg.selected = some k ∧ (s.pack k).ages.getD 2 none = some n ∧
      (s.pack k).values.soc ≤ s.chg.profile.criticalSoc ∧ qualifies s (otherPack k) = false := by
  have w := within_setDischarge sel s
  have packs : ∀ k, (setDischarge sel s).pack k = s.pack k := fun k => w.pack k (by simp)
  have adapter : (setDischarge sel s).adapterIn = s.adapterIn := congrArg (·.levels.acp) (w.power (by simp))
  have qualified : ∀ k, qualifies (setDischarge sel s) k = qualifies s k := fun k => by
    unfold qualifies
    rw [packs]
  simp only [criticalHolds_iff, packs, adapter, qualified, w.chg (by simp)]

/-- Settles O33: the two decisions, the second by the first. -/
theorem dischargeDecided : Obligations.DischargeDecided := by
  intro s
  obtain ⟨selected, critical⟩ := dischargeDecision_dsg s
  have same : (setDischarge (decideDischarge s) s).dsg.selected = decideDischarge s := by
    unfold setDischarge updatingPacks
    split
    · assumption
    · rw [commit_dsg, commit_dsg]
  rw [critical, criticalHolds_setDischarge, same, selected]
  refine ⟨?_, Iff.rfl⟩
  unfold decideDischarge
  dsimp only
  cases s.dsg.selected with
  | none => rfl
  | some k =>
    cases k
    · by_cases here : s.seated .pack0 = true <;> simp [here]
    · by_cases here : s.seated .pack1 = true <;> simp [here]

/-- Settles O31: a new selection starts the timer, and a delivery while it runs stays out of the window. -/
theorem switchSettle : Obligations.SwitchSettle := by
  refine ⟨fun sel s new => ?_, fun sel s own => if_pos own, fun o w p => ⟨?_, fun ok seven => ?_⟩, fun s high runs => ?_⟩
  · unfold setDischarge updatingPacks
    rw [if_neg new, commit_dsg, commit_dsg]
  · by_cases ok : o = .ok <;> simp [delivered, coreNumber, ok]
  · simp [delivered, coreNumber, ok, storeField, seven]
  · have w : Within [.dsg] s (settleTimerEnds s) := within_updatingPacks (within_dsg _ s)
    refine ⟨settleTimerEnds s, (quiet_next _ s high).trans ?_, ?_, w.pack .pack0 (by simp), w.pack .pack1 (by simp),
      w.mem (by simp), w.samePlatform (by simp) (by simp) (by simp), w.sameBus (by simp) (by simp),
      w.sameControl (by simp) (by simp)⟩
    · rw [runs]
      rfl
    · unfold settleTimerEnds updatingPacks
      rw [commit_dsg, commit_dsg]

/-! ### The end of a poll entry -/

theorem within_watchOffer (p : PortId) (n v : Nat) (again : Bool) (s : State) : Within charging s
    (if again then evaluate (offer (.watch p n v) s) else offer (.watch p n v) s) :=
  ((within_offer _ s).then (within_evaluate _)).mono (by simp) |>.ite ((within_offer _ s).mono (by simp))

theorem setWatchResult_row {x : Engine} {n : Nat} {row : PollRow} (own : x.rows[n]? = some row) (r : WatchResult) :
    (setWatchResult n r x).rows[n]? = some { row with watch := r } := by
  obtain ⟨long, rfl⟩ := List.getElem?_eq_some_iff.mp own
  simp [setWatchResult, long]

/-- R89, step 3: a watch writes its own field of the row. -/
theorem watchStep_row {p : PortId} {n : Nat} {s : State} {row : PollRow} (own : (s.engine p).rows[n]? = some row)
    (e : PollEntry) (o : BusOutcome) (data : List Byte) :
    ∃ r, ((watchStep p n e o data s).engine p).rows[n]? = some { row with watch := r } := by
  have still : ∃ r, (s.engine p).rows[n]? = some { row with watch := r } := ⟨row.watch, own⟩
  have set : ∀ r, ((s.setEngine p (setWatchResult n r (s.engine p))).engine p).rows[n]? = some { row with watch := r } :=
    fun r => by rw [engine_setEngine, setWatchResult_row own]
  unfold watchStep
  split
  · exact still
  · split
    · unfold evaluateWatch
      dsimp only
      split
      · split
        · exact ⟨_, set _⟩
        · refine ⟨.isTrue, ?_⟩
          rw [(within_watchOffer p n _ _ _).engine p (by cases p <;> simp)]
          exact set _
      · exact ⟨_, set _⟩
    · exact still

theorem errorPolicy_rows (e : PollEntry) (o : BusOutcome) (x : Engine) : (errorPolicy e o x).rows = x.rows := by
  unfold errorPolicy
  split <;> rfl

/-- R89, step 1: a delivery leaves the poll engines. -/
theorem deliver_engine (e : PollEntry) (o : BusOutcome) (reason : SkipReason) (data : List Byte) (s : State) (p : PortId) :
    (deliver e o reason data s).engine p = s.engine p := by
  unfold deliver
  split
  · rfl
  · exact (within_storeBytes_slots _ _ s (by omega)).when.engine p (by simp)
  · exact (within_packDelivery _ _ _ _ s).engine p (by simp)
  · exact (within_chargerDelivery _ _ _ s).engine p (by simp)
  · exact (within_sensorDelivery _ _ _ _ s).engine p (by simp)

/-- Settles O30: the row as step 2 writes it, but for its watch. -/
theorem entryEndWritesRow : Obligations.EntryEndWritesRow := by
  intro p n o reason data s long
  unfold entryEnd
  dsimp only
  have delivered := deliver_engine (entryOf (s.engine p).list n) o reason data s p
  have written : ((State.setEngine (deliver (entryOf (s.engine p).list n) o reason data s) p
      (writeRow n (entryOf (s.engine p).list n) o reason data
        ((deliver (entryOf (s.engine p).list n) o reason data s).engine p))).engine p).rows[n]? =
      some { (s.engine p).rows.getD n neverRow with
        outcome := o, skip := reason, round := (s.engine p).number
        lastValue := rowValue (entryOf (s.engine p).list n) o data ((s.engine p).rows.getD n neverRow).lastValue } := by
    rw [engine_setEngine, delivered]
    simp [writeRow, long]
  obtain ⟨r, own⟩ := watchStep_row written (entryOf (s.engine p).list n) o data
  refine ⟨_, by rw [engine_setEngine, errorPolicy_rows]; exact own, rfl, rfl, rfl, fun ok reads => ?_, fun bad => if_neg bad⟩
  unfold rowValue
  rw [if_pos ok]
  revert reads
  cases (entryOf (s.engine p).list n).kind <;> simp [isRead, firstBits]

/-! ### Timers -/

theorem tachCounted_cases (x : Fan) (width : Nat) : tachCounted x width =
    if width < (if x.wide then 4000 else 500) then x else { x with count := x.count + 1 } := rfl

/-- R21, R22: the end of the pulse. -/
theorem pulseEnds_cases (s : State) : (pulseEnds s).power = { s.power with
      pulseMs := none, hrstAsserted := false, heartbeat := .disarmed, heartbeatMs := 0 } ∧
    (s.overrideValid = false → Within [.power] s (pulseEnds s)) ∧
    (s.overrideValid = true → (pulseEnds s).chg.cap = none ∧ (pulseEnds s).th = { s.th with
      fan0 := { s.th.fan0 with override := 0 }, fan1 := { s.th.fan1 with override := 0 } }) := by
  have ended : Within [.power] s (updatingPower (fun x => { x with power :=
      { x.power with pulseMs := none, hrstAsserted := false, heartbeat := .disarmed, heartbeatMs := 0 } }) s) :=
    within_updatingPower (within_power _ s rfl rfl rfl)
  have power : (updatingPower (fun x => { x with power :=
      { x.power with pulseMs := none, hrstAsserted := false, heartbeat := .disarmed, heartbeatMs := 0 } }) s).power =
      { s.power with pulseMs := none, hrstAsserted := false, heartbeat := .disarmed, heartbeatMs := 0 } :=
    commitPower_power _ _
  unfold pulseEnds
  dsimp only
  cases s.overrideValid
  · exact ⟨power, fun _ => ended, fun h => absurd h (by simp)⟩
  · obtain ⟨cap, th⟩ := withdrawOverrides_same (updatingPower (fun x => { x with power :=
      { x.power with pulseMs := none, hrstAsserted := false, heartbeat := .disarmed, heartbeatMs := 0 } }) s)
    rw [ended.th (by simp)] at th
    exact ⟨((within_withdrawOverrides _).power (by simp)).trans power, fun h => absurd h (by simp), fun _ => ⟨cap, th⟩⟩

/-- Settles O26: the four timers, each with its own change. -/
theorem timersAndPulsesEnd : Obligations.TimersAndPulsesEnd := by
  refine ⟨fun p s high halted runs => ?_, fun s high runs => ?_, fun s high runs => ?_, fun f width s high => ⟨?_, ?_⟩⟩
  · have w := within_retryBegins p s
    exact ⟨retryBegins p s, (event_next _ s high).trans (by simp [when_, retryRuns, halted, runs]), port_updatingPort p _ s,
      w.mem (by simp), w.samePlatform (by simp) (by simp) (by simp), w.samePacks (by simp) (by simp),
      w.sameControl (by simp) (by simp), w.engine .a (by simp), w.engine .b (by simp)⟩
  · have w := within_pulseEnds s
    obtain ⟨power, valid, withdrawn⟩ := pulseEnds_cases s
    refine ⟨pulseEnds s, (event_next _ s high).trans (by rw [runs]; rfl), power, w.kbd (by simp),
      w.samePacks (by simp) (by simp), w.sameEngines (by simp) (by simp) (by simp),
      w.sameButQueue (by simp) (by simp) (by simp), fun off => ?_, fun on => ?_⟩
    · have only := valid off
      exact ⟨only.mem (by simp), only.queue (by simp), only.sameBus (by simp) (by simp), only.sameControl (by simp) (by simp)⟩
    · obtain ⟨cap, th⟩ := withdrawn on
      refine ⟨?_, cap, th⟩
      unfold State.overrideValid
      rw [power]
      simp
  · have w := within_endBoost s
    have th : (endBoost s).th = { s.th with boostMs := none, boostLeft := 0 } := by
      unfold endBoost setBoost updatingFans
      rw [if_pos runs, commit_th, commit_th]
      rfl
    exact ⟨endBoost s, quiet_next _ s high, th, w.mem (by simp), w.samePlatform (by simp) (by simp) (by simp),
      w.sameBus (by simp) (by simp), w.samePacks (by simp) (by simp), w.chg (by simp), w.causes (by simp)⟩
  · intro present wide
    refine (quiet_next _ s high).trans (congrArg Host.Outcome.next ?_)
    unfold tachPulse
    rw [if_pos present, tachCounted_cases, if_neg (by omega)]
  · intro skip
    refine (quiet_next _ s high).trans (congrArg Host.Outcome.next ?_)
    unfold tachPulse
    rcases skip with absent | narrow
    · rw [absent]
      rfl
    · rw [tachCounted_cases, if_pos narrow]
      cases f <;> exact ite_self s

end Sys2Proof.Proofs.Units
end

section
/-! PROOF. The four ways of starting again (R26 to R29, R54, R55, R79, R99, R121, R145, R167, R182, R196): the values that every unit
holds before it decides. -/
set_option Elab.async false

namespace Sys2Proof.Proofs.Restarts

open Sys2Proof Sys2Proof.Machine Sys2Proof.Safety Sys2Proof.Laws Sys2Proof.Proofs.Frames Sys2Proof.Proofs.Updates
  Sys2Proof.Proofs.Inputs Sys2Proof.Proofs.Completion Sys2Proof.Proofs.Reports

/-! ### Reset values -/

theorem startFan_eq (f : FanId) (s : State) : ∃ x y, startFan f s = { s with th := { s.th with fan0 := x, fan1 := y } } := by
  unfold startFan
  split
  · cases f <;> exact ⟨_, _, rfl⟩
  · exact ⟨s.th.fan0, s.th.fan1, rfl⟩

/-- R145, R167: the units' start writes the fans and the charge controller. -/
theorem startUnits_eq (profile : ChargeProfile) (mode : ChargeMode) (s : State) : ∃ x y c,
    startUnits profile mode s = { s with th := { s.th with fan0 := x, fan1 := y }, chg := c } ∧ c.profile = profile ∧
      c.mode = mode ∧ c.cap = none ∧ c.inhibit = ⟨false, false, false⟩ := by
  obtain ⟨x, y, first⟩ := startFan_eq .fan0 s
  obtain ⟨v, w, second⟩ := startFan_eq .fan1 (startFan .fan0 s)
  refine ⟨v, w, resetCharge (startFans s) profile mode, ?_, rfl, rfl, rfl, rfl⟩
  unfold startUnits startFans
  rw [second, first]

theorem tripActive_resetThermal (t : ThermalTable) (c : FanCurves) : (resetThermal t c).slots.any (·.tripped) = false := rfl

/-- The reset values, but for fans and charge controller as one record. -/
theorem resetValues_eq (image : StrapImage) (cause : Cause) (selected : Option PackId) (s : State) : ∃ x y c,
    resetValues image cause selected s = { s with
      inReset := false, mem := [], link := resetLink, queue := resetQueue, posted := []
      power := resetPower (seedLevels s.pins.inputs image) image cause
      kbd := resetKeyboard romKeymap
      portA := resetPort romPollA, portB := resetPort romPollB
      engineA := resetEngine romPollA, engineB := resetEngine romPollB
      pack0 := resetPack, pack1 := resetPack, dsg := resetDischarge selected
      th := { resetThermal romThermal romFanCurves with fan0 := x, fan1 := y }, chg := c, due := noneDue } ∧
      c.profile = romChargeProfile ∧ c.mode = .full ∧ c.cap = none ∧ c.inhibit = ⟨false, false, false⟩ :=
  startUnits_eq _ _ _

/-- Settles O4: the reset values with the levels and straps of the command. -/
theorem coldStartValues : Obligations.ColdStartValues := by
  intro pins s
  refine ⟨resetValues (sampleStraps pins.straps) .none none { s with pins := pins }, exec_coldStart pins s, ?_⟩
  obtain ⟨x, y, c, eq, profile, mode, cap, inhibit⟩ :=
    resetValues_eq (sampleStraps pins.straps) .none none { s with pins := pins }
  rw [eq]
  refine ⟨rfl, rfl, rfl, rfl, rfl, rfl, rfl, rfl, rfl, rfl, rfl, rfl, rfl, rfl, rfl, rfl, rfl, rfl, rfl, rfl, rfl, rfl, rfl,
    rfl, rfl, rfl, rfl, rfl, rfl, rfl, fun k => ?_, rfl, profile, mode, cap, inhibit, rfl, rfl, rfl, rfl⟩
  cases k <;> rfl

/-- R28: what stands on the pins while RESET_N is low. -/
theorem pinResetAssert_outputs (s : State) : chgInhAsserted (assertReset s) = true ∧ chgSel (assertReset s) = none ∧
    alertAsserted (assertReset s) = false ∧ (∀ f, pwmDuty (assertReset s) f = 100) ∧
    ∀ p, portDrives (assertReset s) p = false := ⟨rfl, rfl, rfl, fun _ => rfl, fun _ => rfl⟩

/-- R26: the two straps that a restart from the pins keeps. -/
theorem resampleStraps_kept (old : StrapImage) (p : StrapPins) : (resampleStraps old p).packCount = old.packCount ∧
    (resampleStraps old p).columns = old.columns := ⟨rfl, rfl⟩

/-- R28, R19: the values from which a restart from the pins begins again. -/
def pinValues (s : State) : State :=
  resetValues (resampleStraps s.power.straps s.pins.straps) s.power.shutdownCause s.dsg.selected s

theorem restartFromPins_eq (s : State) : restartFromPins s = beginAgain (pinValues s) := rfl

/-- Settles O5: the outputs while the line is low, then the values that its rise leaves. -/
theorem pinReset : Obligations.PinReset := by
  refine ⟨fun s => ⟨assertReset s, rfl, rfl, pinResetAssert_outputs s⟩, fun straps la lb s => ⟨fun low => ?_, fun high => ?_⟩⟩
  · refine ⟨pinValues { s with pins := { s.pins with straps := straps, lineA := la, lineB := lb } },
      congrArg Host.Outcome.next (if_pos low), ?_⟩
    obtain ⟨x, y, c, eq, profile, _⟩ := resetValues_eq (resampleStraps s.power.straps straps) s.power.shutdownCause
      s.dsg.selected { s with pins := { s.pins with straps := straps, lineA := la, lineB := lb } }
    unfold pinValues
    dsimp only
    rw [eq]
    refine ⟨rfl, rfl, rfl, rfl, rfl, rfl, rfl, rfl, rfl, rfl, rfl, rfl, rfl, rfl, rfl, rfl, rfl, rfl, fun k => ?_, rfl,
      profile, rfl⟩
    cases k <;> rfl
  · exact congrArg Host.Outcome.next (if_neg (by simp [high]))

/-! ### Warm restart -/

theorem setSlotState_other {n m v : Nat} (ne : m ≠ n) (s : State) : slotState (setSlotState n v s) m = slotState s m :=
  slotState_of_same ((within_setSlotState n v s).slot m (by simp) (by simp [ne]))

theorem canonical_freeSlots {s : State} (wf : memoryCanonical s) (r k : Nat) : memoryCanonical (freeSlots r k s) :=
  (keeps_freeSlots r k s).memory wf

theorem within_freeSlot (r n : Nat) (s : State) : Within [.mem, .slot n] s (freeSlot r n s) := (within_setSlotState n _ s).when

/-- R196, step 1: every slot below `k` but the restart's is taken back where it is not finished. -/
theorem slotState_freeSlots {s : State} (wf : memoryCanonical s) (r m : Nat) : (k : Nat) →
    slotState (freeSlots r k s) m =
      if m < k ∧ m ≠ r ∧ (slotState s m = slotPosted ∨ slotState s m = slotActive ∨ slotState s m = slotCancel) then slotFree
      else slotState s m
  | 0 => (if_neg (by omega)).symm
  | k + 1 => by
    have below := slotState_freeSlots wf r m k
    unfold freeSlots
    by_cases own : m = k
    · subst own
      rw [if_neg (by omega)] at below
      unfold freeSlot
      rw [below]
      by_cases free : m ≠ r ∧ (slotState s m = slotPosted ∨ slotState s m = slotActive ∨ slotState s m = slotCancel)
      · rw [if_pos free, if_pos ⟨by omega, free⟩, slotState_setSlotState (canonical_freeSlots wf r m) (by decide)]
      · rw [if_neg free, if_neg (fun h => free h.2), below]
    · rw [slotState_of_same ((within_freeSlot r k _).slot m (by simp) (by simp [own])), below]
      simp only [show m < k ↔ m < k + 1 by omega]

theorem within_freeSlots (r : Nat) : (k : Nat) → (s : State) → Within [.mem, .slots] s (freeSlots r k s)
  | 0, s => Within.refl _ s
  | k + 1, s => (within_freeSlots r k s).trans
      (((within_freeSlot r k _).mono (W := [.slot k, .mem]) (by simp)).anySlot.mono (by simp))

theorem within_publishAll : (l : List Rec) → (s : State) → Within [] s (publishAll l s)
  | [], s => Within.refl _ s
  | r :: rest, s => (within_announce r s).trans (within_publishAll rest _)

/-- R204: the queue emptied, then the RESYNC of all classes at its head. -/
theorem restartQueue_same (s : State) :
    (restartQueue s).mem = Memory.writeList s.mem 0x0110 (resyncUnit allStale s.link.partTime) ∧
    (restartQueue s).queue = ⟨1, 0, emptyStale⟩ ∧
    (restartQueue s).link.alertCause = s.link.alertCause ||| 2#32 ∧
    (restartQueue s).kbd = resetPressCount { s.kbd with owed := [] } := by
  obtain ⟨queue, mem, cause⟩ := setStale_same allStale (emptyQueue s)
  obtain ⟨emem, equeue, ecause, ekbd⟩ : (emptyQueue s).mem = s.mem ∧ (emptyQueue s).queue = ⟨0, 0, emptyStale⟩ ∧
      (emptyQueue s).link.alertCause = s.link.alertCause ∧ (emptyQueue s).kbd = resetPressCount { s.kbd with owed := [] } := by
    unfold emptyQueue
    dsimp only
    obtain ⟨q, m, c⟩ := setStale_same emptyStale { updating .keyboard
      (fun x => { x with kbd := resetPressCount { x.kbd with owed := [] } }) s with
        queue := { s.queue with write := 0, read := 0 } }
    have kbd := (within_setStale emptyStale { updating .keyboard
      (fun x => { x with kbd := resetPressCount { x.kbd with owed := [] } }) s with
        queue := { s.queue with write := 0, read := 0 } }).kbd (by simp)
    simp only [updating, commit_mem, commit_queue, commit_alertCause, commit_kbd] at q m c kbd ⊢
    exact ⟨m, q, c, kbd⟩
  have time : (setStale allStale (emptyQueue s)).link.partTime = s.link.partTime :=
    ((low_emptyQueue s).trans (low_setStale allStale _)).partTime
  obtain ⟨rmem, rqueue, rcause⟩ := placeResync_same (setStale allStale (emptyQueue s))
  unfold restartQueue
  rw [rmem, rqueue, rcause, (within_placeResync _).kbd (by simp), queue, mem, cause, time,
    (within_setStale allStale _).kbd (by simp), emem, equeue, ecause, ekbd]
  exact ⟨rfl, rfl, rfl, rfl⟩

/-- R183: the state in which every unit but the queue has its values of a warm restart. -/
def restarted (n : Nat) (s : State) : State := freeSlots n 16 { s with link := restartLink s.link, posted := [] }

/-- R196: the state in which the restart's own slot is completed. -/
def readyToComplete (n : Nat) (s : State) : State :=
  restartQueue (publishAll (rewrittenRecords (restarted n s)) (warmValues (restarted n s)))

/-- R29 and its like: the values of a warm restart. -/
theorem warmValues_eq (s : State) : ∃ x y c, warmValues s = { s with
      power := restartPower s.power, kbd := resetKeyboard s.kbd.keymap
      portA := resetPort s.engineA.list, portB := resetPort s.engineB.list
      engineA := resetEngine s.engineA.list, engineB := resetEngine s.engineB.list
      pack0 := restartPack s.pack0, pack1 := restartPack s.pack1
      dsg := { s.dsg with settleMs := none }
      th := { resetThermal s.th.table s.th.curves with fan0 := x, fan1 := y }, chg := c } ∧
      c.profile = s.chg.profile ∧ c.mode = s.chg.mode ∧ c.cap = none ∧ c.inhibit = ⟨false, false, false⟩ :=
  startUnits_eq _ _ _

/-- The registers of the window through freeing, publishing and the restart of the queue. -/
theorem restarted_link (n : Nat) (s : State) : (restarted n s).link.alertCause = 0#32 ∧
    (restarted n s).link.partTime = 0#32 ∧ (restarted n s).link.windowCtrl = s.link.windowCtrl ∧
    (restarted n s).link.alertEnable = s.link.alertEnable ∧ (restarted n s).link.lastProtocol = s.link.lastProtocol := by
  have k := keeps_freeSlots n 16 { s with link := restartLink s.link, posted := [] }
  exact ⟨(within_freeSlots n 16 _).causes (by simp), k.partTime, k.windowCtrl, k.alertEnable, k.lastProtocol⟩

theorem emptyKeyboard_restarts (m : Keymap) : resetPressCount { resetKeyboard m with owed := [] } = resetKeyboard m := rfl

/-- What the slots' release leaves of a state: everything but the slots' bytes. -/
theorem within_restarted (n : Nat) (s : State) :
    Within [.mem, .slots] { s with link := restartLink s.link, posted := [] } (restarted n s) := within_freeSlots n 16 _

/-- R196, R183, R204: what stands before the completion. -/
theorem readyToComplete_same (n : Nat) (s : State) : let d := readyToComplete n s
    d.posted = [] ∧ d.queue = ⟨1, 0, emptyStale⟩ ∧
    d.mem = Memory.writeList (restarted n s).mem 0x0110 (resyncUnit allStale 0#32) ∧ d.link.alertCause = 2#32 ∧
    d.power = restartPower s.power ∧ d.kbd = resetKeyboard s.kbd.keymap ∧ d.engineA.list = s.engineA.list ∧
    d.engineB.list = s.engineB.list ∧ d.chg.profile = s.chg.profile ∧ d.chg.mode = s.chg.mode ∧
    d.chg.inhibit = ⟨false, false, false⟩ ∧ d.th.table = s.th.table ∧ d.th.curves = s.th.curves ∧ d.tripActive = false ∧
    d.dsg.critical = s.dsg.critical := by
  have freed := within_restarted n s
  have told := within_publishAll (rewrittenRecords (restarted n s)) (warmValues (restarted n s))
  have queued : Within (.kbd :: reporting) _ (readyToComplete n s) := ((((within_emptyQueue _).next (within_setStale allStale _)
    (by simp)).next (within_placeResync _) (by simp)) :
      Within (.kbd :: reporting) (publishAll (rewrittenRecords (restarted n s)) (warmValues (restarted n s))) _)
  obtain ⟨mem, queue, cause, kbd⟩ := restartQueue_same
    (publishAll (rewrittenRecords (restarted n s)) (warmValues (restarted n s)))
  obtain ⟨x, y, c, eq, profile, mode, _, inhibit⟩ := warmValues_eq (restarted n s)
  obtain ⟨noCause, noTime, _⟩ := restarted_link n s
  have time : (publishAll (rewrittenRecords (restarted n s)) (warmValues (restarted n s))).link.partTime = 0#32 := by
    rw [(keeps_publishAll _ _).partTime, eq]
    exact noTime
  have w : Within (.kbd :: reporting) (warmValues (restarted n s)) (readyToComplete n s) :=
    (told.mono (by simp)).trans queued
  have listA : (restarted n s).engineA.list = s.engineA.list := by rw [show (restarted n s).engineA = _ from freed.engine .a (by simp)]; rfl
  have listB : (restarted n s).engineB.list = s.engineB.list := by rw [show (restarted n s).engineB = _ from freed.engine .b (by simp)]; rfl
  have th : (restarted n s).th = s.th := freed.th (by simp)
  have table : (restarted n s).th.table = s.th.table := by rw [th]
  have curves : (restarted n s).th.curves = s.th.curves := by rw [th]
  have chg : (restarted n s).chg = s.chg := freed.chg (by simp)
  have critical : (restarted n s).dsg.critical = s.dsg.critical := by rw [freed.dsg (by simp)]
  dsimp only
  refine ⟨?_, queue, ?_, ?_, ?_, ?_, ?_, ?_, ?_, ?_, ?_, ?_, ?_, ?_, ?_⟩
  · rw [w.posted (by simp), eq]
    exact freed.posted (by simp)
  · refine mem.trans ?_
    rw [time, told.mem (by simp), eq]
  · refine cause.trans ?_
    rw [told.causes (by simp), eq]
    dsimp only
    rw [noCause]
    decide
  · rw [w.power (by simp), eq]
    exact congrArg restartPower (freed.power (by simp))
  · refine kbd.trans ?_
    rw [told.kbd (by simp), eq]
    exact congrArg (fun k => resetKeyboard k.keymap) (freed.kbd (by simp))
  · rw [show (readyToComplete n s).engineA = _ from w.engine .a (by simp)]
    unfold State.engine
    dsimp only
    rw [eq]
    exact listA
  · rw [show (readyToComplete n s).engineB = _ from w.engine .b (by simp)]
    unfold State.engine
    dsimp only
    rw [eq]
    exact listB
  · rw [w.chg (by simp), eq]
    exact profile.trans (congrArg Charge.profile chg)
  · rw [w.chg (by simp), eq]
    exact mode.trans (congrArg Charge.mode chg)
  · rw [w.chg (by simp), eq]
    exact inhibit
  · rw [w.th (by simp), eq]
    exact table
  · rw [w.th (by simp), eq]
    exact curves
  · unfold State.tripActive
    rw [w.th (by simp), eq]
    rfl
  · rw [w.dsg (by simp), eq]
    exact critical

theorem keeps_toComplete (n : Nat) (s : State) : Keeps true (warmValues (restarted n s)) (readyToComplete n s) :=
  (keeps_publishAll _ _).trans (keeps_restartQueue _)

theorem canonical_readyToComplete {s : State} (wf : memoryCanonical s) (n : Nat) : memoryCanonical (readyToComplete n s) := by
  refine (keeps_toComplete n s).memory ?_
  obtain ⟨x, y, c, eq, _⟩ := warmValues_eq (restarted n s)
  rw [eq]
  exact canonical_freeSlots (s := { s with link := restartLink s.link, posted := [] }) wf n 16

/-- R183: the registers at the completion. -/
theorem readyToComplete_link (n : Nat) (s : State) : let d := readyToComplete n s
    d.link.partTime = 0#32 ∧ d.link.windowCtrl = s.link.windowCtrl ∧ d.link.alertEnable = s.link.alertEnable ∧
    d.link.lastProtocol = s.link.lastProtocol := by
  have k := keeps_toComplete n s
  obtain ⟨x, y, c, eq, _⟩ := warmValues_eq (restarted n s)
  rw [eq] at k
  obtain ⟨_, time, control, enable, offset⟩ := restarted_link n s
  exact ⟨k.partTime.trans time, k.windowCtrl.trans control, k.alertEnable.trans enable, k.lastProtocol.trans offset⟩

/-- The other slots at the completion. -/
theorem slotState_completed {s : State} (wf : memoryCanonical s) {n m : Nat} (other : m ≠ n) (slot : m < 16) :
    slotState (completeSlot n .ok 0 [] (readyToComplete n s)) m =
      if slotState s m = slotPosted ∨ slotState s m = slotActive ∨ slotState s m = slotCancel then slotFree
      else slotState s m := by
  have freed := slotState_freeSlots (s := { s with link := restartLink s.link, posted := [] }) wf n m 16
  rw [slotState_of_same ((within_completeSlot n .ok 0 [] _ fitsSlot_nil).slot m (by simp) (by simp [other]))]
  have ring : slotState (readyToComplete n s) m = slotState (restarted n s) m := by
    unfold slotState
    rw [(readyToComplete_same n s).2.2.1]
    exact read16_writeList_outside (by simp [resyncUnit, firstUnit, bytes32, slotBase]; omega)
  refine ring.trans (freed.trans ?_)
  simp only [slot, other, true_and, ne_eq, not_false_eq_true]
  rfl

theorem completeSlot_nil (n : Nat) (r : Result) (d : Nat) (s : State) :
    (completeSlot n r d [] s).posted = s.posted.filter (fun h => h.slot != n) ∧
    (completeSlot n r d [] s).link.alertCause = s.link.alertCause ||| 1#32 := ⟨rfl, rfl⟩

/-- Settles O51: the values of a warm restart, then the completion of its slot, which touches no other part. -/
theorem warmRestartTaken : Obligations.WarmRestartTaken := by
  intro n s high wf posted
  refine ⟨completeSlot n .ok 0 [] (readyToComplete n (taken n s)), event_takePost high posted, ?_⟩
  have wfTaken := canonical_taken wf n
  have w := within_completeSlot n .ok 0 [] (readyToComplete n (taken n s)) fitsSlot_nil
  have k := keeps_completeSlot n .ok 0 [] (readyToComplete n (taken n s))
  obtain ⟨noPosts, queue, mem, cause, power, kbd, listA, listB, profile, mode, inhibit, table, curves, trip, critical⟩ :=
    readyToComplete_same n (taken n s)
  obtain ⟨time, control, enable, offset⟩ := readyToComplete_link n (taken n s)
  have done := doneWith_completeSlot (canonical_readyToComplete wfTaken n) n .ok (d := 0) (by decide) []
  have noPower : (completeSlot n .ok 0 [] (readyToComplete n (taken n s))).power = restartPower s.power :=
    (w.power (by simp)).trans power
  refine ⟨done, ?_, (w.queue (by simp)).trans queue, ?_, ?_, k.partTime.trans time, k.windowCtrl.trans control,
    k.alertEnable.trans enable, k.lastProtocol.trans offset, noPower, ?_, ?_, ?_, ?_, ?_, ?_, ?_, (w.kbd (by simp)).trans kbd,
    (congrArg Engine.list (w.engine .a (by simp))).trans listA, (congrArg Engine.list (w.engine .b (by simp))).trans listB,
    (congrArg Charge.profile (w.chg (by simp))).trans profile, (congrArg Charge.mode (w.chg (by simp))).trans mode,
    (congrArg Charge.inhibit (w.chg (by simp))).trans inhibit, (congrArg Thermal.table (w.th (by simp))).trans table,
    (congrArg Thermal.curves (w.th (by simp))).trans curves,
    (congrArg (fun t => t.slots.any (·.tripped)) (w.th (by simp))).trans trip,
    (congrArg Discharge.critical (w.dsg (by simp))).trans critical, fun m slot other => ?_⟩
  · rw [(completeSlot_nil n _ _ _).1, noPosts]
    rfl
  · refine (List.map_congr_left fun i m => w.ring (by simp) _ ?_).trans ?_
    · rw [List.mem_range] at m
      unfold inRing
      omega
    · refine (congrArg (Memory.readList · 0x0110 8) mem).trans ?_
      exact readList_stored (canonical_freeSlots
        (s := { taken n s with link := restartLink s.link, posted := [] }) wfTaken n 16) 0x0110 (resyncUnit allStale 0#32)
  · rw [(completeSlot_nil n _ _ _).2, cause]
    decide
  · rw [noPower]; rfl
  · rw [noPower]; rfl
  · rw [noPower]; rfl
  · rw [noPower]; rfl
  · rw [noPower]; rfl
  · rw [noPower]; rfl
  · rw [noPower]; rfl
  · rw [slotState_completed wfTaken other slot, setSlotState_other other]

end Sys2Proof.Proofs.Restarts
end

section
/-! PROOF. The power fields after each move of the platform power controller (R4 to R13): one rule per move, as the fields before it
with those it writes. -/
set_option Elab.async false

namespace Sys2Proof.Proofs.PowerRules

open Sys2Proof Sys2Proof.Machine Sys2Proof.Safety Sys2Proof.Laws Sys2Proof.Proofs.Frames Sys2Proof.Proofs.Updates
  Sys2Proof.Proofs.Units

/-! ### Shutting down -/

/-- R6: the power fields on leaving a state for SHUTTING_DOWN, SUSPENDING or the like. -/
def leftRun (p : Power) : Power := if p.state = .run then leaveRun p else p

theorem leftRun_run {p : Power} (run : p.state = .run) : leftRun p = leaveRun p := if_pos run
theorem leftRun_other {p : Power} (other : p.state ≠ .run) : leftRun p = p := if_neg other

theorem powerAfter_leaves {new : PowerState} (out : new ≠ .run) (c : Cause) (f : Power → Power) (p : Power) :
    powerAfter new c f p = { f (leftRun p) with state := new, cause := c } := by
  unfold powerAfter leftRun
  simp [out]

/-- R8: the power fields of an entry to SHUTTING_DOWN, whatever of its steps is done at once. -/
def ShutDown (c : Cause) (p q : Power) : Prop := ∃ state cause step ms stby snap,
  (state = .shuttingDown ∨ state = .off) ∧ q = { shutdownFields c (leftRun p) with
    state := state, cause := cause, step := step, stepMs := ms, enStby := stby, snapshot := snap }

theorem reachOff_power (s : State) : (reachOff s).power = takeSnapshot { s.power with
    state := .off, cause := completionCause s.power, step := .none, stepMs := 0 } := by
  unfold reachOff
  dsimp only
  rw [(within_offer _ _).power (by simp), (within_emptyQueue _).power (by simp), (within_scanModeDecision _).power (by simp),
    updatingPower_power fun p => { p with state := .off, cause := completionCause s.power, step := .none, stepMs := 0 }]

/-- R8, step 3: the standby rail is dropped, and OFF reached where it is low already. -/
theorem dropStandby_power (s : State) :
    (s.pins.pgStby = true → (dropStandby s).power = { s.power with enStby := false, step := .stbyLow, stepMs := 0 }) ∧
    (s.pins.pgStby = false → (dropStandby s).power = takeSnapshot { s.power with
      enStby := false, state := .off, cause := completionCause s.power, step := .none, stepMs := 0 }) := by
  unfold dropStandby
  dsimp only
  constructor
  · intro high
    rw [if_pos high]
  · intro low
    rw [if_neg (by simp [low]), reachOff_power]
    rfl

theorem changePower_pins (new : PowerState) (c : Cause) (f : Power → Power) (s : State)
    (levels : ∀ p, (f p).levels = p.levels) (straps : ∀ p, (f p).straps = p.straps) :
    (changePower new c f s).pins = s.pins := (mid_changePower new c f s levels straps).pins

theorem enterShutdown_eq {c : Cause} {s : State} (can : canShutDown s.power.state = true) : enterShutdown c s =
    let s1 := changePower .shuttingDown c (shutdownFields c) s
    if s1.pins.pgMain then s1 else dropStandby s1 := if_pos can

theorem enterShutdown_not {c : Cause} {s : State} (not : canShutDown s.power.state = false) : enterShutdown c s = s :=
  if_neg (by simp [not])

theorem shuttingDown_power (c : Cause) (s : State) : (changePower .shuttingDown c (shutdownFields c) s).power =
    { shutdownFields c (leftRun s.power) with state := .shuttingDown, cause := c } := by
  rw [changePower_power, powerAfter_leaves (by simp)]

/-- R8: with PG_MAIN still high the entry waits for it. -/
theorem enterShutdown_mainHigh {c : Cause} {s : State} (can : canShutDown s.power.state = true) (main : s.pins.pgMain = true) :
    (enterShutdown c s).power = { shutdownFields c (leftRun s.power) with state := .shuttingDown, cause := c } := by
  have pins := changePower_pins .shuttingDown c (shutdownFields c) s (fun _ => rfl) (fun _ => rfl)
  rw [enterShutdown_eq can]
  dsimp only
  rw [pins, if_pos main, shuttingDown_power]

theorem enterShutdown_power {c : Cause} {s : State} (can : canShutDown s.power.state = true) :
    ShutDown c s.power (enterShutdown c s).power := by
  rw [enterShutdown_eq can]
  dsimp only
  have entered := shuttingDown_power c s
  split
  · exact ⟨_, _, _, _, _, _, .inl rfl, entered⟩
  · obtain ⟨high, low⟩ := dropStandby_power (changePower .shuttingDown c (shutdownFields c) s)
    cases stby : (changePower .shuttingDown c (shutdownFields c) s).pins.pgStby
    · rw [low stby, entered]
      exact ⟨_, _, _, _, _, _, .inr rfl, rfl⟩
    · rw [high stby, entered]
      exact ⟨_, _, _, _, _, _, .inl rfl, rfl⟩

theorem shutDownWith_of {c : Cause} {p : Power} {t : State} (down : ShutDown c p t.power) : shutDownWith t c := by
  obtain ⟨_, _, _, _, _, _, state, eq⟩ := down
  unfold shutDownWith
  rw [eq]
  exact ⟨state, rfl, rfl, rfl, rfl, rfl⟩

theorem shutDownWith_enterShutdown {c : Cause} {s : State} (can : canShutDown s.power.state = true) :
    shutDownWith (enterShutdown c s) c := shutDownWith_of (enterShutdown_power can)

/-! ### Waking -/

theorem raiseMain_power (s : State) : ∃ seen step, (raiseMain s).power =
    { s.power with enMain := true, seenMain := seen, step := step, stepMs := 0 } := by
  unfold raiseMain beginHold
  dsimp only
  split
  · exact ⟨_, _, rfl⟩
  · exact ⟨_, _, rfl⟩

/-- R5, R13: the power fields of a wake with the record `l`. -/
def Woken (l : List Factor) (first : Option Factor) (p q : Power) : Prop := ∃ stby main enMain step, q = { p with
  state := .waking, cause := .wake, wakeFactors := l, wakeFirst := first, pendingWake := [], seqCause := .wake
  timedOut := false, seenStby := stby, seenMain := main, enStby := true, enMain := enMain, step := step, stepMs := 0 }

theorem woken_raiseMain {l : List Factor} {first : Option Factor} {p : Power} {s : State} (w : Woken l first p s.power) :
    Woken l first p (raiseMain s).power := by
  obtain ⟨_, _, _, _, before⟩ := w
  obtain ⟨_, _, after⟩ := raiseMain_power s
  rw [before] at after
  exact ⟨_, _, _, _, after⟩

theorem woken_standbyUp {l : List Factor} {first : Option Factor} {p : Power} {s : State} (w : Woken l first p s.power) :
    Woken l first p (standbyUp s).power := by
  refine woken_raiseMain (s := { s with power := { s.power with seenStby := true } }) ?_
  obtain ⟨_, _, _, _, before⟩ := w
  dsimp only
  rw [before]
  exact ⟨_, _, _, _, rfl⟩

theorem woken_changePower {l : List Factor} {first : Option Factor} {s : State} {f : Power → Power}
    (out : s.power.state ≠ .run)
    (fields : ∃ stby step, f s.power = { s.power with
      wakeFactors := l, wakeFirst := first, pendingWake := [], seqCause := .wake, timedOut := false
      seenStby := stby, seenMain := false, enStby := true, step := step, stepMs := 0 }) :
    Woken l first s.power (changePower .waking .wake f s).power := by
  obtain ⟨_, _, eq⟩ := fields
  rw [changePower_power, powerAfter_leaves (by simp), leftRun_other out, eq]
  exact ⟨_, _, _, _, rfl⟩

theorem enterWaking_power {l : List Factor} {first : Option Factor} {s : State} (out : s.power.state ≠ .run) :
    Woken l first s.power (enterWaking l first s).power := by
  unfold enterWaking
  dsimp only
  split
  · split
    · exact woken_standbyUp (woken_changePower out ⟨_, _, rfl⟩)
    · exact woken_changePower out ⟨_, _, rfl⟩
  · exact woken_raiseMain (woken_changePower out ⟨_, _, rfl⟩)

/-- R13: a wake takes the pending set with the factors that arrive. -/
theorem takeWake_power (fs : List Factor) {s : State} (out : s.power.state ≠ .run) : ∃ l,
    Woken l l.head? s.power (takeWake fs s).power ∧ (∀ f ∈ fs, f ∈ l) ∧
      (s.power.pendingWake ≠ [] → l.head? = s.power.pendingWake.head?) := by
  obtain ⟨l, power, mem, head, _⟩ := latch_power (fs ++ if s.power.state = .sleep then sleepConditions s else offConditions s) s
  have still : (latch (fs ++ if s.power.state = .sleep then sleepConditions s else offConditions s) s).power.state ≠ .run := by
    rw [power]
    exact out
  have woken := enterWaking_power (l := l) (first := l.head?) still
  refine ⟨l, ?_, fun f m => mem f (List.mem_append_left _ m), head⟩
  obtain ⟨stby, main, enMain, step, eq⟩ := woken
  refine ⟨stby, main, enMain, step, ?_⟩
  unfold takeWake
  dsimp only
  rw [power] at eq ⊢
  exact eq

theorem wokenBy_of {l : List Factor} {first : Option Factor} {p : Power} {t : State} {f : Factor}
    (woken : Woken l first p t.power) (own : f ∈ l) : wokenBy t f := by
  obtain ⟨_, _, _, _, eq⟩ := woken
  unfold wokenBy
  rw [eq]
  exact ⟨rfl, rfl, own, rfl⟩

theorem wokenBy_takeWake {fs : List Factor} {f : Factor} {s : State} (out : s.power.state ≠ .run) (own : f ∈ fs) :
    wokenBy (takeWake fs s) f := by
  obtain ⟨l, woken, mem, _⟩ := takeWake_power fs out
  exact wokenBy_of woken (mem f own)

/-! ### Sleeping -/

theorem sleeping_power (s : State) : (changePower .sleep (completionCause s.power)
    (fun p => { p with step := .none, stepMs := 0 }) s).power =
      { leftRun s.power with step := .none, stepMs := 0, state := .sleep, cause := completionCause s.power } := by
  rw [changePower_power, powerAfter_leaves (by simp)]

theorem leftRun_pendingWake (p : Power) : (leftRun p).pendingWake = p.pendingWake := by
  unfold leftRun
  split <;> rfl

/-- R7, step 3: SLEEP without a pending wake. -/
theorem reachSleep_rests {s : State} (none : s.power.pendingWake = []) : (reachSleep s).power =
    { leftRun s.power with step := .none, stepMs := 0, state := .sleep, cause := completionCause s.power } := by
  unfold reachSleep
  dsimp only
  rw [if_pos, sleeping_power]
  rw [sleeping_power]
  exact (leftRun_pendingWake _).trans none

/-- R7, step 3: a pending wake is taken at once, its first factor first. -/
theorem reachSleep_wakes {s : State} (some_ : s.power.pendingWake ≠ []) : ∃ l,
    Woken l l.head? { leftRun s.power with step := .none, stepMs := 0, state := .sleep, cause := completionCause s.power }
      (reachSleep s).power ∧ l.head? = s.power.pendingWake.head? := by
  have slept := sleeping_power s
  have pending : (changePower .sleep (completionCause s.power) (fun p => { p with step := .none, stepMs := 0 }) s).power.pendingWake =
      s.power.pendingWake := by
    rw [slept]
    exact leftRun_pendingWake _
  obtain ⟨l, woken, _, head⟩ := takeWake_power (s := changePower .sleep (completionCause s.power)
    (fun p => { p with step := .none, stepMs := 0 }) s) [] (by rw [slept]; simp)
  unfold reachSleep
  dsimp only
  rw [if_neg (by rw [pending]; exact some_)]
  rw [slept] at woken
  exact ⟨l, woken, (head (by rw [pending]; exact some_)).trans (congrArg List.head? pending)⟩

/-! ### Boost and scan mode -/

theorem endBoost_boostMs (s : State) : (endBoost s).th.boostMs = none := by
  unfold endBoost
  split
  · unfold setBoost updatingFans
    rw [commit_th, commit_th]
  · next off => simpa using off

/-- R156: a change of power state out of RUN ends boost. -/
theorem changePower_boost {new : PowerState} {s : State} (left : leaves s new = true) (c : Cause) (f : Power → Power) :
    (changePower new c f s).th.boostMs = none := by
  rw [changePower_eq]
  refine anyOrder_establishes (P := fun _ => True) (Q := fun x => x.th.boostMs = none) (fun x _ => ?_) (fun _ _ => trivial)
    (fun x q => ?_) (fun _ _ => trivial) (fun x q => ?_) trivial
  · rw [if_pos left]
    exact endBoost_boostMs _
  · split
    · rw [(withdrawOverrides_same x).2]
      exact q
    · exact q
  · rw [(within_offer _ x).th (by simp)]
    exact q

theorem decideMode_idle {s : State} (h : s.power.state = .waking ∨ s.power.state = .suspending ∨ s.power.state = .shuttingDown) :
    decideMode s = .idle := by
  unfold decideMode
  split
  · rcases h with h | h | h <;> rw [h]
  · rfl

theorem decideMode_run {s : State} (run : s.power.state = .run) : decideMode s = if s.lidOpen then .full else .idle := by
  unfold decideMode
  rw [run]

/-- R31: a decision that leaves another mode than FULL reports nothing. -/
theorem scanModeDecision_quiet {s : State} (mode : s.kbd.mode ≠ .full) :
    (scanModeDecision s).mem = s.mem ∧ (scanModeDecision s).queue = s.queue := by
  have left : (leaveMode s).mem = s.mem ∧ (leaveMode s).queue = s.queue := by
    unfold leaveMode
    split
    · exact ⟨rfl, rfl⟩
    · next full => exact absurd full mode
    · exact ⟨rfl, rfl⟩
  have entered : ∀ m x, (enterMode m x).mem = x.mem ∧ (enterMode m x).queue = x.queue := fun m x => by
    cases m <;> exact ⟨rfl, rfl⟩
  obtain ⟨emem, equeue⟩ := entered (decideMode s) (leaveMode s)
  unfold scanModeDecision
  split
  · exact ⟨rfl, rfl⟩
  · unfold updating
    rw [commit_mem, commit_queue]
    exact ⟨emem.trans left.1, equeue.trans left.2⟩

end Sys2Proof.Proofs.PowerRules
end

section
/-! PROOF. The commands of the platform power controller (R2 to R25), each by the rule for the move that it makes. -/
set_option Elab.async false

namespace Sys2Proof.Proofs.PowerCommands

open Sys2Proof Sys2Proof.Machine Sys2Proof.Safety Sys2Proof.Laws Sys2Proof.Proofs.Frames Sys2Proof.Proofs.Updates
  Sys2Proof.Proofs.Units Sys2Proof.Proofs.ScanModes Sys2Proof.Proofs.PowerRules Sys2Proof.Proofs.Commands

/-! ### The frame of a change of power state -/

theorem frame_powering {s u : State} (w : Within powering s u) : samePacks s u ∧ sameEngines s u ∧ sameButQueue s u :=
  ⟨w.samePacks (by simp) (by simp), w.sameEngines (by simp) (by simp) (by simp), w.sameButQueue (by simp) (by simp) (by simp)⟩

/-! ### The suspend delay -/

theorem delayExpires_of {s : State} {d : SuspendDelay} (delay : s.power.delay = some d) :
    (d.target = .off → delayExpires s = enterShutdown .request s) ∧
    (d.target = .sleep → delayExpires s = enterSuspending s) := by
  unfold delayExpires
  rw [delay]
  exact ⟨fun h => by simp only [h], fun h => by simp only [h]⟩

/-- R7: the fields of the entry to SUSPENDING. -/
def suspendFields (p : Power) : Power := { p with
  seqCause := .request, timedOut := false, hrstAsserted := true, enMain := false, step := .mainLow, stepMs := 0 }

theorem enterSuspending_mainHigh {s : State} (main : s.pins.pgMain = true) :
    enterSuspending s = changePower .suspending .request suspendFields s := by
  have pins := changePower_pins .suspending .request suspendFields s (fun _ => rfl) (fun _ => rfl)
  show (if (changePower .suspending .request suspendFields s).pins.pgMain = true then _ else _) = _
  rw [pins, if_pos main]
  rfl

theorem suspending_power (s : State) : (changePower .suspending .request suspendFields s).power =
    { suspendFields (leftRun s.power) with state := .suspending, cause := .request } := by
  rw [changePower_power, powerAfter_leaves (by simp)]

/-- Settles O15: the entry that the delay's target names. -/
theorem suspendDelayExpiryLeavesRun : Obligations.SuspendDelayExpiryLeavesRun := by
  intro d s high delay run
  obtain ⟨off, sleep⟩ := delayExpires_of delay
  obtain ⟨packs, engines, ring⟩ := frame_powering (within_delayExpires s)
  have levels := (mid_delayExpires s).levels
  refine ⟨delayExpires s, event_next _ s high, fun target => ?_, fun target main => ?_, packs, engines, ring, levels⟩
  · have can : canShutDown s.power.state = true := by rw [run]; rfl
    rw [off target]
    obtain ⟨_, _, _, _, _, _, _, eq⟩ := enterShutdown_power (c := .request) can
    refine ⟨shutDownWith_enterShutdown can, ?_, ?_⟩ <;> rw [eq, leftRun_run run] <;> rfl
  · rw [sleep target, enterSuspending_mainHigh main]
    have power := suspending_power s
    rw [leftRun_run run] at power
    have mode : (changePower .suspending .request suspendFields s).kbd.mode = .idle := by
      refine (changePower_decided .suspending .request suspendFields s).trans (decideMode_idle (.inr (.inl ?_)))
      rw [power]
    have boost := changePower_boost (new := .suspending) (s := s) (by simp [leaves, run]) .request suspendFields
    rw [power]
    exact ⟨rfl, rfl, rfl, rfl, rfl, rfl, rfl, rfl, rfl, rfl, mode, boost⟩

/-! ### Forced shutdowns -/

theorem combinationOff_of_state {before : PowerState} {s : State} (on : s.power.state ≠ .off) : combinationOff before s = false := by
  simp [combinationOff, on]

/-- R19: an event that does not end a combination shutdown. -/
theorem withCombinationRestart_none {f : State → State} {s : State} (none : combinationOff s.power.state (f s) = false) :
    withCombinationRestart f s = f s := by
  unfold withCombinationRestart
  dsimp only
  rw [none]
  rfl

/-- R17: the long press. -/
theorem longPress_acts {s : State} (can : canShutDown s.power.state = true) : shutDownWith (longPress s) .longPress ∧
    (longPress s).power.ignore = true ∧ (longPress s).power.reported = false := by
  have down := shutDownWith_enterShutdown (c := .longPress) can
  refine ⟨down, rfl, ?_⟩
  unfold longPress
  simp [can]

theorem longPress_blocked {s : State} (not : canShutDown s.power.state = false) :
    longPress s = { s with power := { s.power with ignore := true } } := by
  unfold longPress
  dsimp only
  rw [not, enterShutdown_not not]
  rfl

/-- Settles O16: the long press, then the two timers that shut RUN down. -/
theorem forcedShutdowns : Obligations.ForcedShutdowns := by
  refine ⟨fun s high held noIgnore => ?_, fun s high run main => ⟨fun combo => ?_, fun grace => ?_⟩⟩
  · obtain ⟨packs, engines, ring⟩ := frame_powering (within_longPressExpires s)
    refine ⟨longPressExpires s, (event_next _ s high).trans (by rw [held, noIgnore]; rfl), fun noCombo can => ?_,
      fun noCombo not => ?_, fun combo => ?_, packs, engines, ring⟩
    · have acts : longPressExpires s = longPress (holdReached s) := if_neg (by simp [noCombo])
      rw [acts]
      exact longPress_acts (s := holdReached s) can
    · have acts : longPressExpires s = longPress (holdReached s) := if_neg (by simp [noCombo])
      rw [acts, longPress_blocked (s := holdReached s) not]
      exact ⟨rfl, rfl, rfl, rfl, rfl⟩
    · have held : longPressExpires s = holdReached s := if_pos combo
      rw [held]
      exact ⟨rfl, noIgnore, rfl⟩
  · have can : canShutDown s.power.state = true := by rw [run]; rfl
    have power := enterShutdown_mainHigh (c := .combination)
      (s := { s with power := { s.power with comboMs := none, ignore := true } }) can main
    have plain : withCombinationRestart comboExpires s = comboExpires s :=
      withCombinationRestart_none (combinationOff_of_state (by unfold comboExpires; rw [power]; simp))
    obtain ⟨packs, engines, ring⟩ := frame_powering (within_comboExpires s)
    refine ⟨comboExpires s, (event_next _ s high).trans (by rw [combo]; exact congrArg (fun x => Host.Outcome.next (settle x)) plain),
      shutDownWith_enterShutdown can, ?_, ?_, packs, engines, ring⟩
    · unfold comboExpires
      rw [power, leftRun_run (p := { s.power with comboMs := none, ignore := true }) run]
      rfl
    · unfold comboExpires
      rw [power, leftRun_run (p := { s.power with comboMs := none, ignore := true }) run]
      rfl
  · obtain ⟨packs, engines, ring⟩ := frame_powering (within_enterShutdown .critical s)
    exact ⟨enterShutdown .critical s, (event_next _ s high).trans (by rw [grace]; rfl),
      shutDownWith_enterShutdown (by rw [run]; rfl), packs, engines, ring⟩

/-! ### Waking -/

theorem powerGood_setPowerGood (r : Rail) (b : Bool) (s : State) : powerGood (setPowerGood r b s) r = b := by cases r <;> rfl

/-- R5: what a rise makes of the wait in progress. -/
theorem powerGoodUp_cases (r : Rail) (s : State) :
    (r = .stby → s.power.step = .stbyHigh → powerGoodUp r s = standbyUp s) ∧
    (r = .main → s.power.step = .mainHigh → powerGoodUp r s = beginHold s) ∧
    (¬ (r = .stby ∧ s.power.step = .stbyHigh) → ¬ (r = .main ∧ s.power.step = .mainHigh) → powerGoodUp r s = s) := by
  unfold powerGoodUp
  refine ⟨fun rail step => by rw [step, rail], fun rail step => by rw [step, rail], fun noStby noMain => ?_⟩
  split
  · next step => exact absurd ⟨rfl, step⟩ noStby
  · next step => exact absurd ⟨rfl, step⟩ noMain
  · rfl

theorem standbyUp_same (s : State) : (∃ p, standbyUp s = { s with power := p }) ∧ (standbyUp s).power.state = s.power.state ∧
    (standbyUp s).power.enMain = true ∧ (standbyUp s).power.seenStby = true ∧
    (standbyUp s).power.step = if s.pins.pgMain then .resetHold else .mainHigh := by
  unfold standbyUp raiseMain beginHold
  dsimp only
  cases s.pins.pgMain
  · exact ⟨⟨_, rfl⟩, rfl, rfl, rfl, rfl⟩
  · exact ⟨⟨_, rfl⟩, rfl, rfl, rfl, rfl⟩

theorem setPowerGood_same (r : Rail) (b : Bool) (s : State) : ∃ pins, setPowerGood r b s = { s with pins := pins } := by
  cases r <;> exact ⟨_, rfl⟩

theorem powerGood_of_pins {s t : State} (pins : t.pins = s.pins) (r : Rail) : powerGood t r = powerGood s r := by
  cases r <;> simp [powerGood, pins]

/-- R5, step 4, R23: RUN is reached. -/
theorem reachRun_power (s : State) : ∃ grace, (reachRun s).power = { s.power with
      hrstAsserted := false, step := .none, stepMs := 0, state := .run, cause := completionCause s.power, graceMs := grace } ∧
    (s.dsg.critical = true → grace = some 0) := by
  have changed : (changePower .run (completionCause s.power)
      (fun p => { p with hrstAsserted := false, step := .none, stepMs := 0 }) s).power = { s.power with
        hrstAsserted := false, step := .none, stepMs := 0, state := .run, cause := completionCause s.power } := by
    rw [changePower_power]
    unfold powerAfter
    rw [if_neg (by simp)]
  have w := within_changePower .run (completionCause s.power)
    (fun p => { p with hrstAsserted := false, step := .none, stepMs := 0 }) s (T := .keys :: waking) (by simp)
    (fun l => by simp [leaves] at l) (fun _ => by simp)
  unfold reachRun
  dsimp only
  rw [(within_offer _ _).dsg (by simp), w.dsg (by simp)]
  split
  · refine ⟨some 0, ?_, fun _ => rfl⟩
    unfold criticalNotice
    rw [(within_offer _ _).power (by simp), updatingPower_power fun p => { p with graceMs := some 0 },
      (within_offer _ _).power (by simp), changed]
  · next calm =>
    refine ⟨s.power.graceMs, ?_, fun on => absurd on calm⟩
    rw [(within_offer _ _).power (by simp), changed]

theorem decided_reachRun (s : State) : scanModeDecided (reachRun s) := by
  unfold reachRun
  dsimp only
  have decided := (within_offer (.wake (changePower .run (completionCause s.power)
    (fun p => { p with hrstAsserted := false, step := .none, stepMs := 0 }) s).power.wakeFactors (changePower .run
      (completionCause s.power) (fun p => { p with hrstAsserted := false, step := .none, stepMs := 0 }) s).power.wakeFirst) _).mode
    (by simp) (changePower_decided .run (completionCause s.power)
      (fun p => { p with hrstAsserted := false, step := .none, stepMs := 0 }) s)
  split
  · exact (within_criticalNotice _).mode (by simp) decided
  · exact decided

/-- Settles O13: the two rises that end a wait, any other rise, and the end of the hold. -/
theorem wakingSteps : Obligations.WakingSteps := by
  refine ⟨fun rail s high low => ?_, fun s high hold => ?_⟩
  · have run : exec (.powerGoodRise rail) s = .next (settle (powerGoodUp rail (setPowerGood rail true s))) := by
      show execPowerGoodRise rail s = _
      unfold execPowerGoodRise
      rw [if_neg (by simp [low]), if_neg (by simp [high])]
    obtain ⟨stby, main, other⟩ := powerGoodUp_cases rail (setPowerGood rail true s)
    obtain ⟨pins, moved⟩ := setPowerGood_same rail true s
    have good := powerGood_setPowerGood rail true s
    refine ⟨_, run, ?_⟩
    by_cases first : rail = .stby ∧ s.power.step = .stbyHigh
    · obtain ⟨rfl, step⟩ := first
      obtain ⟨⟨p, only⟩, state, en, seen, next⟩ := standbyUp_same (setPowerGood .stby true s)
      rw [stby rfl step]
      refine ⟨?_, ⟨_, _, by rw [only]; rfl⟩, state, by rw [only]; rfl, by rw [only]; rfl, fun _ _ => ⟨en, seen, next⟩,
        fun h => absurd h (by simp), fun no => absurd ⟨rfl, step⟩ no⟩
      rw [only]
      rfl
    · by_cases second : rail = .main ∧ s.power.step = .mainHigh
      · obtain ⟨rfl, step⟩ := second
        rw [main rfl step]
        exact ⟨rfl, ⟨_, _, rfl⟩, rfl, rfl, rfl, fun h => absurd h (by simp), fun _ _ => ⟨rfl, rfl, rfl⟩,
          fun _ no => absurd ⟨rfl, step⟩ no⟩
      · have still := other (by rw [moved]; exact first) (by rw [moved]; exact second)
        rw [still]
        refine ⟨good, ⟨_, _, moved⟩, by rw [moved], by rw [moved], by rw [moved], fun r h => absurd ⟨r, h⟩ first,
          fun r h => absurd ⟨r, h⟩ second, fun _ _ => rfl⟩
  · obtain ⟨grace, power, critical⟩ := reachRun_power s
    have w := within_reachRun s
    have decided := decided_reachRun s
    have mode : (reachRun s).kbd.mode = if (reachRun s).lidOpen then .full else .idle :=
      decided.trans (decideMode_run (by rw [power]))
    have lid : (reachRun s).lidOpen = s.lidOpen := congrArg (·.levels.lid) power
    rw [lid] at mode
    refine ⟨reachRun s, (event_next _ s high).trans (by rw [hold]; rfl), ?_⟩
    rw [power]
    exact ⟨rfl, rfl, rfl, rfl, mode, rfl, rfl, critical, rfl, w.sameBus (by simp) (by simp), w.samePacks (by simp) (by simp),
      w.sameControl (by simp) (by simp), w.sameButQueue (by simp) (by simp) (by simp), w.posted (by simp)⟩

end Sys2Proof.Proofs.PowerCommands
end

section
/-! PROOF. The lid, the auxiliary input and the power button (R2, R16), and the falls and time limits of the rails (R5 to R8, R19). -/
set_option Elab.async false

namespace Sys2Proof.Proofs.ButtonsAndRails

open Sys2Proof Sys2Proof.Machine Sys2Proof.Safety Sys2Proof.Laws Sys2Proof.Proofs.Frames Sys2Proof.Proofs.Updates
  Sys2Proof.Proofs.Units Sys2Proof.Proofs.ScanModes Sys2Proof.Proofs.PowerRules Sys2Proof.Proofs.Commands
  Sys2Proof.Proofs.PowerCommands Sys2Proof.Proofs.Restarts Sys2Proof.Proofs.Reports

/-! ### A published level -/

theorem publishLevel_power (i : FilteredInput) (s : State) :
    (publishLevel i s).power = completeCount i s.power s.pins.inputs := commitPower_power _ _

theorem publishLevel_same (i : FilteredInput) (s : State) : (publishLevel i s).mem = s.mem ∧
    (publishLevel i s).queue = s.queue ∧ (publishLevel i s).kbd = s.kbd :=
  ⟨commitPower_mem _ _, commitPower_queue _ _, commitPower_kbd _ _⟩

/-! ### The lid and the auxiliary input -/

/-- R2: the record of the lid's change. -/
def lidNotice (s : State) : State := if s.power.state = .run then offer (.lid s.lidOpen) s else s

theorem lidChange_eq (s : State) : lidChange s = eitherOrder lidNotice scanModeDecision (publishLevel .lid s) := rfl

theorem within_lidReactions (s : State) :
    Within [.causes, .mem, .ring, .queue, .kbd, .matrix] s (eitherOrder lidNotice scanModeDecision s) :=
  within_eitherOrder (fun x => (within_lidNotice x).mono (by simp)) within_scanModeDecision s

theorem lidNotice_none {s : State} (out : s.power.state ≠ .run) : lidNotice s = s := if_neg out

/-- R2: out of RUN, and with no key to sweep, the lid's change reports nothing. -/
theorem lidReactions_quiet {s : State} (out : s.power.state ≠ .run) (mode : s.kbd.mode ≠ .full) :
    (eitherOrder lidNotice scanModeDecision s).queue = s.queue ∧ (eitherOrder lidNotice scanModeDecision s).mem = s.mem := by
  obtain ⟨mem, queue⟩ := scanModeDecision_quiet (s := useTurn s) mode
  have decided : (scanModeDecision (useTurn s)).power.state ≠ .run := by
    rw [(within_scanModeDecision _).power (by simp)]
    exact out
  unfold eitherOrder
  split
  · rw [lidNotice_none (s := useTurn s) out]
    exact ⟨queue, mem⟩
  · rw [lidNotice_none decided]
    exact ⟨queue, mem⟩

/-- Settles O9: a published level, then the lid's two reactions; the auxiliary input has none. -/
theorem lidAndAuxTakeLevels : Obligations.LidAndAuxTakeLevels := by
  refine ⟨fun s high runs => ?_, fun s high runs => ?_⟩
  · have after := within_lidReactions (publishLevel .lid s)
    have power : (lidChange s).power = completeCount .lid s.power s.pins.inputs :=
      (after.power (by simp)).trans (publishLevel_power .lid s)
    obtain ⟨mem, queue, kbd⟩ := publishLevel_same .lid s
    have w : Within [.causes, .mem, .ring, .queue, .power, .kbd, .matrix, .mode, .keys] s (lidChange s) :=
      Within.mono ((within_publishLevel_lid s).then after) (by simp)
    refine ⟨lidChange s, (event_next _ s high).trans (by rw [runs]; rfl), by rw [power]; rfl, by rw [power]; rfl,
      decided_lidChange s, power, fun out mode => ?_, w.sameBus (by simp) (by simp), w.samePacks (by simp) (by simp),
      w.sameControl (by simp) (by simp), w.sameButQueue (by simp) (by simp) (by simp), w.posted (by simp)⟩
    have quiet := lidReactions_quiet (s := publishLevel .lid s) (by rw [publishLevel_power]; exact out) (by rw [kbd]; exact mode)
    rw [queue, mem] at quiet
    exact quiet
  · have w := within_publishLevel .wakeAux s (by simp)
    exact ⟨publishLevel .wakeAux s, (event_next _ s high).trans (by rw [runs]; rfl), publishLevel_power .wakeAux s,
      w.mem (by simp), w.queue (by simp), w.kbd (by simp), w.posted (by simp), w.sameBus (by simp) (by simp),
      w.samePacks (by simp) (by simp), w.sameControl (by simp) (by simp)⟩

/-! ### The button -/

theorem latch_queue (fs : List Factor) (s : State) : (latch fs s).queue = s.queue := (within_latch fs s).queue (by simp)

theorem powerOn_cases (f : Factor) (s : State) : (s.tripActive = true → powerOn f s = s) ∧
    (s.tripActive = false → powerOn f s = takeWake [f] s) :=
  ⟨fun trip => if_pos trip, fun calm => if_neg (by simp [calm])⟩

/-- R16: the state in which the press is looked at. -/
def pressed (s : State) : State := { s with power := { s.power with heldMs := some 0 } }

/-- R16: a press that is not ignored, by the power state. -/
theorem buttonPress_counts {s : State} (counts : s.power.ignore = false) : buttonPress s =
    match s.power.state with
    | .run => if sleepDelay s.power then latch [.pwrbtn] (pressed s)
      else offer (.button true) { pressed s with power := { (pressed s).power with reported := true } }
    | .suspending => latch [.pwrbtn] (pressed s)
    | .sleep => takeWake [.pwrbtn] (pressed s)
    | .off => powerOn .pwrbtn (pressed s)
    | .waking | .shuttingDown => pressed s := by
  unfold buttonPress
  rw [if_neg (by simp [counts])]
  rfl

/-- R16: what a press does in each power state. -/
theorem buttonPress_cases {s : State} (counts : s.power.ignore = false) :
    (s.power.state = .run → sleepDelay s.power = false → (buttonPress s).power =
      { s.power with heldMs := some 0, reported := true }) ∧
    (s.power.state = .run ∧ sleepDelay s.power = true ∨ s.power.state = .suspending →
      buttonPress s = latch [.pwrbtn] (pressed s)) ∧
    (s.power.state = .sleep ∨ s.power.state = .off ∧ s.tripActive = false →
      buttonPress s = takeWake [.pwrbtn] (pressed s)) ∧
    (s.power.state = .off ∧ s.tripActive = true ∨ s.power.state = .waking ∨ s.power.state = .shuttingDown →
      buttonPress s = pressed s) := by
  rw [buttonPress_counts counts]
  refine ⟨fun run awake => ?_, fun waits => ?_, fun sleeps => ?_, fun rests => ?_⟩
  · generalize target : ({ s.power with heldMs := some 0, reported := true } : Power) = p
    simp only [run, awake]
    rw [if_neg (by simp), (within_offer _ _).power (by simp)]
    exact target
  · rcases waits with ⟨run, delay⟩ | suspending
    · simp only [run, delay, if_true]
    · simp only [suspending]
  · rcases sleeps with sleep | ⟨off, calm⟩
    · simp only [sleep]
    · simp only [off]
      exact (powerOn_cases .pwrbtn (pressed s)).2 calm
  · rcases rests with ⟨off, trip⟩ | waking | down
    · simp only [off]
      exact (powerOn_cases .pwrbtn (pressed s)).1 trip
    · simp only [waking]
    · simp only [down]

/-- R16: a press keeps the levels and the counts, and starts the long press. -/
theorem buttonPress_kept {s : State} (counts : s.power.ignore = false) : (buttonPress s).power.levels = s.power.levels ∧
    (buttonPress s).power.counts = s.power.counts ∧ (buttonPress s).power.heldMs = some 0 := by
  obtain ⟨awake, waits, sleeps, rests⟩ := buttonPress_cases counts
  have latched : buttonPress s = latch [.pwrbtn] (pressed s) → (buttonPress s).power.levels = s.power.levels ∧
      (buttonPress s).power.counts = s.power.counts ∧ (buttonPress s).power.heldMs = some 0 := fun eq => by
    obtain ⟨l, power, _⟩ := latch_power [.pwrbtn] (pressed s)
    rw [eq, power]
    exact ⟨rfl, rfl, rfl⟩
  have woken : s.power.state ≠ .run → buttonPress s = takeWake [.pwrbtn] (pressed s) →
      (buttonPress s).power.levels = s.power.levels ∧ (buttonPress s).power.counts = s.power.counts ∧
      (buttonPress s).power.heldMs = some 0 := fun out eq => by
    obtain ⟨l, ⟨_, _, _, _, power⟩, _⟩ := takeWake_power (s := pressed s) [.pwrbtn] out
    rw [eq, power]
    exact ⟨rfl, rfl, rfl⟩
  have resting : buttonPress s = pressed s → (buttonPress s).power.levels = s.power.levels ∧
      (buttonPress s).power.counts = s.power.counts ∧ (buttonPress s).power.heldMs = some 0 := fun eq => by
    rw [eq]
    exact ⟨rfl, rfl, rfl⟩
  cases state : s.power.state with
  | run =>
    cases delay : sleepDelay s.power
    · rw [awake state delay]
      exact ⟨rfl, rfl, rfl⟩
    · exact latched (waits (.inl ⟨state, delay⟩))
  | suspending => exact latched (waits (.inr state))
  | sleep => exact woken (by simp [state]) (sleeps (.inl state))
  | off =>
    cases trip : s.tripActive
    · exact woken (by simp [state]) (sleeps (.inr ⟨state, trip⟩))
    · exact resting (rests (.inl ⟨state, trip⟩))
  | waking => exact resting (rests (.inr (.inl state)))
  | shuttingDown => exact resting (rests (.inr (.inr state)))

theorem buttonPress_ignored {s : State} (ignore : s.power.ignore = true) : buttonPress s = s := if_pos ignore

/-- R16: a release. -/
theorem buttonRelease_same (s : State) : (buttonRelease s).power = { s.power with
      heldMs := none, comboMs := none, ignore := false, reported := false } ∧
    (s.power.reported = false ∨ s.power.state ≠ .run →
      (buttonRelease s).queue = s.queue ∧ (buttonRelease s).mem = s.mem) := by
  unfold buttonRelease
  dsimp only
  constructor
  · split
    · exact (within_offer _ _).power (by simp)
    · rfl
  · intro silent
    rw [if_neg (fun told => by rcases silent with h | h <;> simp [h] at told)]
    exact ⟨rfl, rfl⟩

/-- Settles O12: a press by the power state, and a release. -/
theorem buttonByPowerState : Obligations.ButtonByPowerState := by
  refine ⟨fun s high due => ?_, fun s high due => ?_⟩
  · have raw : s.pins.inputs.pwrbtn = false := by
      simp only [buttonDue, Bool.and_eq_true, beq_iff_eq] at due
      exact due.2
    have w := ((within_publishLevel .pwrbtn s (by simp)).then (within_buttonPress (publishLevel .pwrbtn s))).mono
      (W := waking) (by simp)
    have power := publishLevel_power .pwrbtn s
    obtain ⟨mem, queue, kbd⟩ := publishLevel_same .pwrbtn s
    have trip : (publishLevel .pwrbtn s).tripActive = s.tripActive :=
      congrArg (fun t => t.slots.any (·.tripped)) ((within_publishLevel .pwrbtn s (by simp)).th (by simp))
    have levels : (publishLevel .pwrbtn s).power.levels.pwrbtn = false := by rw [power]; exact raw
    have count : (publishLevel .pwrbtn s).power.counts.pwrbtn = none := by rw [power]; rfl
    have state : (publishLevel .pwrbtn s).power.state = s.power.state := by rw [power]; rfl
    have delay : sleepDelay (publishLevel .pwrbtn s).power = sleepDelay s.power := by rw [power]; rfl
    have ignore : (publishLevel .pwrbtn s).power.ignore = s.power.ignore := by rw [power]; rfl
    refine ⟨buttonPress (publishLevel .pwrbtn s), (event_next _ s high).trans (by rw [due]; rfl), ?_, ?_, fun ignored => ?_,
      fun counts => ?_, w.sameBus (by simp) (by simp), w.samePacks (by simp) (by simp), w.sameControl (by simp) (by simp),
      w.sameButQueue (by simp) (by simp) (by simp), w.posted (by simp)⟩
    · cases on : s.power.ignore
      · rw [(buttonPress_kept (ignore.trans on)).1, levels]
      · rw [buttonPress_ignored (ignore.trans on), levels]
    · cases on : s.power.ignore
      · rw [(buttonPress_kept (ignore.trans on)).2.1, count]
      · rw [buttonPress_ignored (ignore.trans on), count]
    · rw [buttonPress_ignored (ignore.trans ignored), power]
      exact ⟨rfl, rfl, rfl, queue⟩
    · obtain ⟨awake, waits, sleeps, rests⟩ := buttonPress_cases (ignore.trans counts)
      rw [state, delay] at waits
      rw [state, trip] at sleeps rests
      refine ⟨(buttonPress_kept (ignore.trans counts)).2.2, fun run up => ?_, fun sleepy => ?_, fun out => ?_, fun off blocked => ?_,
        fun busy => ?_⟩
      · rw [awake (state.trans run) (delay.trans up)]
        exact ⟨rfl, state.trans run⟩
      · obtain ⟨l, latched, here, _⟩ := latch_power [.pwrbtn] (pressed (publishLevel .pwrbtn s))
        rw [waits sleepy, latched, latch_queue]
        exact ⟨here .pwrbtn (by simp), state, queue⟩
      · rw [sleeps out]
        refine wokenBy_takeWake (s := pressed (publishLevel .pwrbtn s)) ?_ (by simp)
        show (publishLevel .pwrbtn s).power.state ≠ .run
        rw [state]
        rcases out with h | ⟨h, _⟩ <;> simp [h]
      · rw [rests (.inl ⟨off, blocked⟩)]
        exact state.trans off
      · rw [rests (.inr busy)]
        exact ⟨state, queue⟩
  · have raw : s.pins.inputs.pwrbtn = true := by
      simp only [buttonDue, Bool.and_eq_true, beq_iff_eq] at due
      exact due.2
    have w := ((within_publishLevel .pwrbtn s (by simp)).then (within_buttonRelease (publishLevel .pwrbtn s))).mono
      (W := .power :: reporting) (by simp)
    have published := publishLevel_power .pwrbtn s
    obtain ⟨mem, queue, kbd⟩ := publishLevel_same .pwrbtn s
    obtain ⟨power, silent⟩ := buttonRelease_same (publishLevel .pwrbtn s)
    rw [published] at power silent
    refine ⟨buttonRelease (publishLevel .pwrbtn s), (event_next _ s high).trans (by rw [due]; rfl), ?_⟩
    rw [power]
    refine ⟨raw, rfl, rfl, rfl, rfl, rfl, rfl, fun h => ?_, w.kbd (by simp), w.posted (by simp), w.sameBus (by simp) (by simp),
      w.samePacks (by simp) (by simp), w.sameControl (by simp) (by simp), w.sameButQueue (by simp) (by simp) (by simp)⟩
    rw [queue, mem] at silent
    exact silent h

/-! ### Falls and limits of the rails -/

theorem enterShutdown_seqCause (c : Cause) (s : State) : (enterShutdown c s).power.seqCause = s.power.seqCause ∨
    (enterShutdown c s).power.seqCause = c := by
  cases can : canShutDown s.power.state
  · exact .inl (by rw [enterShutdown_not can])
  · obtain ⟨_, _, _, _, _, _, _, eq⟩ := enterShutdown_power (c := c) can
    exact .inr (by rw [eq]; rfl)

theorem leftRun_seqCause (p : Power) : (leftRun p).seqCause = p.seqCause := by
  unfold leftRun
  split <;> rfl

theorem reachSleep_seqCause (s : State) : (reachSleep s).power.seqCause = s.power.seqCause ∨
    (reachSleep s).power.seqCause = .wake := by
  by_cases none : s.power.pendingWake = []
  · rw [reachSleep_rests none]
    exact .inl (leftRun_seqCause _)
  · obtain ⟨l, ⟨_, _, _, _, eq⟩, _⟩ := reachSleep_wakes none
    exact .inr (by rw [eq])

theorem dropStandby_seqCause (s : State) : (dropStandby s).power.seqCause = s.power.seqCause := by
  obtain ⟨high, low⟩ := dropStandby_power s
  cases stby : s.pins.pgStby
  · rw [low stby]; rfl
  · rw [high stby]

theorem reachOff_seqCause (s : State) : (reachOff s).power.seqCause = s.power.seqCause := by
  rw [reachOff_power]
  rfl

theorem combinationOff_of_cause {before : PowerState} {s : State} (other : s.power.seqCause ≠ .combination) :
    combinationOff before s = false := by simp [combinationOff, other]

theorem not_combination {c d : Cause} {q : Cause} (other : c ≠ .combination) (h : q = c ∨ q = d) (hd : d ≠ .combination) :
    q ≠ .combination := by rcases h with rfl | rfl <;> assumption

/-- R19: a fall keeps a sequence from becoming a combination shutdown. -/
theorem powerGoodDown_seqCause {r : Rail} {s : State} (other : s.power.seqCause ≠ .combination) :
    (powerGoodDown r s).power.seqCause ≠ .combination := by
  have shut := not_combination other (enterShutdown_seqCause .railFault s) (by simp)
  have sleeps := not_combination other (reachSleep_seqCause s) (by simp)
  unfold powerGoodDown
  split
  · split
    · exact shut
    · exact other
  · split
    · exact shut
    · exact other
  · exact shut
  · exact shut
  · exact sleeps
  · exact shut
  · exact other
  · split
    · rw [dropStandby_seqCause]; exact other
    · exact other
  · split
    · rw [reachOff_seqCause]; exact other
    · exact other
  · exact other

theorem waitRunsOut_seqCause {s : State} (other : s.power.seqCause ≠ .combination) :
    (waitRunsOut s).power.seqCause ≠ .combination := by
  have shut := not_combination other (enterShutdown_seqCause .railTimeout s) (by simp)
  unfold waitRunsOut
  dsimp only
  split
  · exact shut
  · exact shut
  · split
    · exact not_combination other (reachSleep_seqCause { s with power := { s.power with timedOut := true } }) (by simp)
    · rw [dropStandby_seqCause]; exact other
  · rw [reachOff_seqCause]; exact other
  · exact other
  · exact other

theorem room_emptied : room ⟨0, 0, emptyStale⟩ = 127 := rfl

/-- R204: what emptying the queue leaves of it. -/
theorem emptyQueue_queue (s : State) : (emptyQueue s).queue = ⟨0, 0, emptyStale⟩ := by
  unfold emptyQueue
  rw [(setStale_same emptyStale _).1]

/-- R8, step 4: the queue at OFF holds the OFF record alone. -/
theorem reachOff_queue (s : State) : (reachOff s).queue.read = 0 ∧ (reachOff s).queue.write = 1 := by
  unfold reachOff
  dsimp only
  have empty := fun x => emptyQueue_queue x
  have fits : ∀ x t, ((Notice.power .off (completionCause s.power)).units t).length ≤ room (emptyQueue x).queue := fun x t => by
    rw [empty, room_emptied]
    exact (by omega : 1 ≤ 127)
  rw [offer_fits (by rw [empty]) (fits _ _), place_eq]
  dsimp only
  rw [empty]
  exact ⟨rfl, rfl⟩

theorem setPowerGood_power (r : Rail) (b : Bool) (s : State) : (setPowerGood r b s).power = s.power := by cases r <;> rfl

/-- R6: the falls that are a RAIL_FAULT. -/
theorem powerGoodDown_fault {r : Rail} {s : State} (fault : s.power.state = .run ∨ s.power.state = .suspending ∧ r = .stby ∨
    s.power.state = .sleep ∧ r = .stby ∨ s.power.state = .waking ∧ r = .stby ∧ s.power.seenStby = true ∨
    s.power.state = .waking ∧ r = .main ∧ s.power.seenMain = true) :
    powerGoodDown r s = enterShutdown .railFault s ∧ canShutDown s.power.state = true := by
  unfold powerGoodDown
  rcases fault with run | ⟨state, rfl⟩ | ⟨state, rfl⟩ | ⟨state, rfl, seen⟩ | ⟨state, rfl, seen⟩
  · rw [run]
    exact ⟨rfl, rfl⟩
  · rw [state]
    exact ⟨rfl, rfl⟩
  · rw [state]
    exact ⟨rfl, rfl⟩
  · rw [state]
    exact ⟨if_pos seen, rfl⟩
  · rw [state]
    exact ⟨if_pos seen, rfl⟩

/-- R7, R8: the falls that a wait expects. -/
theorem powerGoodDown_expected (s : State) :
    (s.power.state = .suspending → powerGoodDown .main s = reachSleep s) ∧
    (s.power.state = .shuttingDown → s.power.step = .mainLow → powerGoodDown .main s = dropStandby s) ∧
    (s.power.state = .shuttingDown → s.power.step = .stbyLow → powerGoodDown .stby s = reachOff s) := by
  unfold powerGoodDown
  refine ⟨fun state => by rw [state], fun state step => ?_, fun state step => ?_⟩
  · rw [state]
    exact if_pos step
  · rw [state]
    exact if_pos step

theorem exec_powerGoodFall {r : Rail} {s : State} (high : s.inReset = false) (good : powerGood s r = true) :
    exec (.powerGoodFall r) s = .next (settle (withCombinationRestart (fun x => powerGoodDown r (setPowerGood r false x)) s)) := by
  show execPowerGoodFall r s = _
  unfold execPowerGoodFall
  rw [if_neg (by simp [good]), if_neg (by simp [high])]

theorem completionCause_late (p : Power) : completionCause { p with timedOut := true } = .railTimeout := rfl

/-- R5, R7, R8: a limit that runs out. -/
theorem waitRunsOut_cases (s : State) : let late : State := { s with power := { s.power with timedOut := true } }
    (s.power.step = .stbyHigh ∨ s.power.step = .mainHigh → waitRunsOut s = enterShutdown .railTimeout s) ∧
    (s.power.step = .mainLow → s.power.state = .suspending → waitRunsOut s = reachSleep late) ∧
    (s.power.step = .mainLow → s.power.state ≠ .suspending → waitRunsOut s = dropStandby late) ∧
    (s.power.step = .stbyLow → waitRunsOut s = reachOff late) := by
  unfold waitRunsOut
  dsimp only
  refine ⟨fun step => ?_, fun step state => ?_, fun step state => ?_, fun step => by rw [step]⟩
  · rcases step with step | step <;> rw [step]
  · rw [step]
    exact if_pos state
  · rw [step]
    exact if_neg state

/-- R6 to R8, R19: a fall outside a combination shutdown. -/
theorem railFalls (rail : Rail) (s : State) :
    let u := powerGoodDown rail (setPowerGood rail false s)
    (s.power.state = .run ∨ s.power.state = .suspending ∧ rail = .stby ∨ s.power.state = .sleep ∧ rail = .stby ∨
      s.power.state = .waking ∧ rail = .stby ∧ s.power.seenStby = true ∨
      s.power.state = .waking ∧ rail = .main ∧ s.power.seenMain = true → shutDownWith u .railFault) ∧
    (s.power.state = .suspending → rail = .main → s.power.pendingWake = [] →
      u.power.state = .sleep ∧ u.power.step = .none ∧ u.power.cause = completionCause s.power) ∧
    (s.power.state = .suspending → rail = .main → s.power.pendingWake ≠ [] →
      u.power.state = .waking ∧ u.power.cause = .wake ∧ u.power.wakeFirst = s.power.pendingWake.head?) ∧
    (s.power.state = .shuttingDown → rail = .main → s.power.step = .mainLow → s.pins.pgStby = true →
      u.power.state = .shuttingDown ∧ u.power.enStby = false ∧ u.power.step = .stbyLow) ∧
    (s.power.state = .shuttingDown → rail = .stby → s.power.step = .stbyLow →
      u.power.state = .off ∧ u.power.cause = completionCause s.power ∧ u.queue.read = 0 ∧ u.queue.write = 1) := by
  have power := setPowerGood_power rail false s
  obtain ⟨sleeps, drops, off⟩ := powerGoodDown_expected (setPowerGood rail false s)
  rw [power] at sleeps drops off
  dsimp only
  refine ⟨fun fault => ?_, fun state r none => ?_, fun state r some_ => ?_, fun state r step stby => ?_, fun state r step => ?_⟩
  · obtain ⟨down, can⟩ := powerGoodDown_fault (r := rail) (s := setPowerGood rail false s) (by rw [power]; exact fault)
    rw [down]
    exact shutDownWith_enterShutdown can
  · subst r
    rw [sleeps state, reachSleep_rests (by rw [power]; exact none), power]
    exact ⟨rfl, rfl, rfl⟩
  · subst r
    obtain ⟨l, ⟨_, _, _, _, eq⟩, head⟩ := reachSleep_wakes (s := setPowerGood .main false s) (by rw [power]; exact some_)
    rw [sleeps state, eq]
    rw [power] at head
    exact ⟨rfl, rfl, head⟩
  · subst r
    rw [drops state step, (dropStandby_power (setPowerGood .main false s)).1 stby, power]
    exact ⟨state, rfl, rfl⟩
  · subst r
    obtain ⟨read, write⟩ := reachOff_queue (setPowerGood .stby false s)
    rw [off state step, read, write, reachOff_power, power]
    exact ⟨rfl, rfl, rfl, rfl⟩

/-- R5, R7, R8: a limit that runs out outside a combination shutdown. -/
theorem limitsRunOut (s : State) : let u := waitRunsOut s
    (s.power.state = .waking → s.power.step = .stbyHigh ∨ s.power.step = .mainHigh → shutDownWith u .railTimeout) ∧
    (s.power.state = .suspending → s.power.step = .mainLow → s.power.pendingWake = [] →
      u.power.state = .sleep ∧ u.power.cause = .railTimeout) ∧
    (s.power.state = .shuttingDown → s.power.step = .mainLow → s.pins.pgStby = true →
      u.power.state = .shuttingDown ∧ u.power.enStby = false ∧ u.power.step = .stbyLow ∧ u.power.timedOut = true) ∧
    (s.power.state = .shuttingDown → s.power.step = .stbyLow → u.power.state = .off ∧ u.power.cause = .railTimeout) := by
  obtain ⟨wakes, sleeps, drops, off⟩ := waitRunsOut_cases s
  dsimp only
  refine ⟨fun state step => ?_, fun state step none => ?_, fun state step stby => ?_, fun state step => ?_⟩
  · rw [wakes step]
    exact shutDownWith_enterShutdown (by rw [state]; rfl)
  · rw [sleeps step state, reachSleep_rests (s := { s with power := { s.power with timedOut := true } }) none]
    exact ⟨rfl, completionCause_late s.power⟩
  · rw [drops step (by simp [state]), (dropStandby_power { s with power := { s.power with timedOut := true } }).1 stby]
    exact ⟨state, rfl, rfl, rfl⟩
  · rw [off step, reachOff_power]
    exact ⟨rfl, completionCause_late s.power⟩

/-- R19: the fall of PG_STBY that ends a combination shutdown. -/
theorem combinationEnds {s : State} (state : s.power.state = .shuttingDown) (step : s.power.step = .stbyLow)
    (combination : s.power.seqCause = .combination) :
    withCombinationRestart (fun x => powerGoodDown .stby (setPowerGood .stby false x)) s =
      beginAgain (pinValues (reachOff (setPowerGood .stby false s))) := by
  have off := (powerGoodDown_expected (setPowerGood .stby false s)).2.2 state step
  have ended : combinationOff s.power.state (reachOff (setPowerGood .stby false s)) = true := by
    unfold combinationOff
    rw [reachOff_power, state]
    simp [takeSnapshot, setPowerGood, combination]
  unfold withCombinationRestart
  dsimp only
  rw [off, if_pos ended, restartFromPins_eq]

/-- Settles O14: the falls, the limits, and the combination shutdown's end. -/
theorem railsFallOrTimeOut : Obligations.RailsFallOrTimeOut := by
  refine ⟨fun rail s high good other => ?_, fun s high other => ?_, fun s high state step combination good => ?_⟩
  · have plain : withCombinationRestart (fun x => powerGoodDown rail (setPowerGood rail false x)) s =
        powerGoodDown rail (setPowerGood rail false s) :=
      withCombinationRestart_none (f := fun x => powerGoodDown rail (setPowerGood rail false x))
        (combinationOff_of_cause (powerGoodDown_seqCause (by rw [setPowerGood_power]; exact other)))
    have w := ((within_setPowerGood rail false s).then (within_powerGoodDown rail _)).mono (W := powering) (by simp)
    obtain ⟨packs, engines, ring⟩ := frame_powering w
    have kept := mid_powerGoodDown rail (setPowerGood rail false s)
    obtain ⟨fault, rests, wakes, drops, off⟩ := railFalls rail s
    refine ⟨_, (exec_powerGoodFall high good).trans (by rw [plain]), ?_, fault, rests, wakes, drops, off, packs, engines, ring,
      kept.levels.trans (congrArg (·.levels) (setPowerGood_power rail false s))⟩
    rw [powerGood_of_pins kept.pins, powerGood_setPowerGood]
  · have plain : withCombinationRestart waitRunsOut s = waitRunsOut s :=
      withCombinationRestart_none (combinationOff_of_cause (waitRunsOut_seqCause other))
    obtain ⟨packs, engines, ring⟩ := frame_powering (within_waitRunsOut s)
    obtain ⟨wakes, sleeps, drops, off⟩ := limitsRunOut s
    exact ⟨waitRunsOut s, (event_next _ s high).trans (by rw [plain]), wakes, sleeps, drops, off, packs, engines, ring,
      (mid_waitRunsOut s).levels⟩
  · have ends := combinationEnds state step combination
    have kept := mid_reachOff (setPowerGood .stby false s)
    have power := reachOff_power (setPowerGood .stby false s)
    generalize reachOff (setPowerGood .stby false s) = w at ends kept power
    have inputs : w.pins.inputs = s.pins.inputs := by rw [kept.pins]; rfl
    have cause : w.power.shutdownCause = s.power.shutdownCause := by rw [power]; rfl
    have straps : w.power.straps = s.power.straps := by rw [power]; rfl
    obtain ⟨x, y, c, eq, profile, _⟩ := resetValues_eq (resampleStraps w.power.straps w.pins.straps) w.power.shutdownCause
      w.dsg.selected w
    refine ⟨pinValues w, (exec_powerGoodFall (r := .stby) high good).trans (by rw [ends]), ?_⟩
    unfold pinValues
    rw [eq]
    refine ⟨rfl, cause, ?_, ?_, rfl, rfl, rfl, ?_, rfl, rfl, rfl, profile⟩
    · show w.power.straps.packCount = _
      rw [straps]
    · show w.power.straps.columns = _
      rw [straps]
    · exact congrArg (fun i => seedLevels i (resampleStraps w.power.straps w.pins.straps)) inputs

end Sys2Proof.Proofs.ButtonsAndRails
end

section
/-! PROOF. The requests that set overrides, the charge mode and the power state (R14, R22, R127, R190, R191). -/
set_option Elab.async false

namespace Sys2Proof.Proofs.Requests

open Sys2Proof Sys2Proof.Machine Sys2Proof.Safety Sys2Proof.Laws Sys2Proof.Proofs.Frames Sys2Proof.Proofs.Updates
  Sys2Proof.Proofs.Units Sys2Proof.Proofs.ScanModes Sys2Proof.Proofs.PowerRules Sys2Proof.Proofs.Commands
  Sys2Proof.Proofs.PowerCommands Sys2Proof.Proofs.Completion

/-! ### A slot taken -/

/-- A taken slot is answered with one result and no reply. -/
theorem refused {n : Nat} {s : State} (wf : memoryCanonical s) (r : Result) {d : Nat} (small : d < 65536) :
    doneWith (completeSlot n r d [] (taken n s)) n r d ∧ onlyCompletes n s (completeSlot n r d [] (taken n s)) :=
  answered (within_taken n s) (canonical_taken wf n) r small fitsSlot_nil

theorem taken_param (n o : Nat) (s : State) : slotParam (taken n s) n o = slotParam s n o := slotParam_setSlotState n _ o s
theorem taken_param16 (n o : Nat) (s : State) : slotParam16 (taken n s) n o = slotParam16 s n o :=
  slotParam16_setSlotState n _ o s

/-! ### Overrides and the charge mode -/

/-- R157: the overrides that SET_OVERRIDE leaves. -/
theorem setOverrides_override (a b : Nat) (s : State) : (setOverrides a b s).th.fan0.override = a ∧
    (setOverrides a b s).th.fan1.override = if s.fanPresent .fan1 then b else s.th.fan1.override := by
  unfold setOverrides updatingFans
  rw [commit_th, commit_th]
  dsimp only
  split <;> exact ⟨rfl, rfl⟩

/-- R191: the checks of SET_OVERRIDE in their order. -/
theorem setOverride_cases (n : Nat) (s : State) :
    (100 < slotParam s n 0 → setOverride n s = completeSlot n .badParam 1 [] s) ∧
    (slotParam s n 0 ≤ 100 → 100 < slotParam s n 1 → setOverride n s = completeSlot n .badParam 2 [] s) ∧
    (slotParam s n 0 ≤ 100 → slotParam s n 1 ≤ 100 → capOf (slotParam16 s n 2) = none →
      setOverride n s = completeSlot n .badParam 3 [] s) ∧
    ∀ cap, slotParam s n 0 ≤ 100 → slotParam s n 1 ≤ 100 → capOf (slotParam16 s n 2) = some cap → setOverride n s =
      if s.overrideValid then
        completeSlot n .ok 0 [] (setCap cap (setOverrides (slotParam s n 0) (slotParam s n 1) s))
      else completeSlot n .wrongState 0 [] s := by
  unfold setOverride
  dsimp only
  refine ⟨fun bad => if_pos bad, fun fan0 bad => ?_, fun fan0 fan1 bad => ?_, fun cap fan0 fan1 good => ?_⟩
  · rw [if_neg (Nat.not_lt.mpr fan0), if_pos bad]
  · rw [if_neg (Nat.not_lt.mpr fan0), if_neg (Nat.not_lt.mpr fan1), bad]
  · rw [if_neg (Nat.not_lt.mpr fan0), if_neg (Nat.not_lt.mpr fan1), good]

theorem modeOf_none : {v : Nat} → 1 < v → modeOf v = none
  | _ + 2, _ => rfl

theorem sleepTargetOf_none : {v : Nat} → 1 < v → sleepTargetOf v = none
  | _ + 2, _ => rfl

/-- R191: the three modes that a request can name. -/
theorem chargeModeRequest_cases (n : Nat) (s : State) :
    (slotParam s n 0 = 0 → chargeModeRequest n s = completeSlot n .ok 0 [] (setChargeMode .full s)) ∧
    (slotParam s n 0 = 1 → chargeModeRequest n s = completeSlot n .ok 0 [] (setChargeMode .conserve s)) ∧
    (1 < slotParam s n 0 → chargeModeRequest n s = completeSlot n .badParam 1 [] s) := by
  unfold chargeModeRequest
  refine ⟨fun full => by rw [full]; rfl, fun conserve => by rw [conserve]; rfl, fun bad => ?_⟩
  rw [modeOf_none bad]

/-- Settles O49: the checks, then what the settings are at the completion. -/
theorem overrideAndModeTaken : Obligations.OverrideAndModeTaken := by
  refine ⟨fun n s high wf posted => ?_, fun n s high wf posted => ?_⟩
  · have w := ((within_taken n.val s).then (within_setOverride n.val (taken n.val s))).mono
      (W := .th :: .slot n.val :: .posted :: charging) (by simp)
    obtain ⟨first, second, third, accepted⟩ := setOverride_cases n.val (taken n.val s)
    simp only [taken_param, taken_param16] at first second third accepted
    refine ⟨_, event_takePost high posted, fun bad => ?_, fun fan0 bad => ?_, fun fan0 fan1 bad => ?_, w.power (by simp),
      w.kbd (by simp), w.samePacks (by simp) (by simp), w.sameButSlotAndQueue (by simp) (by simp) (fun m ne => by simp [ne]),
      fun cap fan0 fan1 good => ⟨fun valid => ?_, fun invalid => ?_⟩⟩
    · rw [first bad]
      exact refused wf _ (by decide)
    · rw [second fan0 bad]
      exact refused wf _ (by decide)
    · rw [third fan0 fan1 bad]
      exact refused wf _ (by decide)
    · rw [accepted cap fan0 fan1 good, if_pos (show (taken n.val s).overrideValid = true from valid)]
      have wf1 := (low_setCap cap _).memory ((low_setOverrides (slotParam s n.val 0) (slotParam s n.val 1) _).memory
        (canonical_taken wf n.val))
      have done := within_completeSlot n.val .ok 0 [] (setCap cap (setOverrides (slotParam s n.val 0) (slotParam s n.val 1)
        (taken n.val s))) fitsSlot_nil
      obtain ⟨fan0, fan1⟩ := setOverrides_override (slotParam s n.val 0) (slotParam s n.val 1) (taken n.val s)
      rw [done.chg (by simp), done.th (by simp), (within_setCap cap _).th (by simp), fan0, fan1, setCap_cap]
      exact ⟨doneWith_completeSlot wf1 _ _ (by decide) _, rfl, rfl, rfl⟩
    · rw [accepted cap fan0 fan1 good, if_neg (by rw [show (taken n.val s).overrideValid = false from invalid]; simp)]
      exact refused wf _ (by decide)
  · have w := ((within_taken n.val s).then (within_chargeModeRequest n.val (taken n.val s))).mono
      (W := .slot n.val :: .posted :: charging) (by simp)
    obtain ⟨full, conserve, other⟩ := chargeModeRequest_cases n.val (taken n.val s)
    rw [taken_param] at full conserve other
    have named : ∀ m, chargeModeRequest n.val (taken n.val s) = completeSlot n.val .ok 0 [] (setChargeMode m (taken n.val s)) →
        doneWith (chargeModeRequest n.val (taken n.val s)) n.val .ok 0 ∧
          (chargeModeRequest n.val (taken n.val s)).chg.mode = m := fun m eq => by
      rw [eq, (within_completeSlot _ _ _ _ _ fitsSlot_nil).chg (by simp)]
      exact ⟨doneWith_completeSlot ((low_setChargeMode m _).memory (canonical_taken wf n.val)) _ _ (by decide) _,
        setChargeMode_mode m _⟩
    refine ⟨_, event_takePost high posted, fun zero => named .full (full zero), fun one => named .conserve (conserve one),
      fun bad => ?_, w.power (by simp), w.kbd (by simp), w.th (by simp), w.samePacks (by simp) (by simp),
      w.sameButSlotAndQueue (by simp) (by simp) (fun m ne => by simp [ne])⟩
    rw [other bad]
    exact refused wf _ (by decide)

/-! ### The power state -/

/-- R14, R190: the checks of SET_POWER_STATE in their order. -/
theorem powerRequest_cases (n : Nat) (s : State) :
    (1 < slotParam s n 0 → powerRequest n s = completeSlot n .badParam 1 [] s) ∧
    ∀ target, sleepTargetOf (slotParam s n 0) = some target →
      (1000 < slotParam16 s n 2 → powerRequest n s = completeSlot n .badParam 2 [] s) ∧
      (slotParam16 s n 2 ≤ 1000 → s.power.state ≠ .run → powerRequest n s = completeSlot n .wrongState 0 [] s) ∧
      (slotParam16 s n 2 ≤ 1000 → s.power.state = .run → s.power.delay.isSome = true →
        powerRequest n s = completeSlot n .busy 0 [] s) ∧
      (slotParam16 s n 2 ≤ 1000 → s.power.state = .run → s.power.delay = none → wakePending s target = true →
        powerRequest n s = completeSlot n .wakePending 0 [] s) ∧
      (slotParam16 s n 2 ≤ 1000 → s.power.state = .run → s.power.delay = none → wakePending s target = false →
        powerRequest n s = acceptPower n target (slotParam16 s n 2) s) := by
  unfold powerRequest
  dsimp only
  refine ⟨fun bad => ?_, fun target named => ?_⟩
  · rw [sleepTargetOf_none bad]
  · simp only [named]
    refine ⟨fun long => if_pos long, fun short out => ?_, fun short run busy => ?_, fun short run free pending => ?_,
      fun short run free none => ?_⟩
    · rw [if_neg (Nat.not_lt.mpr short), if_pos out]
    · rw [if_neg (Nat.not_lt.mpr short), if_neg (by simp [run]), if_pos busy]
    · rw [if_neg (Nat.not_lt.mpr short), if_neg (by simp [run]), if_neg (by simp [free]), if_pos pending]
    · rw [if_neg (Nat.not_lt.mpr short), if_neg (by simp [run]), if_neg (by simp [free]), if_neg (by simp [none])]

theorem startDelay_power (target : SleepTarget) (length : Nat) (s : State) : (startDelay target length s).power =
    if target = .sleep then takeSnapshot { s.power with delay := some ⟨target, length, 0⟩ }
    else { s.power with delay := some ⟨target, length, 0⟩ } := rfl

/-- R14: an accepted request. -/
theorem acceptPower_done {n delay : Nat} {target : SleepTarget} {s : State} (wf : memoryCanonical s)
    (run : s.power.state = .run) : doneWith (acceptPower n target delay s) n .ok 0 ∧
      (0 < delay → (acceptPower n target delay s).power.delay = some ⟨target, delay, 0⟩ ∧
        (acceptPower n target delay s).power.state = .run ∧ (target = .sleep →
          (acceptPower n target delay s).power.snapshot =
            ⟨s.power.levels.lid, s.power.levels.acp, s.power.levels.wakeAux⟩)) ∧
      (delay = 0 → target = .off → shutDownWith (acceptPower n target delay s) .request) ∧
      (delay = 0 → target = .sleep → s.pins.pgMain = true →
        (acceptPower n target delay s).power.state = .suspending) := by
  have done := doneWith_completeSlot wf n .ok (d := 0) (by decide) []
  have completed := within_completeSlot n .ok 0 [] s fitsSlot_nil
  have kept : (completeSlot n .ok 0 [] s).power = s.power := completed.power (by simp)
  have pins : (completeSlot n .ok 0 [] s).pins = s.pins := rfl
  unfold acceptPower
  dsimp only
  generalize completeSlot n .ok 0 [] s = x at done kept pins ⊢
  have started := startDelay_power target delay x
  rw [kept] at started
  have delayed : (startDelay target delay x).power.delay = some ⟨target, delay, 0⟩ := by
    rw [started]
    split <;> rfl
  have state : (startDelay target delay x).power.state = .run := by
    rw [started]
    split <;> exact run
  have main : (startDelay target delay x).pins = s.pins := pins
  have waits := doneWith_within done (within_startDelay target delay x) (mid_startDelay target delay x).toKeeps (by simp) (by simp)
    (by simp)
  refine ⟨?_, fun positive => ?_, fun zero off => ?_, fun zero sleep high => ?_⟩
  · split
    · exact doneWith_within waits (within_delayExpires _) (mid_delayExpires _).toKeeps (by simp) (by simp) (by simp)
    · exact waits
  · rw [if_neg (by omega)]
    refine ⟨delayed, state, fun sleep => ?_⟩
    rw [started, if_pos sleep]
    rfl
  · rw [if_pos zero, (delayExpires_of delayed).1 off]
    exact shutDownWith_enterShutdown (by rw [state]; rfl)
  · rw [if_pos zero, (delayExpires_of delayed).2 sleep, enterSuspending_mainHigh (by rw [main]; exact high), suspending_power]

/-- Settles O50: the checks, then what the delay makes of the acceptance. -/
theorem setPowerStateTaken : Obligations.SetPowerStateTaken := by
  intro n s high wf posted
  have w := ((within_taken n.val s).then (within_powerRequest n.val (taken n.val s))).mono
    (W := .slot n.val :: .posted :: powering) (by simp)
  obtain ⟨unnamed, cases⟩ := powerRequest_cases n.val (taken n.val s)
  rw [taken_param] at unnamed
  refine ⟨_, event_takePost high posted, fun bad => ?_, w.samePacks (by simp) (by simp), w.engine .a (by simp),
    w.engine .b (by simp), w.sameButSlotAndQueue (by simp) (by simp) (fun m ne => by simp [ne]), fun target named => ?_⟩
  · rw [unnamed bad]
    exact refused wf _ (by decide)
  · obtain ⟨long, out, busy, pending, accepted⟩ := cases target (by rw [taken_param]; exact named)
    rw [taken_param16] at long out busy pending accepted
    refine ⟨fun bad => ?_, fun short other => ?_, fun short run delay => ?_, fun short run free wakes => ?_,
      fun short run free none => ?_⟩
    · rw [long bad]
      exact refused wf _ (by decide)
    · rw [out short other]
      exact refused wf _ (by decide)
    · rw [busy short run delay]
      exact refused wf _ (by decide)
    · rw [pending short run free wakes]
      exact refused wf _ (by decide)
    · rw [accepted short run free none]
      exact acceptPower_done (s := taken n.val s) (canonical_taken wf n.val) run

end Sys2Proof.Proofs.Requests
end

section
/-! PROOF. The watch timer's end (R21, R22) and the adapter's change (R2, R10, R23, R117). -/
set_option Elab.async false

namespace Sys2Proof.Proofs.WatchAndAdapter

open Sys2Proof Sys2Proof.Machine Sys2Proof.Safety Sys2Proof.Laws Sys2Proof.Proofs.Frames Sys2Proof.Proofs.Updates
  Sys2Proof.Proofs.Units Sys2Proof.Proofs.ScanModes Sys2Proof.Proofs.PowerRules Sys2Proof.Proofs.Commands
  Sys2Proof.Proofs.PowerCommands Sys2Proof.Proofs.ButtonsAndRails Sys2Proof.Proofs.Inputs

/-! ### Overrides stay withdrawn -/

/-- R22: no cap and no fan override. -/
def Unassisted (s : State) : Prop := s.chg.cap = none ∧ s.th.fan0.override = 0 ∧ s.th.fan1.override = 0

theorem unassisted_of_same {s t : State} (own : Unassisted s) (same : sameControl s t) : Unassisted t := by
  obtain ⟨chg, th⟩ := same
  unfold Unassisted
  rw [chg, th]
  exact own

theorem unassisted_withdrawOverrides (s : State) : Unassisted (withdrawOverrides s) := by
  obtain ⟨cap, th⟩ := withdrawOverrides_same s
  unfold Unassisted
  rw [th]
  exact ⟨cap, rfl, rfl⟩

theorem unassisted_endBoost {s : State} (own : Unassisted s) : Unassisted (endBoost s) := by
  unfold endBoost setBoost updatingFans
  split
  · unfold Unassisted
    rw [commit_chg, commit_chg, commit_th, commit_th]
    exact own
  · exact own

theorem unassisted_scanModeDecision {s : State} (own : Unassisted s) : Unassisted (scanModeDecision s) :=
  unassisted_of_same own ((within_scanModeDecision s).sameControl (by simp) (by simp))

/-- R6: leaving RUN brings no override back. -/
theorem unassisted_changePower {s : State} (own : Unassisted s) (new : PowerState) (c : Cause) (f : Power → Power) :
    Unassisted (changePower new c f s) := by
  have moved : Unassisted (updatingPower (fun x => { x with power := powerAfter new c f x.power }) s) :=
    unassisted_of_same own ((within_powerUpdate (powerAfter new c f) s).sameControl (by simp) (by simp))
  have left : ∀ x, Unassisted x → Unassisted (if leaves s new then endBoost (scanModeDecision x) else scanModeDecision x) :=
    fun x h => by
      split
      · exact unassisted_endBoost (unassisted_scanModeDecision h)
      · exact unassisted_scanModeDecision h
  have withdrawn : ∀ x, Unassisted x → Unassisted (if s.overrideValid && leaves s new then withdrawOverrides x else x) :=
    fun x h => by
      split
      · exact unassisted_withdrawOverrides x
      · exact h
  have told : ∀ x, Unassisted x → Unassisted (offer (.power new c) x) := fun x h =>
    unassisted_of_same h ((within_offer _ x).sameControl (by simp) (by simp))
  rw [changePower_eq]
  exact anyOrder_establishes left withdrawn withdrawn told told moved

theorem reachOff_control (s : State) : sameControl s (reachOff s) := by
  have w := ((((within_powerUpdate (fun p => { p with
      state := .off, cause := completionCause s.power, step := .none, stepMs := 0 }) s).then (within_scanModeDecision _)).then
    (within_emptyQueue _)).then (within_offer (.power .off (completionCause s.power)) _)).then (within_snapshot _)
  exact w.sameControl (by simp) (by simp)

theorem dropStandby_control (s : State) : sameControl s (dropStandby s) := by
  unfold dropStandby
  dsimp only
  split
  · exact ⟨rfl, rfl⟩
  · exact reachOff_control { s with power := { s.power with enStby := false, step := .stbyLow, stepMs := 0 } }

theorem unassisted_enterShutdown {s : State} (own : Unassisted s) (c : Cause) : Unassisted (enterShutdown c s) := by
  have entered := unassisted_changePower own .shuttingDown c (shutdownFields c)
  unfold enterShutdown
  dsimp only
  split
  · split
    · exact entered
    · exact unassisted_of_same entered (dropStandby_control _)
  · exact own

/-! ### The watch timer's end -/

/-- R21, steps 1 to 3: the state in which the action named by the table is taken. -/
def silenced (s : State) : State := offer (.heartbeat false) (withdrawOverrides
  (updatingPower (fun x => { x with power := { x.power with heartbeat := .silent, heartbeatMs := 0 } }) s))

theorem silenced_power (s : State) : (silenced s).power = { s.power with heartbeat := .silent, heartbeatMs := 0 } := by
  unfold silenced
  rw [(within_offer _ _).power (by simp), (within_withdrawOverrides _).power (by simp)]
  exact commitPower_power _ _

theorem unassisted_silenced (s : State) : Unassisted (silenced s) :=
  unassisted_of_same (unassisted_withdrawOverrides _) ((within_offer _ _).sameControl (by simp) (by simp))

/-- R21, step 4. -/
theorem heartbeatAct_cases (s : State) :
    (s.power.table.heartbeatAction = .none → heartbeatAct s = s) ∧
    (s.power.table.heartbeatAction = .resetHost → heartbeatAct s =
      { s with power := { abandonDelay s.power with hrstAsserted := true, pulseMs := some 0 } }) ∧
    (s.power.table.heartbeatAction = .forceOff → heartbeatAct s = enterShutdown .heartbeat s) := by
  unfold heartbeatAct
  exact ⟨fun h => by rw [h], fun h => by rw [h], fun h => by rw [h]⟩

theorem abandonDelay_same (p : Power) : (abandonDelay p).delay = none ∧ (abandonDelay p).heartbeat = p.heartbeat ∧
    (abandonDelay p).state = p.state := by
  unfold abandonDelay
  split
  · exact ⟨rfl, rfl, rfl⟩
  · next free => exact ⟨by simpa using free, rfl, rfl⟩

theorem overrideValid_of {s : State} (off : s.power.heartbeat ≠ .watching) : s.overrideValid = false := by
  simp [State.overrideValid, off]

/-- R21: what the action leaves, taken in RUN with the watch silent and no override. -/
theorem heartbeatAct_outcome {s : State} (own : Unassisted s) (run : s.power.state = .run)
    (silent : s.power.heartbeat = .silent) : Unassisted (heartbeatAct s) ∧ (heartbeatAct s).overrideValid = false ∧
      (s.power.table.heartbeatAction = .none →
        (heartbeatAct s).power.heartbeat = .silent ∧ (heartbeatAct s).power.state = .run) ∧
      (s.power.table.heartbeatAction = .resetHost → (heartbeatAct s).power.heartbeat = .silent ∧
        (heartbeatAct s).power.state = .run ∧ (heartbeatAct s).power.hrstAsserted = true ∧
        (heartbeatAct s).power.pulseMs = some 0 ∧ (heartbeatAct s).power.delay = none) ∧
      (s.power.table.heartbeatAction = .forceOff →
        shutDownWith (heartbeatAct s) .heartbeat ∧ (heartbeatAct s).power.heartbeat = .disarmed) := by
  obtain ⟨none, reset, force⟩ := heartbeatAct_cases s
  cases action : s.power.table.heartbeatAction with
  | none =>
    rw [none action]
    exact ⟨own, overrideValid_of (by simp [silent]), fun _ => ⟨silent, run⟩, by simp, by simp⟩
  | resetHost =>
    rw [reset action]
    obtain ⟨delay, beat, state⟩ := abandonDelay_same s.power
    exact ⟨own, overrideValid_of (by simp [beat, silent]), by simp,
      fun _ => ⟨beat.trans silent, state.trans run, rfl, rfl, delay⟩, by simp⟩
  | forceOff =>
    rw [force action]
    have can : canShutDown s.power.state = true := by rw [run]; rfl
    have disarmed : (enterShutdown .heartbeat s).power.heartbeat = .disarmed := by
      obtain ⟨_, _, _, _, _, _, _, eq⟩ := enterShutdown_power (c := .heartbeat) can
      rw [eq, leftRun_run run]
      rfl
    exact ⟨unassisted_enterShutdown own .heartbeat, overrideValid_of (by simp [disarmed]), by simp, by simp,
      fun _ => ⟨shutDownWith_enterShutdown can, disarmed⟩⟩

/-- Settles O18: the three actions that the table can name. -/
theorem heartbeatExpiryActs : Obligations.HeartbeatExpiryActs := by
  intro s high watching run
  have power := silenced_power s
  have table : (silenced s).power.table = s.power.table := by rw [power]
  have here : (silenced s).power.state = .run := by rw [power]; exact run
  have quiet : (silenced s).power.heartbeat = .silent := by rw [power]
  obtain ⟨packs, engines, ring⟩ := frame_powering (within_heartbeatExpires s)
  obtain ⟨⟨cap, fan0, fan1⟩, invalid, none, reset, force⟩ := heartbeatAct_outcome (unassisted_silenced s) here quiet
  rw [table] at none reset force
  have run : exec .heartbeatExpiry s = .next (settle (heartbeatExpires s)) :=
    (event_next _ s high).trans (by rw [watching]; rfl)
  have acts : heartbeatExpires s = heartbeatAct (silenced s) := rfl
  rw [acts] at packs engines ring run
  exact ⟨heartbeatAct (silenced s), run, cap, fan0, fan1, invalid, none, reset, force, packs, engines, ring⟩

/-! ### The discharge decision and the power fields -/

theorem latch_counts (fs : List Factor) (s : State) : (latch fs s).power.counts = s.power.counts := by
  obtain ⟨l, eq, _⟩ := latch_power fs s
  rw [eq]

theorem takeWake_counts (fs : List Factor) {s : State} (out : s.power.state ≠ .run) :
    (takeWake fs s).power.counts = s.power.counts := by
  obtain ⟨l, ⟨_, _, _, _, eq⟩, _⟩ := takeWake_power fs out
  rw [eq]

/-- R23: a rise of critical battery ends no stability count. -/
theorem criticalRise_counts (s : State) : (criticalRise s).power.counts = s.power.counts := by
  have raised : (updatingPower (fun x => { x with dsg := { x.dsg with critical := true } }) s).power = s.power :=
    commitPower_power _ _
  unfold criticalRise latchCritical
  dsimp only
  split
  · split
    · rw [latch_counts, raised]
    · rw [(within_offer _ _).power (by simp), updatingPower, commitPower_power]
  · rw [latch_counts, raised]
  · next sleep =>
    rw [takeWake_counts _ (by rw [raised, sleep]; simp), raised]
  all_goals rw [raised]

theorem setCritical_counts (b : Bool) (s : State) : (setCritical b s).power.counts = s.power.counts := by
  unfold setCritical
  split
  · rfl
  · split
    · exact criticalRise_counts s
    · unfold criticalWithdrawal updatingPower
      rw [commitPower_power]

theorem dischargeDecision_counts (s : State) : (dischargeDecision s).power.counts = s.power.counts := by
  unfold dischargeDecision criticalDecision
  rw [setCritical_counts, (within_setDischarge _ s).power (by simp)]

/-- R117, R118, R23: with the adapter in and no grace running, no pack is selected and the power fields stand. -/
theorem dischargeDecision_adapterIn {s : State} (adapter : s.adapterIn = true) (grace : s.power.graceMs = none) :
    (dischargeDecision s).power = s.power ∧ (dischargeDecision s).dsg.selected = none ∧
      (dischargeDecision s).dsg.critical = false := by
  obtain ⟨selected, critical⟩ := dischargeDecision_dsg s
  have unselected : decideDischarge s = none := if_pos adapter
  have w := within_setDischarge (decideDischarge s) s
  have kept : (setDischarge (decideDischarge s) s).power = s.power := w.power (by simp)
  have holds : criticalHolds (setDischarge (decideDischarge s) s) = false := by
    have inside : (setDischarge (decideDischarge s) s).adapterIn = true := (congrArg (·.levels.acp) kept).trans adapter
    simp [criticalHolds, inside]
  refine ⟨?_, selected.trans unselected, critical.trans holds⟩
  unfold dischargeDecision criticalDecision setCritical
  rw [holds]
  split
  · exact kept
  · unfold criticalWithdrawal updatingPower
    rw [if_neg (by simp), commitPower_power]
    dsimp only
    rw [kept, ← grace]

/-! ### The adapter's change -/

/-- R2: what the units do at the adapter's change. -/
def adapterReactions : State → State := anyOrder dischargeDecision evaluate adapterNotice

theorem adapterChange_eq (s : State) : adapterChange s = eitherOrder adapterReactions insertionPowerOn (publishAdapter s) := rfl

theorem publishAdapter_power (s : State) : (publishAdapter s).power = { completeCount .acp s.power s.pins.inputs with
    graceMs := if s.pins.inputs.acp then none else s.power.graceMs } := commitPower_power _ _

theorem adapterReactions_counts (s : State) : (adapterReactions s).power.counts = s.power.counts :=
  anyOrder_establishes (P := fun x => x.power.counts = s.power.counts) (Q := fun x => x.power.counts = s.power.counts)
    (fun x h => (dischargeDecision_counts x).trans h)
    (fun x h => (congrArg Power.counts ((within_evaluate x).power (by simp))).trans h)
    (fun x h => (congrArg Power.counts ((within_evaluate x).power (by simp))).trans h)
    (fun x h => (congrArg Power.counts ((within_adapterNotice x).power (by simp))).trans h)
    (fun x h => (congrArg Power.counts ((within_adapterNotice x).power (by simp))).trans h) rfl

theorem adapterReactions_in {s : State} (adapter : s.adapterIn = true) (grace : s.power.graceMs = none) :
    (adapterReactions s).power = s.power ∧ (adapterReactions s).dsg.selected = none ∧
      (adapterReactions s).dsg.critical = false := by
  have evaluates := fun x => within_evaluate x
  have notices := fun x => within_adapterNotice x
  refine anyOrder_establishes (P := fun x => x.power = s.power)
    (Q := fun x => x.power = s.power ∧ x.dsg.selected = none ∧ x.dsg.critical = false)
    (fun x h => ?_) (fun x h => ((evaluates x).power (by simp)).trans h) (fun x h => ?_)
    (fun x h => ((notices x).power (by simp)).trans h) (fun x h => ?_) rfl
  · obtain ⟨power, sel, crit⟩ := dischargeDecision_adapterIn (s := x) ((congrArg (·.levels.acp) h).trans adapter)
      ((congrArg (·.graceMs) h).trans grace)
    exact ⟨power.trans h, sel, crit⟩
  · rw [(evaluates x).power (by simp), (evaluates x).dsg (by simp)]
    exact h
  · rw [(notices x).power (by simp), (notices x).dsg (by simp)]
    exact h

theorem within_adapterReactions (s : State) : Within adapting s (adapterReactions s) :=
  within_anyOrder (fun y => (within_dischargeDecision y).mono (by simp)) (fun y => (within_evaluate y).mono (by simp))
    (fun y => (within_adapterNotice y).mono (by simp)) s

/-- R10: when an insertion is a power-on cause. -/
theorem insertionPowerOn_cases (s : State) :
    (s.adapterIn = true → s.power.state = .off → autoPowerOnInEffect s = true → s.tripActive = false →
      insertionPowerOn s = takeWake [.autoOn] s) ∧
    (s.tripActive = true → insertionPowerOn s = s) := by
  unfold insertionPowerOn
  refine ⟨fun adapter off auto_ calm => ?_, fun trip => ?_⟩
  · rw [if_pos (by simp [adapter, off, auto_])]
    exact (powerOn_cases .autoOn s).2 calm
  · rw [(powerOn_cases .autoOn s).1 trip]
    exact ite_self s

/-- R10: an insertion moves neither the counts nor the grace. -/
theorem insertionPowerOn_kept (s : State) : (insertionPowerOn s).power.counts = s.power.counts ∧
    (insertionPowerOn s).power.graceMs = s.power.graceMs := by
  unfold insertionPowerOn powerOn
  split
  · next due =>
    split
    · exact ⟨rfl, rfl⟩
    · obtain ⟨_, ⟨_, _, _, _, eq⟩, _⟩ := takeWake_power (s := s) [.autoOn] (by
        simp only [Bool.and_eq_true, beq_iff_eq] at due
        simp [due])
      rw [eq]
      exact ⟨rfl, rfl⟩
  · exact ⟨rfl, rfl⟩

theorem eitherOrder_either (f g : State → State) (s : State) :
    eitherOrder f g s = g (f (useTurn s)) ∨ eitherOrder f g s = f (g (useTurn s)) := by
  unfold eitherOrder
  split
  · exact .inl rfl
  · exact .inr rfl

theorem adapterChange_counts (s : State) : (adapterChange s).power.counts = (publishAdapter s).power.counts := by
  rw [adapterChange_eq]
  rcases eitherOrder_either adapterReactions insertionPowerOn (publishAdapter s) with eq | eq <;> rw [eq]
  · rw [(insertionPowerOn_kept _).1, adapterReactions_counts]
    rfl
  · rw [adapterReactions_counts, (insertionPowerOn_kept _).1]
    rfl

theorem insertionPowerOn_adapterIn (s : State) : (insertionPowerOn s).adapterIn = s.adapterIn :=
  congrArg InputLevels.acp (Mid.ite (mid_powerOn .autoOn s) (Mid.refl true s)).levels

/-- R23, R117: after an insertion no pack is selected, critical battery does not hold, and no grace runs. -/
theorem inserted_selects {s : State} (adapter : s.adapterIn = true) (grace : s.power.graceMs = none) :
    let u := eitherOrder adapterReactions insertionPowerOn s
    u.dsg.selected = none ∧ u.dsg.critical = false ∧ u.power.graceMs = none := by
  dsimp only
  rcases eitherOrder_either adapterReactions insertionPowerOn s with eq | eq <;> rw [eq]
  · obtain ⟨power, selected, critical⟩ := adapterReactions_in (s := useTurn s) adapter grace
    rw [(within_insertionPowerOn _).dsg (by simp), (insertionPowerOn_kept _).2, power]
    exact ⟨selected, critical, grace⟩
  · have free : (insertionPowerOn (useTurn s)).power.graceMs = none := (insertionPowerOn_kept _).2.trans grace
    obtain ⟨power, selected, critical⟩ := adapterReactions_in (s := insertionPowerOn (useTurn s))
      ((insertionPowerOn_adapterIn _).trans adapter) free
    rw [power]
    exact ⟨selected, critical, free⟩

/-- R10: an insertion in OFF. -/
theorem inserted_powersOn {s : State} (adapter : s.adapterIn = true) (grace : s.power.graceMs = none)
    (off : s.power.state = .off) : let u := eitherOrder adapterReactions insertionPowerOn s
    (autoPowerOnInEffect s = true → s.tripActive = false → wokenBy u .autoOn) ∧
    (s.tripActive = true → u.power.state = .off) := by
  dsimp only
  obtain ⟨reacted, _⟩ := adapterReactions_in (s := useTurn s) adapter grace
  have trip : (adapterReactions (useTurn s)).tripActive = s.tripActive :=
    congrArg (fun t => t.slots.any (·.tripped)) ((within_adapterReactions (useTurn s)).th (by simp))
  have inside : (adapterReactions (useTurn s)).adapterIn = true := (congrArg (·.levels.acp) reacted).trans adapter
  have still : (adapterReactions (useTurn s)).power.state = .off := (congrArg (·.state) reacted).trans off
  obtain ⟨after, _⟩ := adapterReactions_in (s := insertionPowerOn (useTurn s))
    ((insertionPowerOn_adapterIn _).trans adapter) ((insertionPowerOn_kept _).2.trans grace)
  rcases eitherOrder_either adapterReactions insertionPowerOn s with eq | eq <;> rw [eq]
  · refine ⟨fun auto_ calm => ?_, fun tripped => ?_⟩
    · have effect : autoPowerOnInEffect (adapterReactions (useTurn s)) = true := by
        unfold autoPowerOnInEffect
        rw [reacted]
        exact auto_
      rw [(insertionPowerOn_cases _).1 inside still effect (trip.trans calm)]
      exact wokenBy_takeWake (by simp [still]) (by simp)
    · rw [(insertionPowerOn_cases _).2 (trip.trans tripped)]
      exact still
  · refine ⟨fun auto_ calm => ?_, fun tripped => ?_⟩
    · have woken := wokenBy_takeWake (s := useTurn s) (fs := [.autoOn]) (f := .autoOn)
        (show s.power.state ≠ .run by simp [off]) (by simp)
      rw [← (insertionPowerOn_cases (useTurn s)).1 adapter off auto_ calm] at woken
      unfold wokenBy at woken ⊢
      rw [after]
      exact woken
    · rw [after, (insertionPowerOn_cases (useTurn s)).2 tripped]
      exact off

/-- Settles O10: the level, then what an insertion does in both orders of the reactions. -/
theorem adapterChangeTakesLevel : Obligations.AdapterChangeTakesLevel := by
  intro s high runs
  have w := within_adapterChange s
  have power := publishAdapter_power s
  have level : (publishAdapter s).power.levels.acp = s.pins.inputs.acp := by rw [power]; rfl
  have count : (publishAdapter s).power.counts.acp = none := by rw [power]; rfl
  have levels : (adapterChange s).power.levels = (publishAdapter s).power.levels := by
    rw [adapterChange_levels, power]
    rfl
  have published := within_publishAdapter s
  have trip : (publishAdapter s).tripActive = s.tripActive :=
    congrArg (fun t => t.slots.any (·.tripped)) (published.th (by simp))
  have grace : s.pins.inputs.acp = true → (publishAdapter s).power.graceMs = none := fun high => by
    rw [power]
    exact if_pos high
  refine ⟨adapterChange s, (event_next _ s high).trans (by rw [runs]; rfl), by rw [levels, level],
    by rw [adapterChange_counts, count], fun adapter => ?_, fun adapter off auto_ calm => ?_, fun adapter off tripped => ?_,
    w.pack .pack0 (by simp), w.pack .pack1 (by simp), w.th (by simp), w.sameEngines (by simp) (by simp) (by simp),
    w.sameButQueue (by simp) (by simp) (by simp)⟩
  · exact inserted_selects (level.trans adapter) (grace adapter)
  · refine (inserted_powersOn (level.trans adapter) (grace adapter) ?_).1 ?_ (trip.trans calm)
    · rw [power]
      exact off
    · unfold autoPowerOnInEffect
      rw [power]
      exact auto_
  · refine (inserted_powersOn (level.trans adapter) (grace adapter) ?_).2 (trip.trans tripped)
    rw [power]
    exact off

end Sys2Proof.Proofs.WatchAndAdapter
end

section
/-! PROOF. What an evaluation does to port A (R71, R72, R138), and the requests for a transfer and a bus reset (R70, R76). -/
set_option Elab.async false

namespace Sys2Proof.Proofs.PortRequests

open Sys2Proof Sys2Proof.Machine Sys2Proof.Safety Sys2Proof.Laws Sys2Proof.Proofs.Frames Sys2Proof.Proofs.Updates
  Sys2Proof.Proofs.Units Sys2Proof.Proofs.Completion Sys2Proof.Proofs.Requests Sys2Proof.Proofs.Wire Sys2Proof.Proofs.ScanModes

/-! ### The write group that an evaluation offers -/

/-- R72, R138: what write groups offered one after another do to a port: one waits, or an IDLE port grants the first. -/
def Regrouped (x y : Port) : Prop :=
  y = x ∨ (x.state ≠ .idle ∧ (x.state ≠ .halted ∧ x.state ≠ .disabled) ∧ ∃ g, y = { x with charger := g }) ∨
    (x.state = .idle ∧ ∃ w g, y = { putOnBus (.charger w) x with charger := g })

theorem Regrouped.refl (x : Port) : Regrouped x x := .inl rfl

theorem Regrouped.trans {x y z : Port} (a : Regrouped x y) (b : Regrouped y z) : Regrouped x z := by
  rcases a with rfl | ⟨busy, live, g, rfl⟩ | ⟨idle, w, g, rfl⟩
  · exact b
  · rcases b with rfl | ⟨_, _, h, rfl⟩ | ⟨idle, _⟩
    · exact .inr (.inl ⟨busy, live, g, rfl⟩)
    · exact .inr (.inl ⟨busy, live, h, rfl⟩)
    · exact absurd idle busy
  · rcases b with rfl | ⟨_, _, h, rfl⟩ | ⟨idle, _⟩
    · exact .inr (.inr ⟨idle, w, g, rfl⟩)
    · exact .inr (.inr ⟨idle, w, h, rfl⟩)
    · exact absurd idle (by simp [putOnBus])

theorem regrouped_takeGroup (g : WriteGroup) {x : Port} (halted : x.state ≠ .halted) (disabled : x.state ≠ .disabled) :
    Regrouped x (takeGroup g x) := by
  by_cases idle : x.state = .idle
  · rw [takeGroup_idle g idle]
    exact .inr (.inr ⟨idle, g, none, rfl⟩)
  · rw [takeGroup_busy g idle]
    exact .inr (.inl ⟨idle, ⟨halted, disabled⟩, some g, rfl⟩)

/-- A port that is not idle keeps all but its waiting group. -/
theorem Regrouped.of_busy {x y : Port} (a : Regrouped x y) (busy : x.state ≠ .idle) : ∃ g, y = { x with charger := g } := by
  rcases a with rfl | ⟨_, _, g, eq⟩ | ⟨idle, _⟩
  · exact ⟨_, rfl⟩
  · exact ⟨g, eq⟩
  · exact absurd idle busy

theorem Regrouped.halted {x y : Port} (a : Regrouped x y) (h : x.state ≠ .halted) : y.state ≠ .halted := by
  rcases a with rfl | ⟨_, _, g, rfl⟩ | ⟨_, w, g, rfl⟩
  · exact h
  · exact h
  · simp [putOnBus]

theorem Regrouped.disabled {x y : Port} (a : Regrouped x y) (h : x.state ≠ .disabled) : y.state ≠ .disabled := by
  rcases a with rfl | ⟨_, _, g, rfl⟩ | ⟨_, w, g, rfl⟩
  · exact h
  · exact h
  · simp [putOnBus]

/-- R69, R62: a HALTED or DISABLED port takes no group. -/
theorem Regrouped.of_shut {x y : Port} (a : Regrouped x y) (shut : x.state = .halted ∨ x.state = .disabled) : y = x := by
  rcases a with own | ⟨_, ⟨halted, disabled⟩, _⟩ | ⟨idle, _⟩
  · exact own
  · exact absurd shut (by simp [halted, disabled])
  · exact absurd shut (by simp [idle])

theorem regrouped_writeDecision (s : State) : Regrouped s.portA (writeDecision s).portA := by
  unfold writeDecision offerGroup
  split
  · exact Regrouped.refl _
  · split
    · exact Regrouped.refl _
    · next live =>
      simp only [Bool.or_eq_true, beq_iff_eq, not_or] at live
      have taken := port_updatingPort .a (takeGroup (desiredGroup s)) s
      have granted : (updatingPort .a (takeGroup (desiredGroup s)) s).portA = takeGroup (desiredGroup s) s.portA := taken
      rw [granted]
      exact regrouped_takeGroup _ live.1 live.2

theorem regrouped_evaluateOnce (f : Charge → Charge) (s : State) : Regrouped s.portA (evaluateOnce f s).portA := by
  have same : (evaluateOnce f s).portA =
      (writeDecision { s with chg := evaluated { s with chg := f s.chg } }).portA := by
    unfold evaluateOnce updating
    exact ((within_chargeNotice s.chg _).port .a (by simp)).trans (commit_portA _ _ _)
  rw [same]
  exact regrouped_writeDecision { s with chg := evaluated { s with chg := f s.chg } }

theorem regrouped_evaluateAgain : (n d : Nat) → (s : State) → Regrouped s.portA (evaluateAgain n d s).portA
  | 0, _, _ => Regrouped.refl _
  | n + 1, d, s => by
    unfold evaluateAgain
    split
    · exact Regrouped.refl _
    · exact (regrouped_evaluateOnce id s).trans (regrouped_evaluateAgain n _ _)

theorem regrouped_evaluateWith (f : Charge → Charge) (s : State) : Regrouped s.portA (evaluateWith f s).portA :=
  (regrouped_evaluateOnce f s).trans (regrouped_evaluateAgain _ _ _)

theorem regrouped_evaluate (s : State) : Regrouped s.portA (evaluate s).portA := regrouped_evaluateWith id s

theorem regrouped_setPortCause (b : Bool) (s : State) : Regrouped s.portA (setPortCause b s).portA := by
  unfold setPortCause setInhibit
  split
  · exact Regrouped.refl _
  · exact regrouped_evaluateWith _ s

/-- R124: the PORT cause at a port that is not idle. -/
theorem portCause_port {p : PortId} {s : State} (b : Bool) (busy : (s.port p).state ≠ .idle) :
    ∃ g, (portCause p b s).port p = { s.port p with charger := g } := by
  cases p
  · exact (regrouped_setPortCause b s).of_busy busy
  · exact ⟨s.portB.charger, rfl⟩

/-! ### A held slot -/

/-- A slot that was not held holds the work with which it joins the list. -/
theorem heldWork_append {s t : State} {n : Nat} {w : HeldWork} (free : isHeld s n = false)
    (posted : t.posted = s.posted ++ [⟨n, w⟩]) : heldWork t n = some w := by
  have none : s.posted.find? (fun h => h.slot == n) = none := by
    rw [List.find?_eq_none]
    intro h m own
    have held : isHeld s n = true := List.any_eq_true.mpr ⟨h, m, own⟩
    rw [free] at held
    exact Bool.noConfusion held
  unfold heldWork
  rw [posted, List.find?_append, none]
  simp

/-- R187: the state in which a taken slot holds its work. -/
abbrev holding (n : Nat) (w : HeldWork) (s : State) : State := holdSlot n w (taken n s)

theorem within_holding (n : Nat) (w : HeldWork) (s : State) : Within (completing n) s (holding n w s) :=
  (within_taken n s).next (within_holdSlot n w _) (by simp)

theorem slotState_holding {s : State} (wf : memoryCanonical s) (n : Nat) (w : HeldWork) :
    slotState (holding n w s) n = slotActive := slotState_setSlotState wf (by decide)

/-- A held slot answered with one result. -/
theorem answeredHeld {n : Nat} {s : State} (wf : memoryCanonical s) (w : HeldWork) (r : Result) {d : Nat} (small : d < 65536)
    {reply : List ReplyBytes} (fits : FitsSlot reply) : doneWith (completeSlot n r d reply (holding n w s)) n r d ∧
      onlyCompletes n s (completeSlot n r d reply (holding n w s)) :=
  answered (within_holding n w s) (canonical_taken wf n) r small fits

/-! ### BUS_TRANSFER -/

theorem transferFault_small {s : State} {n d : Nat} (h : transferFault s n = some d) : d < 65536 := by
  have bounded : ∀ a b : Bool, ∀ k : TxKind, ∀ z : Nat, (if a = false then some 4 else if b = false then some 5
      else if k = .quick ∧ z ≠ 0 then some 6 else none) = some d → d < 65536 := by
    intro a b k z eq
    split at eq
    · exact Option.some.inj eq ▸ (by decide)
    · split at eq
      · exact Option.some.inj eq ▸ (by decide)
      · split at eq
        · exact Option.some.inj eq ▸ (by decide)
        · exact absurd eq (by simp)
  unfold transferFault at h
  dsimp only at h
  split at h
  · exact Option.some.inj h ▸ (by decide)
  · split at h
    · exact Option.some.inj h ▸ (by decide)
    · split at h
      · exact Option.some.inj h ▸ (by decide)
      · exact bounded _ _ _ _ h

theorem transferFault_taken (n : Nat) (s : State) : transferFault (taken n s) n = transferFault s n := by
  unfold transferFault
  simp only [taken_param]

theorem busTransfer_cases (n : Nat) (s : State) :
    (∀ d, transferFault s n = some d → busTransfer n s = completeSlot n .badParam d [(8, [0#8])] s) ∧
    (transferFault s n = none →
      busTransfer n s = offerTransfer n (holdSlot n (.transfer (portOfNat (slotParam s n 0))) s)) := by
  unfold busTransfer
  exact ⟨fun d fault => by rw [fault], fun fine => by rw [fine]⟩

/-- R76: a transfer by the state of its port. -/
theorem offerTransfer_cases {n : Nat} {s : State} {p : PortId} (own : portOfNat (slotParam s n 0) = p) :
    ((s.port p).state = .halted → offerTransfer n s = completeSlot n .portHalted 1 [(8, [0#8])] s) ∧
    ((s.port p).state = .disabled → offerTransfer n s = completeSlot n .portHalted 2 [(8, [0#8])] s) ∧
    ((s.port p).state ≠ .halted → (s.port p).state ≠ .disabled → offerTransfer n s = offerWork p (.host n) s) := by
  subst own
  unfold offerTransfer
  dsimp only
  refine ⟨fun halted => by rw [halted]; rfl, fun disabled => by rw [disabled]; rfl, fun halted disabled => ?_⟩
  split
  · next h => exact absurd h halted
  · next h => exact absurd h disabled
  all_goals rfl

/-- R72: a host transfer granted at once or waiting. -/
theorem port_offerWork_host (p : PortId) (n : Nat) (s : State) : (offerWork p (.host n) s).port p =
    if (s.port p).state = .idle ∧ nothingWaits (s.port p) = true then { s.port p with
      state := .busy, granted := some (.host n), starting := true, second := false, fairness := 0 }
    else { s.port p with hosts := (s.port p).hosts ++ [n] } := by
  unfold offerWork
  split
  · exact port_updatingPort p (putOnBus (.host n)) s
  · exact port_updatingPort p (joinList (.host n)) s

theorem within_offerWork_host (p : PortId) (n : Nat) (s : State) : Within [.port p] s (offerWork p (.host n) s) :=
  within_offerWork p _ s (by simp) fun _ e => Work.noConfusion e

/-! ### BUS_RESET -/

theorem busReset_cases {n : Nat} {s : State} {p : PortId} (own : portOfNat (slotParam s n 0) = p) :
    (1 < slotParam s n 0 → busReset n s = completeSlot n .badParam 1 [] s) ∧
    (slotParam s n 0 ≤ 1 → busReset n s = busResetRequest n p (holdSlot n (.busReset p) s)) := by
  subst own
  exact ⟨fun bad => if_pos bad, fun good => if_neg (by omega)⟩

/-- R70: the port fields of a bus reset at a halted port. -/
def resetting (n : Nat) (x : Port) : Port :=
  { x with state := .recovering, attempts := 0, retryMs := none, running := true, busReset := some n }

theorem busResetRequest_cases (n : Nat) (p : PortId) (s : State) :
    ((s.port p).state = .halted → busResetRequest n p s = portCause p false (updatingPort p (resetting n) s)) ∧
    ((s.port p).state ≠ .halted → busResetRequest n p s = completeSlot n .ok 0 [] s) :=
  ⟨fun halted => if_pos halted, fun running => if_neg running⟩

theorem busResetRequest_port {n : Nat} {p : PortId} {s : State} (halted : (s.port p).state = .halted) :
    ∃ g, (busResetRequest n p s).port p = { resetting n (s.port p) with charger := g } := by
  have port := port_updatingPort p (resetting n) s
  obtain ⟨g, eq⟩ := portCause_port (p := p) (s := updatingPort p (resetting n) s) false (by
    rw [port]
    exact fun h => PortState.noConfusion h)
  rw [port] at eq
  rw [(busResetRequest_cases n p s).1 halted]
  exact ⟨g, eq⟩

/-- Settles O47: the checks, then the port's state. -/
theorem portRequestsTaken : Obligations.PortRequestsTaken := by
  refine ⟨fun n s high wf posted free => ?_, fun n s high wf posted free => ?_⟩
  · dsimp only
    generalize own : portOfNat (slotParam s n.val 0) = p
    obtain ⟨bad, good⟩ := busTransfer_cases n.val (taken n.val s)
    rw [transferFault_taken] at bad good
    rw [taken_param, own] at good
    obtain ⟨halts, disables, offers⟩ := offerTransfer_cases (n := n.val) (s := holding n.val (.transfer p) s) (p := p)
      ((congrArg portOfNat (taken_param n.val 0 s)).trans own)
    have port : (holding n.val (.transfer p) s).port p = s.port p := (within_holding n.val _ s).port p (by simp)
    rw [port] at halts disables offers
    have fits : FitsSlot [(8, [0#8])] := fitsSlot_byte 8 0#8 (by decide)
    refine ⟨_, event_takePost high posted, fun d fault => ?_, fun fine halted => ?_, fun fine disabled => ?_,
      fun fine halted disabled => ?_⟩
    · rw [bad d fault]
      exact answered (within_taken n.val s) (canonical_taken wf n.val) _ (transferFault_small fault) fits
    · rw [good fine, halts halted]
      exact answeredHeld wf _ _ (by decide) fits
    · rw [good fine, disables disabled]
      exact answeredHeld wf _ _ (by decide) fits
    · rw [good fine, offers halted disabled]
      have offered := within_offerWork_host p n.val (holding n.val (.transfer p) s)
      have w := ((within_holding n.val (.transfer p) s).then offered).mono (W := .port p :: completing n.val) (by simp)
      refine ⟨?_, (slotState_of_same (offered.slot n.val (by simp) (by simp))).trans (slotState_holding wf _ _),
        heldWork_append free (offered.posted (by simp)),
        w.sameButSlot (by simp) (by simp) (by simp) (fun m ne => by simp [ne]), w.samePacks (by simp) (by simp),
        w.sameControl (by simp) (by simp), w.samePlatform (by simp) (by simp) (by simp)⟩
      rw [port_offerWork_host, port]
  · dsimp only
    generalize own : portOfNat (slotParam s n.val 0) = p
    obtain ⟨bad, good⟩ := busReset_cases (n := n.val) (s := taken n.val s) (p := p)
      ((congrArg portOfNat (taken_param n.val 0 s)).trans own)
    rw [taken_param] at bad good
    have w := (within_taken n.val s).then (within_busReset n.val (taken n.val s))
    have port : (holding n.val (.busReset p) s).port p = s.port p := (within_holding n.val _ s).port p (by simp)
    refine ⟨_, event_takePost high posted, fun out => ?_, fun fine halted => ?_, fun fine running => ?_, w.power (by simp),
      w.kbd (by simp), w.th (by simp), w.samePacks (by simp) (by simp),
      w.sameButSlotAndQueue (by simp) (by simp) (fun m ne => by simp [ne])⟩
    · rw [bad out]
      exact refused wf _ (by decide)
    · rw [good fine]
      obtain ⟨g, eq⟩ := busResetRequest_port (n := n.val) (s := holding n.val (.busReset p) s) (p := p) (by rw [port]; exact halted)
      have restarted := (within_updatingPort p (resetting n.val) (holding n.val (.busReset p) s)).then (within_portCause p false _)
      have slot := restarted.slot n.val (by simp) (by simp)
      rw [← (busResetRequest_cases n.val p _).1 (by rw [port]; exact halted)] at slot
      rw [eq, slotState_of_same slot, slotState_holding wf]
      exact ⟨rfl, rfl, rfl, rfl, rfl, rfl⟩
    · rw [good fine, (busResetRequest_cases n.val p _).2 (by rw [port]; exact running)]
      exact answeredHeld wf _ _ (by decide) fitsSlot_nil

end Sys2Proof.Proofs.PortRequests
end

section
/-! PROOF. The rules of the pack monitor's moves (R105 to R116), PROBE_PACK and the change of a presence level. -/
set_option Elab.async false

namespace Sys2Proof.Proofs.Probes

open Sys2Proof Sys2Proof.Machine Sys2Proof.Safety Sys2Proof.Laws Sys2Proof.Proofs.Frames Sys2Proof.Proofs.Updates
  Sys2Proof.Proofs.Units Sys2Proof.Proofs.Completion Sys2Proof.Proofs.Requests Sys2Proof.Proofs.PortRequests
  Sys2Proof.Proofs.ScanModes Sys2Proof.Proofs.Inputs

/-! ### An update of one pack's fields -/

theorem updatingPack_pack (r : Rec) (k : PackId) (f : State → Pack) (s : State) :
    (updating r (fun x => x.setPack k (f x)) s).pack k = f s := by
  unfold updating
  rw [commit_pack]
  exact pack_setPack k (f s) s

theorem updatingPack_portA (r : Rec) (k : PackId) (f : State → Pack) (s : State) :
    (updating r (fun x => x.setPack k (f x)) s).portA = s.portA := (within_updatingPack r k f s).port .a (by simp)

theorem updatingPort_portA (f : Port → Port) (s : State) : (updatingPort .a f s).portA = f s.portA := port_updatingPort .a f s

theorem regrouped_from {s t u : State} (same : t.portA = s.portA) (h : Regrouped t.portA u.portA) :
    Regrouped s.portA u.portA := by rwa [same] at h

/-! ### A change of a pack's state -/

/-- R108: the pack after a change of its state. -/
theorem setPackState_pack (k : PackId) (new : PackState) (r : PackReason) (f : Pack → Pack) (s : State) :
    (setPackState k new r f s).pack k = { f (s.pack k) with state := new, reason := r } := by
  unfold setPackState
  dsimp only
  rw [(within_evaluate _).pack k (by simp), (within_dischargeDecision _).pack k (by simp), (within_offer _ _).pack k (by simp),
    commit_pack]
  exact updatingPack_pack (.pack k) k _ s

theorem setPackState_profile (k : PackId) (new : PackState) (r : PackReason) (f : Pack → Pack) (s : State) :
    (setPackState k new r f s).chg.profile = s.chg.profile := by
  unfold setPackState
  dsimp only
  rw [(low_evaluate _).profile, (mid_dischargeDecision _).profile, (within_offer _ _).chg (by simp), commit_chg, updating,
    commit_chg]
  cases k <;> rfl

theorem regrouped_setPackState (k : PackId) (new : PackState) (r : PackReason) (f : Pack → Pack) (s : State) :
    Regrouped s.portA (setPackState k new r f s).portA := by
  have before := ((within_commit (.probe k) s (within_updatingPack (.pack k) k
    (fun x => { f (x.pack k) with state := new, reason := r }) s)).then (within_offer (.pack k r (s.pack k).state new
      ((commit (.probe k) s (updating (.pack k) (fun x => x.setPack k { f (x.pack k) with state := new, reason := r })
        s)).pack k).values.soc) _)).then (within_dischargeDecision _)
  exact regrouped_from (before.port .a (by simp)) (regrouped_evaluate _)

/-! ### The start of a probe -/

/-- R111: the run that a probe starts with. -/
def firstRun (k : PackId) (s : State) : ProbeRun :=
  ⟨1, (targetOf s.engineA.list (packTarget s.chg.profile k)).address, (targetOf s.engineA.list (packTarget s.chg.profile k)).pec⟩

/-- R111, R115: the state in which a run waits in the probe record. -/
def waiting (k : PackId) (run : ProbeRun) (s : State) : State :=
  updating (.probe k) (fun x => x.setPack k { x.pack k with
    probe := some run, record := { (x.pack k).record with state := .waiting } }) s

theorem within_waiting (k : PackId) (run : ProbeRun) (s : State) : Within [.pack k] s (waiting k run s) :=
  within_updatingPack _ k _ s

theorem waiting_pack (k : PackId) (run : ProbeRun) (s : State) : (waiting k run s).pack k =
    { s.pack k with probe := some run, record := { (s.pack k).record with state := .waiting } } := by
  exact updatingPack_pack (.probe k) k _ s

/-- R72: at a port that takes work the step is offered. -/
theorem offerStep_live {k : PackId} {run : ProbeRun} {s : State} (halted : s.portA.state ≠ .halted)
    (disabled : s.portA.state ≠ .disabled) :
    offerStep k run s = offerWork .a (.probe (stepUnit (waiting k run s) k run)) (waiting k run s) := by
  have port : (waiting k run s).portA = s.portA := (within_waiting k run s).port .a (by simp)
  refine if_neg ?_
  show ¬ ((waiting k run s).portA.state = .halted ∨ (waiting k run s).portA.state = .disabled)
  simp [port, halted, disabled]

/-- R106: the pack after the grant of its step. -/
theorem probeGranted_pack {u : ProbeUnit} {k : PackId} (own : u.pack = k) (s : State) :
    ∃ r, (probeGranted u s).pack k = { (if (s.pack k).state = .detected then
      { s.pack k with state := .probing, reason := .probeStart } else s.pack k) with record := r } := by
  subst own
  have told : (updating (.probe u.pack) (fun x => x.setPack u.pack { x.pack u.pack with
      record := { (x.pack u.pack).record with state := .running } }) s).pack u.pack =
      { s.pack u.pack with record := { (s.pack u.pack).record with state := .running } } := updatingPack_pack (.probe u.pack) u.pack _ s
  unfold probeGranted probeBegun
  rw [told]
  split
  · rw [setPackState_pack, told]
    exact ⟨_, rfl⟩
  · rw [told]
    exact ⟨_, rfl⟩

theorem probeGranted_port (u : ProbeUnit) (s : State) : Regrouped s.portA (probeGranted u s).portA := by
  have told := updatingPack_portA (.probe u.pack) u.pack (fun x => { x.pack u.pack with
    record := { (x.pack u.pack).record with state := .running } }) s
  unfold probeGranted probeBegun
  split
  · exact regrouped_from told (regrouped_setPackState _ _ _ _ _)
  · exact .inl told

/-- R72, R111: a step offered to a port that cannot grant it at once. -/
theorem offerStep_waits {k : PackId} {run : ProbeRun} {s : State} (halted : s.portA.state ≠ .halted)
    (disabled : s.portA.state ≠ .disabled) (busy : ¬ (s.portA.state = .idle ∧ nothingWaits s.portA = true)) :
    ∃ r, (offerStep k run s).pack k = { s.pack k with probe := some run, record := r } ∧
      (offerStep k run s).portA.granted = s.portA.granted := by
  have port : (waiting k run s).portA = s.portA := (within_waiting k run s).port .a (by simp)
  rw [offerStep_live halted disabled]
  unfold offerWork
  rw [if_neg (show ¬ (((waiting k run s).port .a).state = .idle ∧ nothingWaits ((waiting k run s).port .a) = true) by
    rw [show (waiting k run s).port .a = s.portA from port]; exact busy), (within_updatingPort .a _ _).pack k (by simp), waiting_pack]
  have joined : (updatingPort .a (joinList (.probe (stepUnit (waiting k run s) k run))) (waiting k run s)).portA =
      joinList (.probe (stepUnit (waiting k run s) k run)) (waiting k run s).portA := updatingPort_portA _ _
  rw [joined, port]
  exact ⟨_, rfl, rfl⟩

/-- R72, R106, R111: a step granted at once. -/
theorem offerStep_granted {k : PackId} {run : ProbeRun} {s : State} (idle : s.portA.state = .idle)
    (empty : nothingWaits s.portA = true) :
    (∃ r, (offerStep k run s).pack k = { (if (s.pack k).state = .detected then
        { s.pack k with state := .probing, reason := .probeStart } else s.pack k) with probe := some run, record := r }) ∧
      ∃ y, (offerStep k run s).portA.granted = some (.probe y) ∧ y.pack = k ∧ y.step = run.step := by
  have port : (waiting k run s).portA = s.portA := (within_waiting k run s).port .a (by simp)
  rw [offerStep_live (by simp [idle]) (by simp [idle])]
  unfold offerWork
  rw [if_pos (show ((waiting k run s).port .a).state = .idle ∧ nothingWaits ((waiting k run s).port .a) = true by
    rw [show (waiting k run s).port .a = s.portA from port]; exact ⟨idle, empty⟩)]
  have onBus : (updatingPort .a (putOnBus (.probe (stepUnit (waiting k run s) k run))) (waiting k run s)).portA =
      putOnBus (.probe (stepUnit (waiting k run s) k run)) (waiting k run s).portA := updatingPort_portA _ _
  have still : (updatingPort .a (putOnBus (.probe (stepUnit (waiting k run s) k run))) (waiting k run s)).pack k =
      { s.pack k with probe := some run, record := { (s.pack k).record with state := .waiting } } := by
    rw [(within_updatingPort .a _ _).pack k (by simp), waiting_pack]
  obtain ⟨r, granted⟩ := probeGranted_pack (u := stepUnit (waiting k run s) k run) (k := k) rfl
    (updatingPort .a (putOnBus (.probe (stepUnit (waiting k run s) k run))) (waiting k run s))
  obtain ⟨g, kept⟩ := (probeGranted_port (stepUnit (waiting k run s) k run)
    (updatingPort .a (putOnBus (.probe (stepUnit (waiting k run s) k run))) (waiting k run s))).of_busy (by
      rw [onBus]
      exact fun h => PortState.noConfusion h)
  constructor
  · refine ⟨r, granted.trans ?_⟩
    rw [still]
    by_cases detected : (s.pack k).state = .detected <;> simp [detected]
  · refine ⟨stepUnit (waiting k run s) k run, ?_, rfl, rfl⟩
    show (probeGranted _ _).portA.granted = _
    rw [kept, onBus]
    rfl

theorem startProbe_eq (k : PackId) (s : State) : ∃ f, startProbe k s = offerStep k (firstRun k s)
    (updating (.probe k) (fun x => x.setPack k { x.pack k with record := f }) s) := ⟨_, rfl⟩

/-- What a fresh record changes. -/
theorem freshRecord_pack (k : PackId) (f : ProbeRecord) (s : State) :
    (updating (.probe k) (fun x => x.setPack k { x.pack k with record := f }) s).pack k = { s.pack k with record := f } :=
  updatingPack_pack (.probe k) k _ s

theorem freshRecord_port (k : PackId) (f : ProbeRecord) (s : State) :
    (updating (.probe k) (fun x => x.setPack k { x.pack k with record := f }) s).portA = s.portA :=
  updatingPack_portA (.probe k) k _ s

theorem startProbe_waits {k : PackId} {s : State} (halted : s.portA.state ≠ .halted) (disabled : s.portA.state ≠ .disabled)
    (busy : ¬ (s.portA.state = .idle ∧ nothingWaits s.portA = true)) :
    ∃ r, (startProbe k s).pack k = { s.pack k with probe := some (firstRun k s), record := r } ∧
      (startProbe k s).portA.granted = s.portA.granted := by
  obtain ⟨f, eq⟩ := startProbe_eq k s
  have port := freshRecord_port k f s
  obtain ⟨r, pack, granted⟩ := offerStep_waits (k := k) (run := firstRun k s)
    (s := updating (.probe k) (fun x => x.setPack k { x.pack k with record := f }) s) (by rw [port]; exact halted)
    (by rw [port]; exact disabled) (by rw [port]; exact busy)
  rw [freshRecord_pack] at pack
  rw [eq, pack, granted, port]
  exact ⟨r, rfl, rfl⟩

theorem startProbe_granted {k : PackId} {s : State} (idle : s.portA.state = .idle) (empty : nothingWaits s.portA = true) :
    (∃ r, (startProbe k s).pack k = { (if (s.pack k).state = .detected then
        { s.pack k with state := .probing, reason := .probeStart } else s.pack k) with
          probe := some (firstRun k s), record := r }) ∧
      ∃ y, (startProbe k s).portA.granted = some (.probe y) ∧ y.pack = k ∧ y.step = 1 := by
  obtain ⟨f, eq⟩ := startProbe_eq k s
  have port := freshRecord_port k f s
  obtain ⟨⟨r, pack⟩, y, granted, own, first⟩ := offerStep_granted (k := k) (run := firstRun k s)
    (s := updating (.probe k) (fun x => x.setPack k { x.pack k with record := f }) s) (by rw [port]; exact idle)
    (by rw [port]; exact empty)
  rw [freshRecord_pack] at pack
  rw [eq, granted]
  refine ⟨⟨r, pack.trans ?_⟩, y, rfl, own, first⟩
  by_cases detected : (s.pack k).state = .detected <;> simp [detected]

/-- R111: the probe of a pack that is known to the monitor. -/
theorem startProbe_known {k : PackId} {s : State} (halted : s.portA.state ≠ .halted) (disabled : s.portA.state ≠ .disabled)
    (known : (s.pack k).state ≠ .detected) :
    ∃ r, (startProbe k s).pack k = { s.pack k with probe := some (firstRun k s), record := r } := by
  by_cases free : s.portA.state = .idle ∧ nothingWaits s.portA = true
  · obtain ⟨idle, empty⟩ := free
    obtain ⟨⟨r, pack⟩, _⟩ := startProbe_granted (k := k) idle empty
    rw [if_neg known] at pack
    exact ⟨r, pack⟩
  · obtain ⟨r, pack, _⟩ := startProbe_waits (k := k) halted disabled free
    exact ⟨r, pack⟩

/-! ### PROBE_PACK -/

theorem attachRequest_pack (k : PackId) (n : Nat) (s : State) :
    (attachRequest k n s).pack k = { s.pack k with request := some n } := pack_setPack k _ s

/-- R116: the pack that a request sends to PROBING. -/
def requested (k : PackId) (n : Nat) (s : State) : State :=
  setPackState k .probing .request (fun p => { p with failures := 0 }) (attachRequest k n s)

theorem requested_pack (k : PackId) (n : Nat) (s : State) : (requested k n s).pack k =
    { s.pack k with request := some n, failures := 0, state := .probing, reason := .request } := by
  unfold requested
  rw [setPackState_pack, attachRequest_pack]

theorem probePack_cases (n : Nat) (s : State) :
    (packOfNat s (slotParam s n 0) = none → probePack n s = completeSlot n .badParam 1 [] s) ∧
    ∀ k, packOfNat s (slotParam s n 0) = some k → ∀ x, x = holdSlot n (.probe k) s →
      ((s.pack k).request.isSome = true → probePack n s = completeSlot n .busy 0 [] x) ∧
      ((s.pack k).request = none → (s.pack k).state = .absent → probePack n s = completeSlot n .noPack 0 [] x) ∧
      ((s.pack k).request = none → (s.pack k).state = .online ∨ (s.pack k).state = .faulted →
        probePack n s = startProbe k (requested k n x)) ∧
      ((s.pack k).request = none → (s.pack k).state = .detected ∨ (s.pack k).state = .probing ∨ (s.pack k).state = .lost →
        probePack n s = if (s.pack k).probe.isSome then attachRequest k n x else startProbe k (attachRequest k n x)) := by
  unfold probePack
  refine ⟨fun named => by rw [named], fun k named x held => ?_⟩
  rw [named]
  have again : packOfNat x (slotParam x n 0) = some k := by rw [held]; exact named
  have pack : x.pack k = s.pack k := by rw [held]; cases k <;> rfl
  dsimp only
  rw [← held, ← pack]
  unfold probeRequest
  rw [again]
  dsimp only
  refine ⟨fun asked => if_pos asked, fun free state => ?_, fun free state => ?_, fun free state => ?_⟩
  · rw [if_neg (by simp [free]), state]
  · rw [if_neg (by simp [free])]
    rcases state with state | state <;> simp only [state] <;> rfl
  · rw [if_neg (by simp [free])]
    rcases state with state | state | state <;> simp only [state]

/-- What a PROBE_PACK of a pack changes, beside what the start of its probe does. -/
theorem within_probePack_of {T : List Part} {n : Nat} {k : PackId} {s : State}
    (named : packOfNat s (slotParam s n 0) = some k) (sub : .slot n :: .posted :: monitoring k ⊆ T)
    (starts : ∀ x, Regrouped s.portA x.portA → Within T x (startProbe k x)) : Within T s (probePack n s) := by
  obtain ⟨busy, absent, settled, waits⟩ := (probePack_cases n s).2 k named _ rfl
  simp only [monitoring, List.cons_subset, List.nil_subset, and_true] at sub
  have held : Within T s (holdSlot n (.probe k) s) := (within_holdSlot n _ s).mono (by simp [sub])
  have done : ∀ r d, Within T s (completeSlot n r d [] (holdSlot n (.probe k) s)) := fun r d =>
    held.next (within_completeSlot n r d [] _ fitsSlot_nil) (by simp [sub])
  have attached : Within T s (attachRequest k n (holdSlot n (.probe k) s)) :=
    held.next (within_attachRequest k n _) (by simp [sub])
  have port : (attachRequest k n (holdSlot n (.probe k) s)).portA = s.portA :=
    (within_attachRequest k n (holdSlot n (.probe k) s)).port .a (by simp)
  cases asked : (s.pack k).request with
  | some m =>
    rw [busy (by simp [asked])]
    exact done _ _
  | none =>
    have restarted : Within T s (startProbe k (requested k n (holdSlot n (.probe k) s))) :=
      (attached.next (within_setPackState k _ _ _ _) (by simp [sub])).trans
        (starts _ (regrouped_from port (regrouped_setPackState _ _ _ _ _)))
    have joined : Within T s (if (s.pack k).probe.isSome then attachRequest k n (holdSlot n (.probe k) s)
        else startProbe k (attachRequest k n (holdSlot n (.probe k) s))) :=
      attached.ite (attached.trans (starts _ (.inl port)))
    cases state : (s.pack k).state with
    | absent =>
      rw [absent asked state]
      exact done _ _
    | online =>
      rw [settled asked (.inl state)]
      exact restarted
    | faulted =>
      rw [settled asked (.inr state)]
      exact restarted
    | detected =>
      rw [waits asked (.inl state)]
      exact joined
    | probing =>
      rw [waits asked (.inr (.inl state))]
      exact joined
    | lost =>
      rw [waits asked (.inr (.inr state))]
      exact joined

theorem otherPack_ne (k : PackId) : otherPack k ≠ k := by cases k <;> simp [otherPack]

theorem seated_taken (n : Nat) (s : State) (k : PackId) : (taken n s).pack k = s.pack k := by cases k <;> rfl

/-- Settles O48: the request by the pack's state, and its frame. -/
theorem probePackTaken : Obligations.ProbePackTaken := by
  intro n s high wf posted free
  obtain ⟨unnamed, cases⟩ := probePack_cases n.val (taken n.val s)
  have same : packOfNat (taken n.val s) (slotParam (taken n.val s) n.val 0) = packOfNat s (slotParam s n.val 0) := by
    rw [taken_param]
    rfl
  rw [same] at unnamed
  refine ⟨_, event_takePost high posted, fun named => ?_, fun k named => ?_⟩
  · rw [unnamed named]
    exact refused wf _ (by decide)
  · obtain ⟨busy, absent, settled, waits⟩ := cases k (same.trans named) _ rfl
    rw [seated_taken] at busy absent settled waits
    have pack : (holding n.val (.probe k) s).pack k = s.pack k := seated_taken n.val s k
    have attached := attachRequest_pack k n.val (holding n.val (.probe k) s)
    rw [pack] at attached
    have port : (attachRequest k n.val (holding n.val (.probe k) s)).portA = s.portA :=
      (within_attachRequest k n.val (holding n.val (.probe k) s)).port .a (by simp)
    have w := (within_taken n.val s).then (within_probePack_of (T := .slot n.val :: probing k) (same.trans named) (by simp)
      fun x _ => (within_startProbe k x).mono (by simp))
    refine ⟨fun asked => ?_, fun unasked state => ?_, fun unasked state halted disabled => ?_, fun unasked runs state => ?_,
      fun unasked idle state halted disabled => ?_, w.pack (otherPack k) (by simp [otherPack_ne]), w.th (by simp),
      w.engine .a (by simp), w.engine .b (by simp), w.port .b (by simp), fun halted disabled => ?_⟩
    · rw [busy asked]
      exact answeredHeld wf _ _ (by decide) fitsSlot_nil
    · rw [absent unasked state]
      exact answeredHeld wf _ _ (by decide) fitsSlot_nil
    · rw [settled unasked state]
      have sent := requested_pack k n.val (holding n.val (.probe k) s)
      have grouped : Regrouped s.portA (requested k n.val (holding n.val (.probe k) s)).portA :=
        regrouped_from port (regrouped_setPackState _ _ _ _ _)
      obtain ⟨r, eq⟩ := startProbe_known (k := k) (grouped.halted halted) (grouped.disabled disabled) (by rw [sent]; simp)
      rw [eq, sent]
      exact ⟨rfl, rfl, rfl, rfl, rfl⟩
    · rw [waits unasked (by rcases state with h | h | h <;> simp [h]), if_pos runs, attached]
    · rw [waits unasked (.inr state), if_neg (by simp [idle])]
      obtain ⟨r, eq⟩ := startProbe_known (k := k) (s := attachRequest k n.val (holding n.val (.probe k) s))
        (by rw [port]; exact halted) (by rw [port]; exact disabled) (by rw [attached]; rcases state with h | h <;> simp [h])
      rw [eq, attached]
      refine ⟨rfl, rfl, rfl, rfl, ?_⟩
      cases k <;> rfl
    · have live := (within_taken n.val s).then (within_probePack_of (T := .slot n.val :: .posted :: monitoring k)
        (same.trans named) (by simp) fun x grouped =>
          (within_startProbe_live k x (grouped.halted halted) (grouped.disabled disabled)).mono (by simp))
      exact live.sameButSlotAndQueue (by simp) (by simp) (fun m ne => by simp [ne])

end Sys2Proof.Proofs.Probes
end

section
/-! PROOF. The rise and the fall of a presence level (R105, R106, R111, R114). -/
set_option Elab.async false

namespace Sys2Proof.Proofs.Presence

open Sys2Proof Sys2Proof.Machine Sys2Proof.Safety Sys2Proof.Laws Sys2Proof.Proofs.Frames Sys2Proof.Proofs.Updates
  Sys2Proof.Proofs.Units Sys2Proof.Proofs.PortRequests Sys2Proof.Proofs.ScanModes Sys2Proof.Proofs.Inputs
  Sys2Proof.Proofs.Probes

/-! ### Nobody asks -/

/-- R116: a failed probe that no request waits for answers nothing. -/
theorem within_probeFails_unasked {k : PackId} {s : State} (unasked : (s.pack k).request = none) (n : Nat) (o : BusOutcome) :
    Within (monitoring k) s (probeFails k n o s) := by
  have recorded : (recordFailure k n o s).pack k = { s.pack k with
      probe := none, failures := (s.pack k).failures + 1
      record := endRecord s .probeFailed (setStep (s.pack k).record n o) } := by
    unfold recordFailure
    rw [commit_pack]
    exact updatingPack_pack (.probe k) k _ s
  have still : ((if 3 ≤ ((recordFailure k n o s).pack k).failures then
      setPackState k .faulted .probeFailed id (recordFailure k n o s) else recordFailure k n o s).pack k).request = none := by
    split
    · rw [setPackState_pack, recorded]
      exact unasked
    · rw [recorded]
      exact unasked
  unfold probeFails
  dsimp only
  rw [completeProbeRequest_unasked still]
  exact within_failure k n o s

theorem probeBegun_request (k : PackId) (s : State) : ((probeBegun k s).pack k).request = (s.pack k).request := by
  unfold probeBegun
  split
  · rw [setPackState_pack]
    rfl
  · rfl

/-- R111: the start of a probe that no request waits for. -/
theorem within_startProbe_unasked {k : PackId} {s : State} (unasked : (s.pack k).request = none) :
    Within (monitoring k) s (startProbe k s) := by
  by_cases live : s.portA.state ≠ .halted ∧ s.portA.state ≠ .disabled
  · exact within_startProbe_live k s live.1 live.2
  · obtain ⟨f, eq⟩ := startProbe_eq k s
    have fresh := freshRecord_pack k f s
    have changed := within_updatingPack (.probe k) k (fun x => { x.pack k with record := f }) s
    have port := freshRecord_port k f s
    rw [eq]
    generalize updating (.probe k) (fun x => x.setPack k { x.pack k with record := f }) s = x at fresh changed port ⊢
    have asked : ((probeBegun k (waiting k (firstRun k s) x)).pack k).request = none := by
      rw [probeBegun_request, waiting_pack, fresh]
      exact unasked
    have back : offerStep k (firstRun k s) x =
        probeFails k 1 .portHalted (probeBegun k (waiting k (firstRun k s) x)) := by
      refine if_pos ?_
      have same : (waiting k (firstRun k s) x).portA = s.portA := (updatingPack_portA _ _ _ _).trans port
      show (waiting k (firstRun k s) x).portA.state = .halted ∨ (waiting k (firstRun k s) x).portA.state = .disabled
      rw [same]
      exact Decidable.or_iff_not_not_and_not.mpr live
    rw [back]
    exact (((changed.mono (W := monitoring k) (by simp)).next (within_waiting k _ x) (by simp)).next (within_probeBegun k _)
      (by simp)).trans (within_probeFails_unasked asked _ _)

/-! ### A fall -/

theorem abandonProbe_pack (k : PackId) (s : State) : (∃ r, (abandonProbe k s).pack k =
    { s.pack k with probe := none, record := r }) := by
  unfold abandonProbe
  split
  · next idle => exact ⟨(s.pack k).record, by rw [← idle]⟩
  · refine ⟨endRecord s .abandoned (s.pack k).record, ?_⟩
    have still : ∀ (x : State) (y : Port), ({ x with portA := y } : State).pack k = x.pack k := fun x y => by cases k <;> rfl
    rw [updating, commit_pack, still]
    exact updatingPack_pack (.probe k) k _ s

theorem completeProbeRequest_pack (k : PackId) (r : Result) (d : Nat) (s : State) :
    (completeProbeRequest k r d s).pack k = { s.pack k with request := none } := by
  unfold completeProbeRequest
  split
  · next unasked => rw [← unasked]
  · rw [(within_completeAny _ _ _ _ _).pack k (by simp)]
    exact pack_setPack k _ s

/-- R105, R114: a pack that is removed. -/
theorem presenceFall_pack {k : PackId} {s : State} (here : (s.pack k).state ≠ .absent) : ∃ r, (presenceFall k s).pack k =
    { clearFaults { s.pack k with probe := none, record := r } with state := .absent, reason := .removed, request := none } := by
  obtain ⟨r, eq⟩ := abandonProbe_pack k s
  unfold presenceFall
  rw [if_neg here, completeProbeRequest_pack, setPackState_pack, eq]
  exact ⟨r, rfl⟩

theorem within_presenceFall_unasked {k : PackId} {s : State} (unasked : (s.pack k).request = none) :
    Within (monitoring k) s (presenceFall k s) := by
  obtain ⟨r, eq⟩ := abandonProbe_pack k s
  have still : ((setPackState k .absent .removed clearFaults (abandonProbe k s)).pack k).request = none := by
    rw [setPackState_pack, eq]
    exact unasked
  unfold presenceFall
  split
  · exact Within.refl _ s
  · rw [completeProbeRequest_unasked still]
    exact ((within_abandonProbe k s).mono (W := monitoring k) (by simp)).trans (within_setPackState k _ _ _ _)

/-! ### A rise -/

/-- R105: the state in which a seated pack has been detected. -/
def detected (k : PackId) (s : State) : State := setPackState k .detected .present id s

theorem detected_pack (k : PackId) (s : State) : (detected k s).pack k = { s.pack k with state := .detected, reason := .present } :=
  setPackState_pack k _ _ _ s

theorem firstRun_detected (k : PackId) (s : State) : firstRun k (detected k s) = firstRun k s := by
  have profile : (detected k s).chg.profile = s.chg.profile := setPackState_profile k _ _ _ s
  have engine : (detected k s).engineA = s.engineA := (within_setPackState k _ _ _ s).engine .a (by simp)
  unfold firstRun
  rw [profile, engine]

theorem presenceRise_cases (k : PackId) (s : State) :
    ((s.pack k).state = .absent → presenceRise k s = startProbe k (detected k s)) ∧
    ((s.pack k).state ≠ .absent → presenceRise k s = s) :=
  ⟨fun absent => if_pos absent, fun here => if_neg here⟩

theorem within_presenceRise_unasked {k : PackId} {s : State} (unasked : (s.pack k).request = none) :
    Within (monitoring k) s (presenceRise k s) := by
  obtain ⟨absent, here⟩ := presenceRise_cases k s
  by_cases state : (s.pack k).state = .absent
  · rw [absent state]
    refine (within_setPackState k .detected .present id s).trans (within_startProbe_unasked (s := detected k s) ?_)
    rw [detected_pack]
    exact unasked
  · rw [here state]
    exact Within.refl _ s

/-- R105, R106, R111, R72: a pack that is seated, at a port that takes work. -/
theorem presenceRise_absent {k : PackId} {s : State} (absent : (s.pack k).state = .absent) (halted : s.portA.state ≠ .halted)
    (disabled : s.portA.state ≠ .disabled) :
    let u := presenceRise k s
    (s.portA.state ≠ .idle ∨ nothingWaits s.portA = false → (u.pack k).state = .detected ∧ (u.pack k).reason = .present) ∧
    (s.portA.state = .idle → nothingWaits s.portA = true →
      ((u.pack k).state = .detected ∧ (u.pack k).reason = .present ∧ ∃ g, u.portA.granted = some (.charger g)) ∨
      ((u.pack k).state = .probing ∧ (u.pack k).reason = .probeStart ∧
        ∃ y, u.portA.granted = some (.probe y) ∧ y.pack = k ∧ y.step = 1)) ∧
    (u.pack k).probe = some (firstRun k s) := by
  have pack := detected_pack k s
  have grouped : Regrouped s.portA (detected k s).portA := regrouped_setPackState k _ _ _ s
  have run := firstRun_detected k s
  dsimp only
  rw [(presenceRise_cases k s).1 absent]
  by_cases free : (detected k s).portA.state = .idle ∧ nothingWaits (detected k s).portA = true
  · obtain ⟨idle, empty⟩ := free
    obtain ⟨⟨r, eq⟩, granted⟩ := startProbe_granted (k := k) idle empty
    rw [pack, if_pos rfl, run] at eq
    have still : (detected k s).portA = s.portA := by
      rcases grouped with own | ⟨busy, _, g, own⟩ | ⟨_, w, g, own⟩
      · exact own
      · rw [own] at idle
        exact absurd idle busy
      · rw [own] at idle
        exact absurd idle (by simp [putOnBus])
    rw [still] at idle empty
    rw [eq]
    exact ⟨fun h => absurd h (by simp [idle, empty]), fun _ _ => .inr ⟨rfl, rfl, granted⟩, rfl⟩
  · obtain ⟨r, eq, granted⟩ := startProbe_waits (k := k) (grouped.halted halted) (grouped.disabled disabled) free
    rw [pack, run] at eq
    rw [eq]
    refine ⟨fun _ => ⟨rfl, rfl⟩, fun idle empty => .inl ⟨rfl, rfl, ?_⟩, rfl⟩
    rcases grouped with own | ⟨busy, _⟩ | ⟨_, w, g, own⟩
    · rw [own] at free
      exact absurd ⟨idle, empty⟩ free
    · exact absurd idle busy
    · rw [granted, own]
      exact ⟨w, rfl⟩

/-! ### The change of a presence level -/

theorem seated_eq (k : PackId) (s : State) : s.seated k = inputLevel s.power.levels (presenceInput k) := by
  cases k <;> rfl

theorem presenceChange_seated (k : PackId) (s : State) :
    (presenceChange k s).seated k = inputLevel s.pins.inputs (presenceInput k) := by
  rw [seated_eq, presenceChange_levels, inputLevel_setInputLevel]

theorem presenceChange_cases (k : PackId) (s : State) :
    (inputLevel s.pins.inputs (presenceInput k) = true →
      presenceChange k s = presenceRise k (publishLevel (presenceInput k) s)) ∧
    (inputLevel s.pins.inputs (presenceInput k) = false →
      presenceChange k s = presenceFall k (publishLevel (presenceInput k) s)) := by
  have seated : (publishLevel (presenceInput k) s).seated k = inputLevel s.pins.inputs (presenceInput k) := by
    rw [seated_eq, publishLevel_levels, inputLevel_setInputLevel]
  unfold presenceChange
  dsimp only
  rw [seated]
  exact ⟨fun high => if_pos high, fun low => if_neg (by simp [low])⟩

theorem presenceInput_other (k : PackId) : presenceInput k ≠ .lid := by cases k <;> simp [presenceInput]

/-- Settles O11: the rise of an absent pack, any other rise, the fall, and the frame. -/
theorem packPresenceChangeMovesPack : Obligations.PackPresenceChangeMovesPack := by
  intro k s high runs
  have published := within_publishLevel (presenceInput k) s (presenceInput_other k)
  have pack : (publishLevel (presenceInput k) s).pack k = s.pack k := published.pack k (by simp)
  have port : (publishLevel (presenceInput k) s).portA = s.portA := published.port .a (by simp)
  have run : firstRun k (publishLevel (presenceInput k) s) = firstRun k s := by
    have engine : (publishLevel (presenceInput k) s).engineA = s.engineA := published.engine .a (by simp)
    unfold firstRun
    rw [published.chg (by simp), engine]
  obtain ⟨rise, fall⟩ := presenceChange_cases k s
  have w := within_presenceChange k s
  refine ⟨presenceChange k s, (event_next _ s high).trans (by rw [runs]; rfl), presenceChange_seated k s,
    fun up absent halted disabled => ?_, fun up here => ?_, fun down here => ?_, w.pack (otherPack k) (by simp [otherPack_ne]),
    w.th (by simp), w.engine .a (by simp), w.engine .b (by simp), w.port .b (by simp), fun decided => ?_, fun unasked => ?_⟩
  · have risen := presenceRise_absent (k := k) (s := publishLevel (presenceInput k) s) (by rw [pack]; exact absent)
      (by rw [port]; exact halted) (by rw [port]; exact disabled)
    rw [port, run, ← rise up] at risen
    exact risen
  · rw [rise up, (presenceRise_cases k _).2 (by rw [pack]; exact here), pack]
  · obtain ⟨r, eq⟩ := presenceFall_pack (k := k) (s := publishLevel (presenceInput k) s) (by rw [pack]; exact here)
    rw [fall down, eq, pack]
    exact ⟨rfl, rfl, rfl, rfl, rfl, rfl, rfl, rfl, rfl, rfl⟩
  · exact (w.keys (by simp) decided).2
  · have quiet : Within (monitoring k) s (presenceChange k s) := by
      cases level : inputLevel s.pins.inputs (presenceInput k)
      · rw [fall level]
        exact (published.mono (by simp)).trans (within_presenceFall_unasked (by rw [pack]; exact unasked))
      · rw [rise level]
        exact (published.mono (by simp)).trans (within_presenceRise_unasked (by rw [pack]; exact unasked))
    exact ⟨quiet.posted (by simp), quiet.sameButQueue (by simp) (by simp) (by simp)⟩

end Sys2Proof.Proofs.Presence
end

section
/-! PROOF. Stuck buses and recovery attempts (R64 to R69): how a port moves, and what handing back its work leaves of it. -/
set_option Elab.async false

namespace Sys2Proof.Proofs.Recovery

open Sys2Proof Sys2Proof.Machine Sys2Proof.Safety Sys2Proof.Laws Sys2Proof.Proofs.Frames Sys2Proof.Proofs.Updates
  Sys2Proof.Proofs.Units Sys2Proof.Proofs.Completion Sys2Proof.Proofs.PortRequests Sys2Proof.Proofs.ScanModes
  Sys2Proof.Proofs.Probes

/-! ### What handing work back does to port A -/

theorem regrouped_loseCharger (s : State) : Regrouped s.portA (loseCharger s).portA := by
  unfold loseCharger
  split
  · exact regrouped_evaluateWith _ s
  · exact Regrouped.refl _

theorem regrouped_groupEnd (g : WriteGroup) (o : BusOutcome) (s : State) : Regrouped s.portA (groupEnd g o s).portA := by
  have noted : (updating .charger (fun x => { x with chg := groupOutcome g o x.chg }) s).portA = s.portA :=
    (within_chgUpdate (fun x => groupOutcome g o x.chg) s).port .a (by simp)
  unfold groupEnd
  dsimp only
  split
  · exact regrouped_from noted (regrouped_evaluate _)
  · exact regrouped_from noted (regrouped_loseCharger _)

theorem regrouped_refuseGroup : (g : Option WriteGroup) → (s : State) → Regrouped s.portA (refuseGroup g s).portA
  | none, _ => Regrouped.refl _
  | some g, s => regrouped_groupEnd g _ s

theorem regrouped_probeBegun (k : PackId) (s : State) : Regrouped s.portA (probeBegun k s).portA := by
  unfold probeBegun
  split
  · exact regrouped_setPackState k _ _ _ s
  · exact Regrouped.refl _

theorem regrouped_probeFails (k : PackId) (n : Nat) (o : BusOutcome) (s : State) :
    Regrouped s.portA (probeFails k n o s).portA := by
  have recorded : (recordFailure k n o s).portA = s.portA := (within_recordFailure k n o s).port .a (by simp)
  have failed : Regrouped s.portA (if 3 ≤ ((recordFailure k n o s).pack k).failures then
      setPackState k .faulted .probeFailed id (recordFailure k n o s) else recordFailure k n o s).portA := by
    split
    · exact regrouped_from recorded (regrouped_setPackState k _ _ _ _)
    · exact .inl recorded
  have answered : ∀ x, (completeProbeRequest k .probeFailed n x).portA = x.portA := fun x =>
    (within_completeProbeRequest k _ _ x).port .a (by simp)
  unfold probeFails
  dsimp only
  rw [answered]
  exact failed

/-- R112: a step that does not end with OK ends its probe. -/
theorem regrouped_probeStepEnd {o : BusOutcome} (bad : o ≠ .ok) (u : ProbeUnit) (d : List Byte) (s : State) :
    Regrouped s.portA (probeStepEnd u o d s).portA := by
  unfold probeStepEnd
  dsimp only
  split
  · exact Regrouped.refl _
  · split
    · exact Regrouped.refl _
    · exact regrouped_probeFails _ _ _ s

theorem regrouped_refuseProbes : (l : List ProbeUnit) → (s : State) → Regrouped s.portA (refuseProbes l s).portA
  | [], _ => Regrouped.refl _
  | u :: rest, s => ((regrouped_probeBegun u.pack s).trans (regrouped_probeStepEnd (by simp) u [] _)).trans
      (regrouped_refuseProbes rest _)

theorem endBusReset_port (p : PortId) (r : Result) (d : Nat) (s : State) :
    (endBusReset p r d s).port p = { s.port p with busReset := none } := by
  unfold endBusReset
  split
  · next idle => rw [← idle]
  · rw [(within_completeAny _ _ _ _ _).port p (by simp)]
    exact port_setPort p _ s

/-- R62, R69: what waits is refused; a HALTED or DISABLED port takes nothing in reply. -/
theorem refuseWaiting_port {p : PortId} {s : State} (shut : (s.port p).state = .halted ∨ (s.port p).state = .disabled)
    (old : Port) (d : Nat) : (refuseWaiting p old d s).port p = { s.port p with busReset := none } := by
  have hosts : (refuseHosts d old.hosts s).port p = s.port p := (within_refuseHosts d old.hosts s).port p (by simp)
  have still : (refuseProbes old.probes (refuseGroup old.charger (refuseHosts d old.hosts s))).port p = s.port p := by
    cases p with
    | a => exact (regrouped_from hosts ((regrouped_refuseGroup _ _).trans (regrouped_refuseProbes _ _))).of_shut shut
    | b =>
      exact ((within_refuseProbes _ _).port .b (by simp)).trans (((within_refuseGroup _ _).port .b (by simp)).trans hosts)
  unfold refuseWaiting
  rw [endBusReset_port, still]

theorem portCause_shut {p : PortId} {s : State} (b : Bool)
    (shut : (s.port p).state = .halted ∨ (s.port p).state = .disabled) : (portCause p b s).port p = s.port p := by
  cases p with
  | a => exact (regrouped_setPortCause b s).of_shut shut
  | b => rfl

/-! ### The ends of an attempt -/

/-- R69: the third failed attempt. -/
theorem enterHalted_port (p : PortId) (f : Port → Port) (s : State) : (enterHalted p f s).port p =
    { emptyLists (f (s.port p)) with
      state := .halted, attempts := 3, retryMs := some 0, running := false, busReset := none } := by
  have moved : (offer (.port p .halted) (updatingPort p (fun x => { emptyLists (f x) with
      state := .halted, attempts := 3, retryMs := some 0, running := false }) s)).port p =
      { emptyLists (f (s.port p)) with state := .halted, attempts := 3, retryMs := some 0, running := false } :=
    ((within_offer _ _).port p (by simp)).trans (port_updatingPort p _ s)
  have refused := refuseWaiting_port (p := p) (.inl (by rw [moved])) (s.port p) 1
  unfold enterHalted
  dsimp only
  rw [portCause_shut _ (by rw [refused, moved]; exact .inl rfl), refused, moved]

theorem attemptFails_pulses (p : PortId) (r : Nat × Bool) (s : State) : ((attemptFails p r s).port p).pulses = r.1 := by
  unfold attemptFails
  split
  · rw [enterHalted_port]
    rfl
  · rw [port_updatingPort]
    rfl

/-- R67: the port fields at a successful attempt. -/
def recoveredFields (r : Nat × Bool) (x : Port) : Port :=
  { noteAttempt r x with state := .idle, attempts := 0, retryMs := none, busReset := none }

/-- R67, R69, R124: a successful attempt; where PORT leaves the inhibit set, a write group may be granted at once. -/
theorem attemptSucceeds_port (p : PortId) (r : Nat × Bool) (s : State) :
    (attemptSucceeds p r s).port p = recoveredFields r (s.port p) ∨
    p = .a ∧ s.chg.inhibit.port = true ∧
      ∃ w g, (attemptSucceeds p r s).port p = { putOnBus (.charger w) (recoveredFields r (s.port p)) with charger := g } := by
  have told := (within_updatingPort p (fun x => { noteAttempt r x with state := .idle, attempts := 0, retryMs := none }) s).then
    (within_offer (.port p .recovered) _)
  have moved : (endBusReset p .ok 0 (offer (.port p .recovered) (updatingPort p (fun x => { noteAttempt r x with
      state := .idle, attempts := 0, retryMs := none }) s))).port p = recoveredFields r (s.port p) := by
    rw [endBusReset_port, (within_offer _ _).port p (by simp), port_updatingPort]
    rfl
  have chg := (told.then (within_endBusReset p .ok 0 _)).chg (by simp)
  unfold attemptSucceeds
  dsimp only
  generalize endBusReset p .ok 0 _ = x at moved chg ⊢
  cases p with
  | b => exact .inl moved
  | a =>
    have port : x.portA = recoveredFields r s.portA := moved
    cases inhibited : s.chg.inhibit.port with
    | false =>
      refine .inl ((congrArg State.portA (?_ : setPortCause false x = x)).trans port)
      refine if_pos ?_
      rw [chg, ← inhibited]
    | true =>
      rcases regrouped_setPortCause false x with own | ⟨busy, _⟩ | ⟨_, w, g, own⟩
      · exact .inl (own.trans port)
      · rw [port] at busy
        exact absurd rfl busy
      · rw [port] at own
        exact .inr ⟨rfl, rfl, w, g, own⟩

/-- R66 to R69: the end of an attempt that neither a recovery step nor a disable waits for. -/
theorem attemptEnds_cases {p : PortId} {s : State} (r : Nat × Bool) (running : (s.port p).running = true)
    (stays : (s.port p).disableDue = false) :
    ((s.port p).state = .recovering ∨ (s.port p).state = .halted → r.2 = true → attemptEnds p r s = attemptSucceeds p r s) ∧
    ((s.port p).state = .recovering → r.2 = false → attemptEnds p r s = attemptFails p r s) ∧
    ((s.port p).state = .halted → r.2 = false → attemptEnds p r s = retryFails p r s) := by
  unfold attemptEnds
  dsimp only
  refine ⟨fun state good => ?_, fun state bad => ?_, fun state bad => ?_⟩
  · rcases state with state | state <;> simp only [state, running, stays, good, if_true, Bool.false_eq_true, if_false]
  · simp only [state, running, stays, bad, if_true, Bool.false_eq_true, if_false]
  · simp only [state, running, stays, bad, if_true, Bool.false_eq_true, if_false]

/-- Settles O25: the attempt's end by its result and the attempts that have failed. -/
theorem recoveryAttemptEndByCount : Obligations.RecoveryAttemptEndByCount := by
  intro p seen s high running stays state
  have w := within_attemptEnd p seen s
  have lined := within_setLine p seen.after s
  have port : (s.setLine p seen.after).port p = s.port p := lined.port p (by simp)
  have runs : attemptEnd p seen s = attemptEnds p (attemptResult seen) (s.setLine p seen.after) := if_pos running
  obtain ⟨succeeds, fails, retries⟩ := attemptEnds_cases (p := p) (s := s.setLine p seen.after) (attemptResult seen)
    (by rw [port]; exact running) (by rw [port]; exact stays)
  rw [port] at succeeds fails retries
  rw [runs] at w
  refine ⟨attemptEnds p (attemptResult seen) (s.setLine p seen.after), (event_next _ s high).trans (by rw [runs]), ?_⟩
  generalize attemptResult seen = r at succeeds fails retries w ⊢
  refine ⟨?_, fun good => ?_, fun bad recovering few => ?_, fun bad recovering many => ?_, fun bad halted => ?_,
    w.engine .a (by simp), w.engine .b (by simp), fun decided => (w.keys (by simp) decided).2, w.th (by simp)⟩
  · rcases Bool.eq_false_or_eq_true r.2 with good | bad
    · rw [succeeds state good]
      rcases attemptSucceeds_port p r (s.setLine p seen.after) with eq | ⟨_, _, _, _, eq⟩
      · rw [eq]; rfl
      · rw [eq]; rfl
    · rcases state with recovering | halted
      · rw [fails recovering bad]
        exact attemptFails_pulses p r _
      · rw [retries halted bad, retryFails, port_updatingPort]
        rfl
  · rw [succeeds state good]
    rcases attemptSucceeds_port p r (s.setLine p seen.after) with eq | ⟨a, inhibited, v, g, eq⟩
    · rw [eq, port]
      refine ⟨.inl rfl, rfl, ?_, ?_, rfl, rfl⟩ <;> simp [recoveredFields, noteAttempt, good]
    · rw [eq, port]
      refine ⟨.inr ⟨a, ?_, rfl, v, rfl⟩, rfl, ?_, ?_, rfl, rfl⟩
      · rwa [lined.chg (by simp)] at inhibited
      all_goals simp [putOnBus, recoveredFields, noteAttempt, good]
  · have counted : attemptFails p r (s.setLine p seen.after) =
        updatingPort p (fun x => { noteAttempt r x with attempts := x.attempts + 1 }) (s.setLine p seen.after) :=
      if_neg (by rw [port]; omega)
    rw [fails recovering bad, counted, port_updatingPort, port]
    refine ⟨recovering, rfl, rfl, ?_⟩
    simp [noteAttempt, bad]
  · have third : attemptFails p r (s.setLine p seen.after) = enterHalted p (noteAttempt r) (s.setLine p seen.after) :=
      if_pos (by rw [port]; omega)
    rw [fails recovering bad, third, enterHalted_port]
    exact ⟨rfl, rfl, rfl, rfl, rfl, rfl, rfl⟩
  · have again := (lined.then (within_retryFails p r _))
    rw [retries halted bad]
    refine ⟨?_, ?_, ?_, again.queue (by simp), again.mem (by simp)⟩ <;> rw [retryFails, port_updatingPort, port]
    · exact halted
    · rfl

end Sys2Proof.Proofs.Recovery
end

section
/-! PROOF. The ends of a transaction and of a stretched clock (R57 to R65, R72 to R76, R138, R139). -/
set_option Elab.async false

namespace Sys2Proof.Proofs.TransactionEnds

open Sys2Proof Sys2Proof.Machine Sys2Proof.Safety Sys2Proof.Laws Sys2Proof.Proofs.Frames Sys2Proof.Proofs.Updates
  Sys2Proof.Proofs.Units Sys2Proof.Proofs.Completion Sys2Proof.Proofs.PortRequests Sys2Proof.Proofs.ScanModes
  Sys2Proof.Proofs.Probes Sys2Proof.Proofs.Recovery Sys2Proof.Proofs.Commands

/-! ### Work handed back and handed over -/

theorem enterRecovering_port (p : PortId) (c : StuckCause) (f : Port → Port) (s : State) :
    (enterRecovering p c f s).port p = { f (s.port p) with
      state := .recovering, attempts := 0, running := true, stuck := c, granted := none, starting := false, second := false } :=
  ((within_offer _ _).port p (by simp)).trans (port_updatingPort p _ s)

/-- R65: the port after data found low. -/
theorem stuckData_port (p : PortId) (w : Work) (s : State) : (stuckData p w s).port p = { sendBack w (s.port p) with
    state := .recovering, attempts := 0, running := true, stuck := .dataLow, granted := none, starting := false
    second := false } := by
  unfold stuckData
  rw [enterRecovering_port, (within_sentBack w s).port p (by simp)]

/-- R72: handing over the outcome of a unit other than a poll entry or a probe step that goes on leaves a busy port all but its
waiting group. -/
theorem handOutcome_port {p : PortId} {w : Work} {o : BusOutcome} {s : State} (noPoll : ∀ n, w ≠ .poll n)
    (ends : o ≠ .ok ∨ ∀ u, w ≠ .probe u) (d : List Byte) (busy : (s.port p).state = .busy) :
    ∃ g, (handOutcome p w o d s).port p = { s.port p with charger := g } := by
  have same : ∀ t : State, t.port p = s.port p → ∃ g, t.port p = { s.port p with charger := g } := fun t h => ⟨_, h⟩
  have grouped : ∀ t : State, Regrouped s.portA t.portA → t.portB = s.portB → ∃ g, t.port p = { s.port p with charger := g } :=
    fun t first second => by
      cases p with
      | a => exact first.of_busy (by rw [show s.portA.state = .busy from busy]; simp)
      | b => exact same t second
  cases w with
  | poll n => exact absurd rfl (noPoll n)
  | host n => exact same _ ((within_transferEnds n o d s).port p (by simp))
  | charger g => exact grouped _ (regrouped_groupEnd g o s) ((within_groupEnd g o s).port .b (by simp))
  | probe u =>
    have bad : o ≠ .ok := ends.resolve_right fun h => h u rfl
    exact grouped _ (regrouped_probeStepEnd bad u d s) ((within_probeStepEnd u o d s).port .b (by simp))

/-- R72, R78: the state in which a unit's outcome is handed over. -/
def ended (p : PortId) (t : Transaction) (o : BusOutcome) (s : State) : State :=
  updatingPort p (fun x => { noteTransaction t o x with state := .busy, granted := none, starting := false, second := false }) s

theorem ended_port (p : PortId) (t : Transaction) (o : BusOutcome) (s : State) : (ended p t o s).port p =
    { noteTransaction t o (s.port p) with state := .busy, granted := none, starting := false, second := false } :=
  port_updatingPort p _ s

theorem within_ended (p : PortId) (t : Transaction) (o : BusOutcome) (s : State) : Within [.port p] s (ended p t o s) :=
  within_updatingPort p _ s

theorem unitEnds_eq (p : PortId) (w : Work) (t : Transaction) (o : BusOutcome) (d : List Byte) (s : State) :
    unitEnds p w t o d s = afterUnit p o (handOutcome p w o d (ended p t o s)) := rfl

/-- R62 to R64: what follows where no disable is due. -/
theorem afterUnit_cases {p : PortId} {s : State} (stays : (s.port p).disableDue = false) :
    afterUnit p .clockTimeout s = enterRecovering p .clockLow id s ∧
    ∀ o, o ≠ .clockTimeout → afterUnit p o s = updatingPort p (fun x => { x with state := .idle }) s := by
  unfold afterUnit
  refine ⟨if_pos ⟨rfl, stays⟩, fun o other => ?_⟩
  rw [if_neg fun h => other h.1]
  exact if_neg (by simp [stays])

/-! ### Stuck buses -/

theorem transactionEnd_of {p : PortId} {w : Work} {s : State} (own : onBus s p = some w) (r : TransactionResult) (l : BusLine) :
    transactionEnd p r l s = transactionEnds p w r (s.setLine p l) := by
  unfold transactionEnd
  rw [own]

theorem clockTimeout_of {p : PortId} {w : Work} {s : State} (own : onBus s p = some w) :
    clockTimeout p s = clockTimesOut p w s := by
  unfold clockTimeout
  rw [own]

/-- Settles O24: data found low, then a stretch past the limit. -/
theorem stuckBusRecovers : Obligations.StuckBusRecovers := by
  refine ⟨fun p w line s high own => ?_, fun p w s high wf own noPoll stays => ?_⟩
  · have lined := within_setLine p line s
    have port : (s.setLine p line).port p = s.port p := lined.port p (by simp)
    have frame := lined.then (within_stuckData p w (s.setLine p line))
    refine ⟨stuckData p w (s.setLine p line), (event_next _ s high).trans (by rw [transactionEnd_of own]; rfl), ?_⟩
    rw [stuckData_port, port]
    refine ⟨rfl, rfl, rfl, rfl, rfl, fun n h => ?_, fun n h => ?_, fun g h => ?_, fun x h live => ?_, frame.power (by simp),
      frame.kbd (by simp), frame.posted (by simp), frame.dsg (by simp), frame.engine .a (by simp), frame.engine .b (by simp),
      frame.sameControl (by simp) (by simp), frame.sameButQueue (by simp) (by simp) (by simp)⟩
    · rw [h]; rfl
    · rw [h]; rfl
    · rw [h]; rfl
    · rw [h]
      simp [sendBack, live]
  · have runs : clockTimeout p s = unitEnds p w (workTransaction s p w (s.port p).second) .clockTimeout [] s :=
      clockTimeout_of own
    generalize workTransaction s p w (s.port p).second = t at runs
    have port := ended_port p t .clockTimeout s
    have first := within_ended p t .clockTimeout s
    obtain ⟨g, handed⟩ := handOutcome_port (w := w) (o := .clockTimeout) (s := ended p t .clockTimeout s) noPoll
      (.inl (by simp)) [] (by rw [port])
    rw [port] at handed
    have after := (afterUnit_cases (p := p) (s := handOutcome p w .clockTimeout [] (ended p t .clockTimeout s))
      (by rw [handed]; exact stays)).1
    rw [unitEnds_eq, after] at runs
    refine ⟨_, (event_next _ s high).trans (by rw [runs]), ?_⟩
    rw [enterRecovering_port, handed]
    refine ⟨rfl, rfl, rfl, rfl, rfl, rfl, fun n h => ?_⟩
    subst h
    have wf1 := (keeps_updatingPort p (fun x => { noteTransaction t .clockTimeout x with
      state := .busy, granted := none, starting := false, second := false }) s (fun _ h => h)).memory wf
    have done := doneWith_completeSlot (s := ended p t .clockTimeout s) wf1 n .clockTimeout (d := 0) (by decide)
      [(8, [BitVec.ofNat 8 0]), (16, [])]
    have fits : FitsSlot [(8, [BitVec.ofNat 8 0]), (16, [])] := by simp [FitsSlot]
    have answered := within_completeSlot n .clockTimeout 0 [(8, [BitVec.ofNat 8 0]), (16, [])] (ended p t .clockTimeout s) fits
    have stuck := within_enterRecovering p .clockLow id (handOutcome p (.host n) .clockTimeout [] (ended p t .clockTimeout s))
    have frame := (first.then answered).then stuck
    exact ⟨doneWith_within (t := handOutcome p (.host n) .clockTimeout [] (ended p t .clockTimeout s)) done stuck
        (keeps_enterRecovering p _ _ _ (fun _ => rfl)) (by simp) (by simp) (by simp),
      frame.sameButSlotAndQueue (by simp) (by simp) (fun m ne => by simp [ne]), frame.samePacks (by simp) (by simp),
      frame.sameControl (by simp) (by simp), frame.power (by simp), frame.kbd (by simp)⟩

/-! ### The outcome of a write group -/

theorem evaluated_writeOutcome (s : State) : (evaluated s).writeOutcome = s.chg.writeOutcome := by
  have selected : ∀ x sel, (select x sel).writeOutcome = x.chg.writeOutcome := fun x sel => by
    unfold select
    split <;> rfl
  have computed : ∀ x k, (computeFor x k).writeOutcome = x.chg.writeOutcome := fun x k => by
    unfold computeFor
    dsimp only
    split <;> rfl
  have waits : (waitingSwitch s).writeOutcome = s.chg.writeOutcome := by
    unfold waitingSwitch
    dsimp only
    split <;> rfl
  unfold evaluated
  split
  · exact selected s none
  · split
    · exact selected s none
    · split
      · exact selected s none
      · split
        · exact computed s _
        · split
          · exact (computed _ _).trans (selected s _)
          · exact waits

/-- R69: only a port that takes no work refuses a group at once. -/
theorem writeDecision_chg {s : State} (halted : s.portA.state ≠ .halted) (disabled : s.portA.state ≠ .disabled) :
    (writeDecision s).chg = s.chg := by
  unfold writeDecision offerGroup
  split
  · rfl
  · rw [if_neg (by simp [halted, disabled])]
    exact chg_updatingPort _ _ s

theorem evaluateOnce_writeOutcome (f : Charge → Charge) {s : State} (halted : s.portA.state ≠ .halted)
    (disabled : s.portA.state ≠ .disabled) : (evaluateOnce f s).chg.writeOutcome = (f s.chg).writeOutcome := by
  rw [chg_evaluateOnce, writeDecision_chg (s := { s with chg := evaluated { s with chg := f s.chg } }) halted disabled]
  exact evaluated_writeOutcome { s with chg := f s.chg }

theorem evaluateAgain_writeOutcome (n d : Nat) {s : State} (halted : s.portA.state ≠ .halted)
    (disabled : s.portA.state ≠ .disabled) : (evaluateAgain n d s).chg.writeOutcome = s.chg.writeOutcome := by
  induction n generalizing d s with
  | zero => rfl
  | succ n ih =>
    unfold evaluateAgain
    split
    · rfl
    · have grouped := regrouped_evaluateOnce id s
      exact (ih _ (grouped.halted halted) (grouped.disabled disabled)).trans (evaluateOnce_writeOutcome id halted disabled)

theorem evaluateWith_writeOutcome (f : Charge → Charge) {s : State} (halted : s.portA.state ≠ .halted)
    (disabled : s.portA.state ≠ .disabled) : (evaluateWith f s).chg.writeOutcome = (f s.chg).writeOutcome := by
  have grouped := regrouped_evaluateOnce f s
  exact (evaluateAgain_writeOutcome _ _ (grouped.halted halted) (grouped.disabled disabled)).trans
    (evaluateOnce_writeOutcome f halted disabled)

theorem groupOutcome_cases (g : WriteGroup) (o : BusOutcome) (c : Charge) : (groupOutcome g o c).writeOutcome = o ∧
    (o = .ok → (groupOutcome g o c).written = some ⟨g.current, g.voltage⟩ ∧ (groupOutcome g o c).writeFailures = 0) := by
  unfold groupOutcome
  split
  · exact ⟨rfl, fun _ => ⟨rfl, rfl⟩⟩
  · next bad =>
    split
    · exact ⟨rfl, fun h => absurd h bad⟩
    · exact ⟨rfl, fun h => absurd h bad⟩

/-- R139: the outcome stored, and with OK the pair written. -/
theorem groupEnd_chg (g : WriteGroup) (o : BusOutcome) {s : State} (halted : s.portA.state ≠ .halted)
    (disabled : s.portA.state ≠ .disabled) : (groupEnd g o s).chg.writeOutcome = o ∧
    (o = .ok → (groupEnd g o s).chg.written = some ⟨g.current, g.voltage⟩ ∧ (groupEnd g o s).chg.writeFailures = 0) := by
  have noted : (updating .charger (fun x => { x with chg := groupOutcome g o x.chg }) s).chg = groupOutcome g o s.chg := by
    unfold updating
    rw [commit_chg]
  have port : (updating .charger (fun x => { x with chg := groupOutcome g o x.chg }) s).portA = s.portA :=
    (within_chgUpdate (fun x => groupOutcome g o x.chg) s).port .a (by simp)
  obtain ⟨outcome, stored⟩ := groupOutcome_cases g o s.chg
  unfold groupEnd
  dsimp only
  generalize updating .charger (fun x => { x with chg := groupOutcome g o x.chg }) s = x at noted port ⊢
  have kept : ∀ f : Charge → Charge, (f x.chg).writeOutcome = x.chg.writeOutcome → (f x.chg).written = x.chg.written →
      (f x.chg).writeFailures = x.chg.writeFailures → (evaluateWith f x).chg.writeOutcome = o ∧
      (o = .ok → (evaluateWith f x).chg.written = some ⟨g.current, g.voltage⟩ ∧ (evaluateWith f x).chg.writeFailures = 0) :=
    fun f same written failures => by
      obtain ⟨_, _, _, _, _, _, _, _, _, _, _, eq⟩ := evaluates_evaluateWith f x
      refine ⟨?_, fun ok => ?_⟩
      · rw [evaluateWith_writeOutcome f (by rw [port]; exact halted) (by rw [port]; exact disabled), same, noted, outcome]
      · rw [eq]
        dsimp only
        rw [written, failures, noted]
        exact stored ok
  split
  · exact kept id rfl rfl rfl
  · unfold loseCharger
    split
    · exact kept (fun c => { c with inhibit := { c.inhibit with chargerLost := true }, goodReads := 0 }) rfl rfl rfl
    · rw [noted]
      exact ⟨outcome, stored⟩

/-! ### What a transaction delivers -/

theorem checkPec_bounded (t : Transaction) (r : Reply) (covered : List Byte) {data : List Byte} (short : data.length ≤ 32) :
    (checkPec t r covered data).1 ≠ .clockTimeout ∧ (checkPec t r covered data).2.length ≤ 32 := by
  unfold checkPec
  split
  · exact ⟨by simp, by simp⟩
  · exact ⟨by simp, short⟩

/-- R58, R59: a transaction that runs to its end does not time out, and delivers at most 32 bytes. -/
theorem transactionOutcome_bounded (t : Transaction) (r : Reply) :
    (transactionOutcome t r).1 ≠ .clockTimeout ∧ (transactionOutcome t r).2.length ≤ 32 := by
  have nothing : ∀ o : BusOutcome, o ≠ .clockTimeout → (o, ([] : List Byte)).1 ≠ .clockTimeout ∧
      (o, ([] : List Byte)).2.length ≤ 32 := fun o h => ⟨h, by simp⟩
  unfold transactionOutcome
  split
  · split
    · exact nothing _ (by simp)
    · exact nothing _ (by simp)
  · split
    · exact nothing _ (by simp)
    · exact nothing _ (by simp)
    · exact nothing _ (by simp)
    · exact checkPec_bounded t r _ (by simp)
    · dsimp only
      split
      · exact nothing _ (by simp)
      · next good =>
        refine checkPec_bounded t r _ ?_
        rw [Wire.badCount_iff] at good
        rw [List.length_map, List.length_range]
        omega

/-! ### The reply of a transfer -/

/-- R188: completion writes below the parameter area. -/
theorem read_completeSlot (n : Nat) (r : Result) (d : Nat) (reply : List ReplyBytes) (s : State) {a : Nat}
    (here : slotBase n + 16 ≤ a) : Memory.read (completeSlot n r d reply s).mem a = Memory.read (storeReply n reply s).mem a := by
  obtain ⟨b, eq⟩ := completeSlot_eq n r d reply s
  rw [eq]
  show Memory.read (Memory.writeList (Memory.writeList (Memory.writeList (storeReply n reply s).mem (slotBase n + 6)
    (bytes16 d ++ [b])) (slotBase n + 4) (bytes16 r.code)) (slotBase n) (bytes16 slotDone)) a = _
  rw [read_writeList_outside _ _ _ (.inr (by simp [bytes16]; omega)), read_writeList_outside _ _ _ (.inr (by simp [bytes16]; omega)),
    read_writeList_outside _ _ _ (.inr (by simp [bytes16]; omega))]

theorem readList_congr {m m' : Memory} {a n : Nat} (same : ∀ i, i < n → Memory.read m (a + i) = Memory.read m' (a + i)) :
    Memory.readList m a n = Memory.readList m' a n :=
  List.map_congr_left fun i h => same i (List.mem_range.mp h)

/-- R76: the count and the bytes read stand in the slot. -/
theorem transferEnds_reply {s : State} (wf : memoryCanonical s) (n : Nat) (o : BusOutcome) {d : List Byte}
    (short : d.length ≤ 32) : slotParam (transferEnds n o d s) n 8 = d.length ∧
      Memory.readList (transferEnds n o d s).mem (slotBase n + 32) d.length = d := by
  have counted : memoryCanonical (storeBytes (slotBase n + 16 + 8) [BitVec.ofNat 8 d.length] s) := storeBytes_wf _ _ wf
  have read : ∀ a, slotBase n + 16 ≤ a → Memory.read (transferEnds n o d s).mem a = Memory.read (Memory.writeList
      (storeBytes (slotBase n + 16 + 8) [BitVec.ofNat 8 d.length] s).mem (slotBase n + 32) d) a := fun a here =>
    read_completeSlot n (resultOf o) 0 _ s here
  constructor
  · have byte : Memory.read (transferEnds n o d s).mem (slotBase n + 16 + 8) = BitVec.ofNat 8 d.length := by
      rw [read _ (by omega), read_writeList_outside _ _ _ (.inl (by omega))]
      exact (Memory.read_writeList wf _ _ _).trans (by simp)
    exact (congrArg BitVec.toNat byte).trans (by simp; omega)
  · rw [readList_congr fun i _ => read _ (by omega)]
    exact readList_stored counted _ d

/-! ### The end of a transaction -/

theorem onBus_iff {s : State} {p : PortId} {w : Work} (own : onBus s p = some w) : (s.port p).state = .busy ∧
    (s.port p).granted = some w := by
  unfold onBus at own
  split at own
  · next busy =>
    simp only [Bool.and_eq_true, beq_iff_eq] at busy
    exact ⟨busy.1, own⟩
  · exact absurd own (by simp)

theorem line_of_pins {s t : State} (pins : t.pins = s.pins) (p : PortId) : t.line p = s.line p := by
  cases p
  · exact congrArg PinLevels.lineA pins
  · exact congrArg PinLevels.lineB pins

/-- R76: a host transfer's transaction ends. -/
theorem hostTransactionEnds {p : PortId} {n : Nat} {s : State} (wf : memoryCanonical s) (stays : (s.port p).disableDue = false)
    (t : Transaction) {o : BusOutcome} {d : List Byte} (ran : o ≠ .clockTimeout) (short : d.length ≤ 32) :
    let u := unitEnds p (.host n) t o d s
    doneWith u n (resultOf o) 0 ∧ slotParam u n 8 = d.length ∧ Memory.readList u.mem (slotBase n + 32) d.length = d ∧
      (∃ g, u.port p = { noteTransaction t o (s.port p) with
        state := .idle, granted := none, starting := false, second := false, charger := g }) ∧
      u.pins = s.pins ∧ Within (.port p :: completing n) s u := by
  have first := within_ended p t o s
  have port := ended_port p t o s
  have kept := keeps_updatingPort p (fun x => { noteTransaction t o x with
    state := .busy, granted := none, starting := false, second := false }) s (fun _ h => h)
  have wf1 : memoryCanonical (ended p t o s) := kept.memory wf
  obtain ⟨g, handed⟩ := handOutcome_port (w := .host n) (o := o) (s := ended p t o s) (by simp) (.inr (by simp)) d
    (by rw [port])
  rw [port] at handed
  have fits : FitsSlot [(8, [BitVec.ofNat 8 d.length]), (16, d)] := by simp [FitsSlot]; omega
  have done : doneWith (transferEnds n o d (ended p t o s)) n (resultOf o) 0 := doneWith_completeSlot wf1 n _ (by decide) _
  have answered : Within (completing n) (ended p t o s) (transferEnds n o d (ended p t o s)) :=
    within_completeSlot n _ 0 _ _ fits
  obtain ⟨count, bytes⟩ := transferEnds_reply wf1 n o short
  have after := (afterUnit_cases (p := p) (s := handOutcome p (.host n) o d (ended p t o s)) (by rw [handed]; exact stays)).2 o ran
  have rests := within_updatingPort p (fun x => { x with state := .idle }) (handOutcome p (.host n) o d (ended p t o s))
  have ends := keeps_updatingPort p (fun x => { x with state := .idle }) (handOutcome p (.host n) o d (ended p t o s)) (fun _ h => h)
  dsimp only
  rw [unitEnds_eq, after, port_updatingPort, handed]
  refine ⟨doneWith_within done rests ends (by simp) (by simp) (by simp), ?_, ?_, ⟨g, rfl⟩, ?_, ?_⟩
  · exact (slotParam_of_same (rests.slot n (by simp) (by simp)) (by decide)).trans count
  · rw [rests.mem (by simp)]
    exact bytes
  · exact ends.pins.trans ((keeps_completeSlot _ _ _ _ _).pins.trans kept.pins)
  · exact ((first.then answered).then rests).mono (by simp)

/-- R74, R138, R139: a write group's transaction ends the group. -/
theorem groupTransactionEnds {g : WriteGroup} {s : State} (stays : s.portA.disableDue = false) (t : Transaction)
    {o : BusOutcome} (ran : o ≠ .clockTimeout) (d : List Byte) :
    let u := unitEnds .a (.charger g) t o d s
    u.portA.state = .idle ∧ u.portA.granted = none ∧ u.chg.writeOutcome = o ∧
      (o = .ok → u.chg.written = some ⟨g.current, g.voltage⟩ ∧ u.chg.writeFailures = 0) ∧ Within charging s u := by
  have port : (ended .a t o s).portA = { noteTransaction t o s.portA with
    state := .busy, granted := none, starting := false, second := false } := ended_port .a t o s
  obtain ⟨c, handed⟩ := handOutcome_port (p := .a) (w := .charger g) (o := o) (s := ended .a t o s) (by simp) (.inr (by simp)) d
    (by rw [show (ended .a t o s).port .a = _ from port])
  have grouped : (groupEnd g o (ended .a t o s)).portA = { (ended .a t o s).portA with charger := c } := handed
  obtain ⟨outcome, stored⟩ := groupEnd_chg g o (s := ended .a t o s) (by rw [port]; simp) (by rw [port]; simp)
  have after := (afterUnit_cases (p := .a) (s := groupEnd g o (ended .a t o s)) (by
    rw [show (groupEnd g o (ended .a t o s)).port .a = _ from grouped, port]; exact stays)).2 o ran
  have runs : unitEnds .a (.charger g) t o d s =
      updatingPort .a (fun x => { x with state := .idle }) (groupEnd g o (ended .a t o s)) := after
  have rests := within_updatingPort .a (fun x => { x with state := .idle }) (groupEnd g o (ended .a t o s))
  dsimp only
  rw [runs, updatingPort_portA, grouped, port, chg_updatingPort]
  exact ⟨rfl, rfl, outcome, stored, (((within_ended .a t o s).then (within_groupEnd g o _)).then rests).mono (by simp)⟩

/-- R63, R74: the second transaction of a group begins. -/
theorem secondBegins_clear {s : State} (clear : dataStuck (s.line .a) = false) (w : Work) (t : Transaction) :
    secondBegins .a w t s = updatingPort .a (fun x => { noteTransaction t .ok x with second := true }) s := by
  have line := line_of_pins (keeps_updatingPort .a (fun x => { noteTransaction t .ok x with second := true }) s (fun _ h => h)).pins .a
  unfold secondBegins
  dsimp only
  rw [line, clear]
  rfl

/-- R65, R74: a group that stuck data sends back is known to its port alone. -/
theorem within_secondBegins_charger (g : WriteGroup) (t : Transaction) (s : State) :
    Within (.port .a :: reporting) s (secondBegins .a (.charger g) t s) := by
  have begun := within_updatingPort .a (fun x => { noteTransaction t .ok x with second := true }) s
  unfold secondBegins
  dsimp only
  split
  · exact (begun.then (within_enterRecovering .a .dataLow (sendBack (.charger g)) _)).mono (by simp)
  · exact begun.mono (by simp)

/-- Settles O23: a host transfer's end, then a write group's. -/
theorem transactionEnds : Obligations.TransactionEnds := by
  refine ⟨fun p n reply line s high wf own stays => ?_, fun g reply line s high own stays => ?_⟩
  · have lined := within_setLine p line s
    have port : (s.setLine p line).port p = s.port p := lined.port p (by simp)
    have same : hostTransaction (s.setLine p line) n = hostTransaction s n := by cases p <;> rfl
    have runs : transactionEnd p (.ran reply) line s = unitEnds p (.host n) (hostTransaction s n)
        (transactionOutcome (hostTransaction s n) reply).1 (transactionOutcome (hostTransaction s n) reply).2
        (s.setLine p line) := by
      rw [transactionEnd_of own, ← same]
      rfl
    have canonical : memoryCanonical (s.setLine p line) := by
      unfold memoryCanonical
      rw [lined.mem (by simp)]
      exact wf
    obtain ⟨ran, short⟩ := transactionOutcome_bounded (hostTransaction s n) reply
    have address : (hostTransaction s n).address = slotParam s n 1 := rfl
    dsimp only
    generalize transactionOutcome (hostTransaction s n) reply = x at runs ran short ⊢
    obtain ⟨done, count, bytes, ⟨c, moved⟩, pins, w⟩ := hostTransactionEnds (p := p) (n := n) canonical
      (by rw [port]; exact stays) (hostTransaction s n) ran short
    rw [port] at moved
    have frame := lined.then w
    refine ⟨_, (event_next _ s high).trans (by rw [runs]), done, count, bytes, ?_⟩
    rw [moved, ← address]
    exact ⟨rfl, rfl, rfl, rfl, (line_of_pins pins p).trans (line_setLine p line s), rfl,
      frame.sameButSlot (by simp) (by simp) (by simp) (fun m ne => by simp [ne]), frame.samePacks (by simp) (by simp),
      frame.sameControl (by simp) (by simp), frame.samePlatform (by simp) (by simp) (by simp), frame.engine .a (by simp),
      frame.engine .b (by simp)⟩
  · have lined := within_setLine .a line s
    obtain ⟨busy, granted⟩ := onBus_iff own
    dsimp only
    obtain ⟨ran, _⟩ := transactionOutcome_bounded (groupTransaction g s.portA.second) reply
    have runs : transactionEnd .a (.ran reply) line s =
        if !s.portA.second && (transactionOutcome (groupTransaction g s.portA.second) reply).1 == .ok then
          secondBegins .a (.charger g) (groupTransaction g s.portA.second) (s.setLine .a line)
        else unitEnds .a (.charger g) (groupTransaction g s.portA.second)
          (transactionOutcome (groupTransaction g s.portA.second) reply).1
          (transactionOutcome (groupTransaction g s.portA.second) reply).2 (s.setLine .a line) := by
      rw [transactionEnd_of own]
      rfl
    generalize groupTransaction g s.portA.second = t at runs ran ⊢
    generalize transactionOutcome t reply = x at runs ran ⊢
    by_cases goesOn : s.portA.second = false ∧ x.1 = .ok
    · obtain ⟨second, ok⟩ := goesOn
      rw [if_pos (by simp [second, ok])] at runs
      have frame := lined.then (within_secondBegins_charger g t (s.setLine .a line))
      refine ⟨_, (event_next _ s high).trans (by rw [runs]), fun _ _ clear => ?_, fun h => ?_, fun h => ?_,
        frame.samePacks (by simp) (by simp), frame.sameEngines (by simp) (by simp) (by simp), frame.power (by simp),
        frame.kbd (by simp), frame.th (by simp), frame.sameButQueue (by simp) (by simp) (by simp)⟩
      · rw [secondBegins_clear (s := s.setLine .a line) clear, updatingPort_portA, chg_updatingPort]
        exact ⟨busy, rfl, granted, rfl⟩
      · exact absurd h (by simp [second, ok])
      · exact absurd h (by simp [second])
    · have ends : ¬ ((!s.portA.second && x.1 == .ok) = true) := by simpa using goesOn
      rw [if_neg ends] at runs
      obtain ⟨idle, free, outcome, stored, w⟩ := groupTransactionEnds (g := g) (s := s.setLine .a line) stays t ran x.2
      have frame := lined.then w
      exact ⟨_, (event_next _ s high).trans (by rw [runs]), fun second ok => absurd ⟨second, ok⟩ goesOn,
        fun _ => ⟨idle, free, outcome⟩, fun _ ok => stored ok, frame.samePacks (by simp) (by simp),
        frame.sameEngines (by simp) (by simp) (by simp), frame.power (by simp), frame.kbd (by simp), frame.th (by simp),
        frame.sameButQueue (by simp) (by simp) (by simp)⟩

end Sys2Proof.Proofs.TransactionEnds
end

section
/-! PROOF. The round timer (R87, R92): what a started round keeps of its number, and the start that an overrun holds. -/
set_option Elab.async false

namespace Sys2Proof.Proofs.RoundTimer

open Sys2Proof Sys2Proof.Machine Sys2Proof.Safety Sys2Proof.Laws Sys2Proof.Proofs.Frames Sys2Proof.Proofs.Updates
  Sys2Proof.Proofs.Units Sys2Proof.Proofs.ScanModes Sys2Proof.Proofs.Reports

/-! ### The number of a round under way -/

/-- R87: the engine has round `number`, holds no start and has not overrun. -/
def Fresh (p : PortId) (number : Nat) (s : State) : Prop :=
  (s.engine p).number = number ∧ (s.engine p).held = false ∧ (s.engine p).overrun = false

theorem fresh_of_engine {p : PortId} {number : Nat} {s t : State} (own : Fresh p number s) (same : t.engine p = s.engine p) :
    Fresh p number t := by
  unfold Fresh
  rw [same]
  exact own

theorem fresh_of_fields {p : PortId} {number : Nat} {s t : State} {x : Engine} (own : Fresh p number s) (eq : t.engine p = x)
    (same : x.number = (s.engine p).number) (held : x.held = (s.engine p).held) (overrun : x.overrun = (s.engine p).overrun) :
    Fresh p number t := by
  obtain ⟨n, h, o⟩ := own
  unfold Fresh
  rw [eq, same, held, overrun]
  exact ⟨n, h, o⟩

theorem engine_updating (p : PortId) (f : State → Engine) (s : State) :
    (updating (.port p) (fun x => x.setEngine p (f x)) s).engine p = f s := by
  unfold updating
  rw [commit_engine]
  exact engine_setEngine p (f s) s

theorem fresh_watchStep {p : PortId} {number : Nat} {s : State} (own : Fresh p number s) (n : Nat) (e : PollEntry)
    (o : BusOutcome) (d : List Byte) : Fresh p number (watchStep p n e o d s) := by
  have set : ∀ r, Fresh p number (s.setEngine p (setWatchResult n r (s.engine p))) := fun r =>
    fresh_of_fields own (engine_setEngine p _ s) rfl rfl rfl
  unfold watchStep
  split
  · exact own
  · split
    · unfold evaluateWatch
      dsimp only
      split
      · split
        · exact set _
        · exact fresh_of_engine (set _) ((within_watchOffer p n _ _ _).engine p (by cases p <;> simp))
      · exact set _
    · exact own

/-- R89: the end of an entry. -/
theorem fresh_entryEnd {p : PortId} {number : Nat} {s : State} (own : Fresh p number s) (n : Nat) (o : BusOutcome)
    (reason : SkipReason) (d : List Byte) : Fresh p number (entryEnd p n o reason d s) := by
  have delivered := deliver_engine (entryOf (s.engine p).list n) o reason d s p
  have written : Fresh p number ((deliver (entryOf (s.engine p).list n) o reason d s).setEngine p
      (writeRow n (entryOf (s.engine p).list n) o reason d
        ((deliver (entryOf (s.engine p).list n) o reason d s).engine p))) := by
    refine fresh_of_fields own (engine_setEngine p _ _) ?_ ?_ ?_ <;> rw [delivered] <;> rfl
  have watched := fresh_watchStep written n (entryOf (s.engine p).list n) o d
  have policy : ∀ e o' (x : Engine), (errorPolicy e o' x).number = x.number ∧ (errorPolicy e o' x).held = x.held ∧
      (errorPolicy e o' x).overrun = x.overrun := fun e o' x => by
    unfold errorPolicy
    split <;> exact ⟨rfl, rfl, rfl⟩
  unfold entryEnd
  dsimp only
  obtain ⟨same, held, overrun⟩ := policy (entryOf (s.engine p).list n) o
    ((watchStep p n (entryOf (s.engine p).list n) o d ((deliver (entryOf (s.engine p).list n) o reason d s).setEngine p
      (writeRow n (entryOf (s.engine p).list n) o reason d
        ((deliver (entryOf (s.engine p).list n) o reason d s).engine p)))).engine p)
  exact fresh_of_fields watched (engine_setEngine p _ _) same held overrun

theorem fresh_offerEntry {p : PortId} {number : Nat} {s : State} (own : Fresh p number s) (n : Nat) :
    Fresh p number (offerEntry p n s) := by
  have positioned : Fresh p number (s.setEngine p { s.engine p with position := n, offered := true }) :=
    fresh_of_fields own (engine_setEngine p _ s) rfl rfl rfl
  refine fresh_of_engine positioned ((within_offerWork (T := [.port p]) p (.poll n) _ (by simp) ?_).engine p (by simp))
  exact fun _ e => Work.noConfusion e

/-! ### The boundary of the round -/

theorem fresh_takeList {p : PortId} {number : Nat} {s : State} (own : Fresh p number s) (slot : Nat) :
    Fresh p number (adoptList p slot s).1 := by
  have completed : ∀ r d reply x, Fresh p number x → Fresh p number (completeSlot slot r d reply x) := fun r d reply x h =>
    fresh_of_engine h ((within_completeAny slot r d reply x).engine p (by simp))
  unfold adoptList
  dsimp only
  split
  · exact completed _ _ _ s own
  · have listed : Fresh p number (s.setEngine p (takeList (readPollList s.mem (pollTable p)) (s.engine p))) :=
      fresh_of_fields own (engine_setEngine p _ s) rfl rfl rfl
    have headed := fresh_of_engine (completed .ok 0 [(1, [0#8])] _ listed)
      ((within_takeHeader p (readPollList s.mem (pollTable p)) _).engine p (by simp))
    have unbound := fresh_of_engine headed
      ((within_unboundSlots p (readPollList s.mem (pollTable p)) _).engine p (by simp))
    split
    · exact unbound
    · obtain ⟨same, _, late⟩ := unbound
      unfold Fresh
      dsimp only
      rw [engine_updating p (fun x => stopEngine (x.engine p))]
      exact ⟨same, rfl, late⟩

theorem fresh_afterBoundary {p : PortId} {number : Nat} {s : State} (own : Fresh p number s) (adopted : Bool) :
    Fresh p number (afterBoundary p adopted id s) := by
  have noted : Fresh p number (s.setEngine p { s.engine p with prevOverrun := (s.engine p).overrun }) :=
    fresh_of_fields own (engine_setEngine p _ s) rfl rfl rfl
  unfold afterBoundary restartInterval
  dsimp only
  split
  · exact noted
  · split
    · exact noted
    · split
      · exact fresh_of_fields noted (engine_updating p (fun x => { x.engine p with
          round := .waiting, timerMs := some 0, interval := intervalFor x (x.engine p).list }) _) rfl rfl rfl
      · exact fresh_of_fields noted (engine_updating p (fun x => { x.engine p with round := .waiting }) _) rfl rfl rfl

theorem handRoundEnd_engine (p : PortId) (s : State) : (handRoundEnd p s).engine p = s.engine p := by
  cases p with
  | b => rfl
  | a =>
    have ended := within_packRoundEnd s
    exact (((ended.then (within_evaluate _)).ite (ended.mono (by simp))).engine .a (by simp))

theorem fresh_lastBoundary {p : PortId} {number : Nat} {s : State} (own : Fresh p number s) :
    Fresh p number (lastBoundary p s) := by
  have handed := fresh_of_engine own (handRoundEnd_engine p s)
  unfold lastBoundary boundary
  dsimp only
  split
  · exact fresh_afterBoundary handed false
  · exact fresh_afterBoundary (fresh_takeList handed _) _

/-- R88, R89: the entries of the round, up to one that is offered or to the boundary. -/
theorem fresh_takeEntries {p : PortId} {number : Nat} : (l : List PollEntry) → (n : Nat) → (s : State) → Fresh p number s →
    Fresh p number (takeEntries p (lastBoundary p) n l s)
  | [], _, _, own => fresh_lastBoundary own
  | e :: rest, n, s, own => by
    unfold takeEntries
    split
    · split
      · exact fresh_takeEntries rest (n + 1) _ (fresh_entryEnd own n _ _ _)
      · split
        · exact fresh_offerEntry own n
        · exact fresh_takeEntries rest (n + 1) _ (fresh_entryEnd own n _ _ _)
    · exact fresh_takeEntries rest (n + 1) s own

/-- R87: the round that the timer starts. -/
theorem fresh_nextRound (p : PortId) (s : State) : Fresh p (nextNumber s p) (nextRound p s) := by
  have begun : Fresh p (nextNumber s p) (updating (.port p)
      (fun x => x.setEngine p (beginRound (nextNumber s p) x (x.engine p))) s) := by
    unfold Fresh
    rw [engine_updating p (fun x => beginRound (nextNumber s p) x (x.engine p))]
    exact ⟨rfl, rfl, rfl⟩
  have started := fresh_of_engine begun ((within_portRoundStart p _).engine p (by simp))
  unfold nextRound startRound
  dsimp only
  cases p with
  | a => exact fresh_takeEntries _ _ _ (fresh_of_engine started ((within_packRoundStart _).engine .a (by simp)))
  | b => exact fresh_takeEntries _ _ _ started

/-! ### The overrun -/

/-- R92: the engine of a round that overruns. -/
theorem overrun_engine (p : PortId) (s : State) :
    (overrun p s).engine p = { s.engine p with held := true, overrun := true, timerMs := none } := by
  have held := engine_updating p (fun x => { x.engine p with held := true, overrun := true, timerMs := none }) s
  unfold overrun
  dsimp only
  split
  · exact held
  · exact ((within_offer _ _).engine p (by simp)).trans held

/-- R92: only the first of a run of overruns is reported. -/
theorem overrun_report (p : PortId) (s : State) :
    ((s.engine p).prevOverrun = true → (overrun p s).queue = s.queue ∧ (overrun p s).mem = s.mem) ∧
    ((s.engine p).prevOverrun = false → s.queue.stale = emptyStale → 1 ≤ room s.queue →
      (overrun p s).queue.write = (s.queue.write + 1) % 128) := by
  have held := within_updatingEngine (.port p) p (fun x => { x.engine p with
    held := true, overrun := true, timerMs := none }) s
  have queue := held.queue (by simp)
  unfold overrun
  dsimp only
  refine ⟨fun again => ?_, fun first clean fits => ?_⟩
  · rw [if_pos again]
    exact ⟨queue, held.mem (by simp)⟩
  · rw [if_neg (by simp [first]), offer_fits (by rw [queue]; exact clean) (by rw [queue]; exact fits), place_eq]
    dsimp only
    rw [queue]
    rfl

/-- Settles O29: the expiry in WAITING, then while the round runs. -/
theorem roundTimer : Obligations.RoundTimer := by
  refine ⟨fun p line s high waits => ?_, fun p s high runs timed => ?_⟩
  · have lined := within_setLine p line s
    have started : roundStart p line s = nextRound p (s.setLine p line) := if_pos waits
    obtain ⟨number, held, late⟩ := fresh_nextRound p (s.setLine p line)
    have counted : nextNumber (s.setLine p line) p = ((s.engine p).number + 1) % 65536 := by
      unfold nextNumber
      rw [lined.engine p (by simp)]
    have pins := (keeps_nextRound p (s.setLine p line)).pins
    refine ⟨_, (event_next _ s high).trans (by rw [started]), number.trans counted, held, late, ?_⟩
    cases p
    · exact congrArg PinLevels.lineA pins
    · exact congrArg PinLevels.lineB pins
  · have w := within_overrun p s
    obtain ⟨again, first⟩ := overrun_report p s
    refine ⟨overrun p s, (event_next _ s high).trans (by simp [when_, overrunDue, runs, timed]), overrun_engine p s,
      w.port .a (by simp), w.port .b (by simp), w.power (by simp), w.kbd (by simp), w.samePacks (by simp) (by simp),
      w.sameControl (by simp) (by simp), w.sameButQueue (by simp) (by simp) (by simp), again, first⟩

end Sys2Proof.Proofs.RoundTimer
end

section
/-! PROOF. The charge controller's computation (R127 to R138, R142): the rules of its parts, then the evaluation. -/
set_option Elab.async false

namespace Sys2Proof.Proofs.ChargeComputation

open Sys2Proof Sys2Proof.Machine Sys2Proof.Safety Sys2Proof.Laws Sys2Proof.Proofs.Frames Sys2Proof.Proofs.Updates
  Sys2Proof.Proofs.Units Sys2Proof.Proofs.PortRequests Sys2Proof.Proofs.Reports Sys2Proof.Proofs.ChargeHolds
  Sys2Proof.Proofs.Wire

/-! ### The setpoint (R136, R137) -/

/-- R136: a raw current below the least charging current. -/
theorem setpoint_low {starved : Bool} {raw prev : Nat} (b : LimitReason) (low : raw / 64 * 64 < 128) :
    setpoint starved raw prev b = (.holding, 0, b) := if_pos low

/-- R136: a starved pack waits for twice the least current. -/
theorem setpoint_starved {raw prev : Nat} (b : LimitReason) (enough : 128 ≤ raw / 64 * 64) (few : raw < 256) :
    setpoint true raw prev b = (.holding, 0, .input) := by
  unfold setpoint
  dsimp only
  rw [if_neg (by omega), if_pos (by simp [few])]

/-- R136: a charging current, slewed. -/
theorem setpoint_charging {starved : Bool} {raw prev : Nat} (b : LimitReason) (enough : 128 ≤ raw / 64 * 64)
    (fed : starved = false ∨ 256 ≤ raw) : setpoint starved raw prev b =
      if prev + 512 < raw / 64 * 64 then (.charging, prev + 512, .slew) else (.charging, raw / 64 * 64, b) := by
  unfold setpoint
  dsimp only
  have nourished : ¬ ((starved && decide (raw < 256)) = true) := by
    rcases fed with fed | fed
    · simp [fed]
    · simp [Nat.not_lt.mpr fed]
  rw [if_neg (by omega), if_neg nourished]
  refine ite_congr (propext ⟨fun h => h.2, fun h => ⟨by omega, h⟩⟩) (fun _ => rfl) (fun _ => rfl)

/-- R136: every setpoint is 0 or a multiple of 64 from 128 to the raw current. -/
theorem setpoint_bounds (starved : Bool) {raw prev : Nat} (b : LimitReason) (whole : prev % 64 = 0) :
    (setpoint starved raw prev b).2.1 % 64 = 0 ∧
      ((setpoint starved raw prev b).2.1 = 0 ∨ 128 ≤ (setpoint starved raw prev b).2.1) ∧
      (setpoint starved raw prev b).2.1 ≤ raw := by
  by_cases low : raw / 64 * 64 < 128
  · rw [setpoint_low b low]
    exact ⟨rfl, .inl rfl, Nat.zero_le _⟩
  · by_cases fed : starved = false ∨ 256 ≤ raw
    · rw [setpoint_charging b (by omega) fed]
      split <;> dsimp only <;> omega
    · have starving : starved = true := by
        cases starved
        · exact absurd (.inl rfl) fed
        · rfl
      rw [starving, setpoint_starved b (by omega) (by omega)]
      exact ⟨rfl, .inl rfl, Nat.zero_le _⟩

/-- R137: the voltage setpoint as bounds. -/
theorem voltageSetpoint_eq (request voltageMax : Nat) : voltageSetpoint request voltageMax =
    if min request voltageMax / 16 * 16 < 4096 then 4096
    else if 19200 < min request voltageMax / 16 * 16 then 19200 else min request voltageMax / 16 * 16 := by
  unfold voltageSetpoint
  split
  · omega
  · split <;> omega

/-! ### The computation for a pack (R132) -/

/-- R136: what `setpoint` is given. -/
def pointFor (s : State) (k : PackId) : ChargeState × Nat × LimitReason :=
  setpoint (s.chg.state == .holding && s.chg.limit == .input) (rawCurrent { s with chg := latched s k } k)
    (previousCurrent s.chg) (bindingTerm { s with chg := latched s k } k)

/-- R132, steps 4 and 5: the computation where no hold applies. -/
theorem computeFor_free {s : State} {k : PackId} (free : holdReason { s with chg := latched s k } k = none) :
    computeFor s k = { latched s k with
      state := (pointFor s k).1, limit := (pointFor s k).2.2
      desired := ⟨(pointFor s k).2.1, if (pointFor s k).2.1 = 0 then restVoltage s.chg
        else voltageSetpoint (s.pack k).values.reqVoltage s.chg.profile.voltageMax⟩
      iIn := inputLimited { s with chg := latched s k } k, iTh := thermalLimit { s with chg := latched s k } k
      iRaw := rawCurrent { s with chg := latched s k } k } := by
  unfold latched at free
  simp only [computeFor, free]
  rfl

theorem computeFor_latch (s : State) (k : PackId) : (computeFor s k).latch = decideLatch s.chg (s.pack k).values.soc := by
  unfold computeFor
  dsimp only
  split <;> rfl

theorem computeFor_selected (s : State) (k : PackId) : (computeFor s k).selected = s.chg.selected ∧
    (computeFor s k).dPk = s.chg.dPk := by
  unfold computeFor
  dsimp only
  split <;> exact ⟨rfl, rfl⟩

theorem rawCurrent_eq (s : State) (k : PackId) : rawCurrent s k = min (thermalLimit s k) (min (inputLimited s k)
    (min s.chg.profile.profileCap (min (s.chg.cap.getD 8128) 8128))) := by
  unfold rawCurrent
  cases s.chg.cap with
  | none => simp only [Option.getD_none]; omega
  | some c => simp only [Option.getD_some]; omega

theorem derate_eq (c : Charge) : derate c = min c.dPk (min c.dCs c.dFan) := rfl

theorem thermalLimit_le {s : State} (k : PackId) (within100 : derate s.chg ≤ 100) :
    thermalLimit s k ≤ (s.pack k).values.reqCurrent := by
  unfold thermalLimit
  calc (s.pack k).values.reqCurrent * derate s.chg / 100
      ≤ (s.pack k).values.reqCurrent * 100 / 100 := Nat.div_le_div_right (Nat.mul_le_mul_left _ within100)
    _ = (s.pack k).values.reqCurrent := Nat.mul_div_cancel _ (by omega)

theorem adapterLimit_eq (s : State) : adapterLimit s = if s.chg.profile.adapterLimit = 0 then
    [2250, 3250, 4500].getD s.power.straps.adapterClass 6500 else s.chg.profile.adapterLimit := by
  unfold adapterLimit
  match s.power.straps.adapterClass with
  | 0 | 1 | 2 | _ + 3 => rfl

/-- R134, R136: the bounds of the desired current. -/
theorem computeFor_bounds (s : State) (k : PackId) (whole : previousCurrent s.chg % 64 = 0) (within100 : derate s.chg ≤ 100) :
    (computeFor s k).desired.current % 64 = 0 ∧
      ((computeFor s k).desired.current = 0 ∨ 128 ≤ (computeFor s k).desired.current) ∧
      (computeFor s k).desired.current ≤ 8128 ∧ (computeFor s k).desired.current ≤ (s.pack k).values.reqCurrent ∧
      (computeFor s k).desired.current ≤ s.chg.profile.profileCap := by
  cases hold : holdReason { s with chg := latched s k } k with
  | some r =>
    rw [computeFor_of_hold hold]
    exact ⟨rfl, .inl rfl, Nat.zero_le _, Nat.zero_le _, Nat.zero_le _⟩
  | none =>
    rw [computeFor_free hold]
    obtain ⟨multiple, least, most⟩ := setpoint_bounds (s.chg.state == .holding && s.chg.limit == .input)
      (raw := rawCurrent { s with chg := latched s k } k) (bindingTerm { s with chg := latched s k } k) whole
    have thermal : thermalLimit { s with chg := latched s k } k ≤ (s.pack k).values.reqCurrent := by
      refine Nat.le_trans (thermalLimit_le (s := { s with chg := latched s k }) k within100) (Nat.le_of_eq ?_)
      cases k <;> rfl
    have raw := rawCurrent_eq { s with chg := latched s k } k
    have cap : ({ s with chg := latched s k } : State).chg.profile.profileCap = s.chg.profile.profileCap := rfl
    rw [cap] at raw
    refine ⟨multiple, least, ?_, ?_, ?_⟩
    all_goals
      refine Nat.le_trans most ?_
      omega

/-! ### Derate terms (R135) -/

theorem bandPercent_eq (bands : List Band) (t : Int) : bandPercent bands t =
    match bands.find? fun b => decide (b.low ≤ t ∧ t < b.high) with
    | some b => b.percent
    | none => 0 := by
  induction bands with
  | nil => rfl
  | cons b rest ih =>
    unfold bandPercent
    by_cases here : b.low ≤ t ∧ t < b.high
    · rw [if_pos here, List.find?_cons_of_pos (by simpa using here)]
    · rw [if_neg here, List.find?_cons_of_neg (by simpa using here)]
      exact ih

theorem effective_eq (s : State) (n : Nat) : effective s n =
    if (slotOf s n).state = .valid then (slotOf s n).reading else (slotConfig s n).fallback := by
  unfold effective
  cases (slotOf s n).state <;> simp

theorem decideDcs_sensor {s : State} {n : Nat} (sensor : s.chg.profile.chargerSensor = some n) : decideDcs s =
    if effective s n < s.chg.profile.chargerHot then 100
    else if effective s n < s.chg.profile.chargerMax then 50 else 0 := by
  unfold decideDcs
  rw [sensor]

theorem decideDfan_eq (s : State) : decideDfan s =
    if s.th.fan0.state = .faulted ∨ s.th.fan1.state = .faulted then 50 else 100 := by
  unfold decideDfan
  simp

/-- R135: D_pk is the one that the selection has. -/
def DpkDecided (s : State) (c : Charge) : Prop := c.dPk = decideDpk { s with chg := c } c.selected

theorem decideDpk_of {s t : State} (bands : t.chg.profile.bands = s.chg.profile.bands) (pack0 : t.pack0 = s.pack0)
    (pack1 : t.pack1 = s.pack1) (sel : Option PackId) : decideDpk t sel = decideDpk s sel := by
  have packs : ∀ k, t.pack k = s.pack k := fun k => by cases k <;> assumption
  unfold decideDpk
  split
  · rfl
  · rw [bands, packs]

theorem decideDpk_profile {s : State} {c : Charge} (same : c.profile = s.chg.profile) (sel : Option PackId) :
    decideDpk { s with chg := c } sel = decideDpk s sel :=
  decideDpk_of (s := s) (t := { s with chg := c }) (congrArg (·.bands) same) rfl rfl sel

theorem dpk_select {s : State} (own : DpkDecided s s.chg) (sel : Option PackId) : DpkDecided s (select s sel) := by
  unfold select
  split
  · exact own
  · exact (decideDpk_profile (s := s) (c := { s.chg with selected := sel, latch := false, dPk := decideDpk s sel }) rfl sel).symm

theorem dpk_of_fields {s : State} {c d : Charge} (own : DpkDecided s c) (dPk : d.dPk = c.dPk) (sel : d.selected = c.selected)
    (profile : d.profile = c.profile) : DpkDecided s d := by
  have same : decideDpk { s with chg := d } d.selected = decideDpk { s with chg := c } d.selected :=
    decideDpk_of (s := { s with chg := c }) (t := { s with chg := d }) (congrArg (·.bands) profile) rfl rfl _
  unfold DpkDecided
  rw [same, sel, dPk]
  exact own

theorem dpk_computeFor {s : State} {c : Charge} (own : DpkDecided s c) (k : PackId) :
    DpkDecided s (computeFor { s with chg := c } k) := by
  obtain ⟨sel, dPk⟩ := computeFor_selected { s with chg := c } k
  obtain ⟨_, _, _, _, _, _, _, _, _, _, _, eq⟩ := evaluates_computeFor { s with chg := c } k
  exact dpk_of_fields own dPk sel (by rw [eq])

/-- R135: an evaluation keeps D_pk decided. -/
theorem dpk_evaluated {s : State} (own : DpkDecided s s.chg) : DpkDecided s (evaluated s) := by
  have without : ∀ x, DpkDecided s (withoutPack s x) := fun x => dpk_of_fields (dpk_select own none) rfl rfl rfl
  unfold evaluated
  split
  · exact without _
  · split
    · exact without _
    · split
      · exact without _
      · next k _ =>
        split
        · exact dpk_computeFor (c := s.chg) own k
        · split
          · exact dpk_computeFor (dpk_select own (some k)) k
          · unfold waitingSwitch
            dsimp only
            split <;> exact dpk_of_fields own rfl rfl rfl

theorem dpk_writeDecision {s : State} (own : DpkDecided s s.chg) : DpkDecided s (writeDecision s).chg := by
  unfold writeDecision offerGroup
  split
  · exact own
  · split
    · exact dpk_of_fields own rfl rfl rfl
    · rw [chg_updatingPort]
      exact own

/-- D_pk decided of the state itself. -/
def DpkOk (s : State) : Prop := s.chg.dPk = decideDpk s s.chg.selected

theorem dpkOk_evaluateOnce {f : Charge → Charge} {s : State} (own : DpkDecided s (f s.chg)) : DpkOk (evaluateOnce f s) := by
  have w := within_evaluateOnce f s
  have first : DpkDecided s (evaluated { s with chg := f s.chg }) := dpk_evaluated (s := { s with chg := f s.chg }) own
  have second : DpkDecided s (evaluateOnce f s).chg := by
    rw [chg_evaluateOnce]
    exact dpk_writeDecision (s := { s with chg := evaluated { s with chg := f s.chg } }) first
  unfold DpkOk
  refine second.trans ?_
  exact (decideDpk_of (s := { s with chg := (evaluateOnce f s).chg }) (t := evaluateOnce f s) rfl (w.pack .pack0 (by simp))
    (w.pack .pack1 (by simp)) _).symm

theorem dpkOk_evaluateAgain (n d : Nat) {s : State} (own : DpkOk s) : DpkOk (evaluateAgain n d s) := by
  induction n generalizing d s with
  | zero => exact own
  | succ n ih =>
    unfold evaluateAgain
    split
    · exact own
    · exact ih _ (dpkOk_evaluateOnce (f := id) own)

theorem dpkOk_redecideDpk (s : State) : DpkOk (redecideDpk s) := by
  unfold redecideDpk
  split
  · next own => exact own.symm
  · refine dpkOk_evaluateAgain _ _ (dpkOk_evaluateOnce ?_)
    exact (decideDpk_profile (s := s) (c := { s.chg with dPk := decideDpk s s.chg.selected }) rfl s.chg.selected).symm

theorem redecideDcs_dCs (s : State) : (redecideDcs s).chg.dCs = decideDcs s := by
  unfold redecideDcs
  split
  · next own => exact own.symm
  · obtain ⟨_, _, _, _, _, _, _, _, _, _, _, eq⟩ := evaluates_evaluateWith (fun c => { c with dCs := decideDcs s }) s
    rw [eq]

theorem redecideDfan_dFan (s : State) : (redecideDfan s).chg.dFan = decideDfan s := by
  unfold redecideDfan
  split
  · next own => exact own.symm
  · obtain ⟨_, _, _, _, _, _, _, _, _, _, _, eq⟩ := evaluates_evaluateWith (fun c => { c with dFan := decideDfan s }) s
    rw [eq]

/-! ### Selection (R127 to R130) -/

theorem startThreshold_eq (c : Charge) :
    startThreshold c = if c.mode = .full then c.profile.fullStart else c.profile.conserveStart := by
  unfold startThreshold
  cases c.mode <;> rfl

theorem stopThreshold_eq (c : Charge) :
    stopThreshold c = if c.mode = .full then c.profile.fullStop else c.profile.conserveStop := by
  unfold stopThreshold
  cases c.mode <;> rfl

theorem eligible_iff (s : State) (k : PackId) : eligible s k = true ↔ (s.pack k).state = .online ∧
    overTemp (s.pack k).values.alarmWord = false ∧ terminateCharge (s.pack k).values.alarmWord = false := by
  simp [eligible, and_assoc]

theorem candidate_iff (s : State) (k : PackId) : candidate s k = true ↔ eligible s k = true ∧
    ((s.pack k).values.soc < startThreshold s.chg ∨
      s.chg.selected = some k ∧ s.chg.latch = false ∧ (s.pack k).values.soc < stopThreshold s.chg) := by
  simp [candidate, and_assoc]

theorem desiredSelection_eq (s : State) : desiredSelection s =
    match s.chg.selected with
    | some k =>
      if eligible s k = false then none
      else if s.chg.latch = true ∧ candidate s (otherPack k) = true then some (otherPack k) else some k
    | none =>
      if candidate s .pack0 = true then some .pack0 else if candidate s .pack1 = true then some .pack1 else none := by
  unfold desiredSelection
  cases s.chg.selected with
  | none => rfl
  | some k =>
    dsimp only
    cases eligible s k <;> simp

theorem atZero_iff (c : Charge) : atZero c = true ↔ ∃ w, c.written = some w ∧ w.current = 0 := by
  unfold atZero
  cases c.written <;> simp

/-- R130, R132: no pack selected. -/
theorem withoutPack_same (s : State) (x : ChargeState) : (withoutPack s x).state = x ∧ (withoutPack s x).selected = none ∧
    (withoutPack s x).limit = .none ∧ (withoutPack s x).desired = ⟨0, restVoltage s.chg⟩ ∧
    (s.chg.selected ≠ none → (withoutPack s x).latch = false ∧ (withoutPack s x).dPk = 100) := by
  have sel : (select s none).selected = none ∧ (select s none).written = s.chg.written ∧
      (s.chg.selected ≠ none → (select s none).latch = false ∧ (select s none).dPk = 100) := by
    unfold select
    split
    · next own => exact ⟨own, rfl, fun h => absurd own h⟩
    · exact ⟨rfl, rfl, fun _ => ⟨rfl, rfl⟩⟩
  obtain ⟨none_, written, cleared⟩ := sel
  refine ⟨rfl, none_, rfl, ?_, cleared⟩
  unfold withoutPack restVoltage
  dsimp only
  rw [written]

/-- R130: a change of the selection that waits. -/
theorem waitingSwitch_same (s : State) : (waitingSwitch s).selected = s.chg.selected ∧
    (waitingSwitch s).desired = ⟨0, restVoltage s.chg⟩ ∧ (waitingSwitch s).switchWaiting = true ∧
    (s.chg.selected = none → (waitingSwitch s).state = .ready ∧ (waitingSwitch s).limit = .none) ∧
    (s.chg.selected ≠ none → (waitingSwitch s).state = .holding ∧ (waitingSwitch s).limit = .switch) := by
  unfold waitingSwitch
  dsimp only
  cases chosen : s.chg.selected with
  | none => exact ⟨rfl, rfl, rfl, fun _ => ⟨rfl, rfl⟩, fun h => absurd rfl h⟩
  | some k => exact ⟨rfl, rfl, rfl, fun h => absurd h (by simp), fun _ => ⟨rfl, rfl⟩⟩

theorem select_new {s : State} {k : PackId} (new : s.chg.selected ≠ some k) :
    select s (some k) = { s.chg with selected := some k, latch := false, dPk := decideDpk s (some k) } := if_neg new

/-- R124, R132: the branches of an evaluation. -/
theorem evaluated_cases (s : State) :
    (inhibited s.chg.inhibit = true → evaluated s = withoutPack s .inhibited) ∧
    (inhibited s.chg.inhibit = false → s.adapterIn = false → evaluated s = withoutPack s .idle) ∧
    (inhibited s.chg.inhibit = false → s.adapterIn = true → desiredSelection s = none →
      evaluated s = withoutPack s .ready) ∧
    (inhibited s.chg.inhibit = false → s.adapterIn = true → ∀ k, desiredSelection s = some k →
      (s.chg.selected = some k → evaluated s = computeFor s k) ∧
      (s.chg.selected ≠ some k → atZero s.chg = true → evaluated s = computeFor { s with chg :=
        { s.chg with selected := some k, latch := false, dPk := decideDpk s (some k) } } k) ∧
      (s.chg.selected ≠ some k → atZero s.chg = false → evaluated s = waitingSwitch s)) := by
  unfold evaluated
  refine ⟨fun shut => if_pos shut, fun free out => ?_, fun free inside nobody => ?_, fun free inside k chosen => ?_⟩
  · rw [if_neg (by simp [free]), if_pos out]
  · rw [if_neg (by simp [free]), if_neg (by simp [inside]), nobody]
  · rw [if_neg (by simp [free]), if_neg (by simp [inside]), chosen]
    refine ⟨fun own => if_pos own, fun new zero => ?_, fun new flows => ?_⟩
    · dsimp only
      rw [if_neg new, if_pos zero, select_new new]
    · dsimp only
      rw [if_neg new, if_neg (by simp [flows])]

theorem inhibited_false_iff (i : InhibitSet) : inhibited i = false ↔
    i.chargerLost = false ∧ i.port = false ∧ i.thermal = false := by
  simp [inhibited, and_assoc]

/-- R123, R130: a selection that an evaluation ends. -/
theorem evaluated_deselects {s : State} (ended : (evaluated s).selected = none) (before : s.chg.selected ≠ none) :
    (evaluated s).latch = false ∧ (evaluated s).dPk = 100 := by
  have without : ∀ x, evaluated s = withoutPack s x → (evaluated s).latch = false ∧ (evaluated s).dPk = 100 := fun x eq => by
    obtain ⟨_, _, _, _, cleared⟩ := withoutPack_same s x
    rw [eq]
    exact cleared before
  obtain ⟨shut, out, nobody, somebody⟩ := evaluated_cases s
  cases free : inhibited s.chg.inhibit with
  | true => exact without _ (shut free)
  | false =>
    cases inside : s.adapterIn with
    | false => exact without _ (out free inside)
    | true =>
      cases chosen : desiredSelection s with
      | none => exact without _ (nobody free inside chosen)
      | some k =>
        obtain ⟨own, fresh, waits⟩ := somebody free inside k chosen
        by_cases here : s.chg.selected = some k
        · rw [own here, (computeFor_selected s k).1, here] at ended
          exact absurd ended (by simp)
        · cases zero : atZero s.chg with
          | true =>
            rw [fresh here zero, (computeFor_selected _ k).1] at ended
            exact absurd ended (by simp)
          | false =>
            rw [waits here zero, (waitingSwitch_same s).1] at ended
            exact absurd ended before

/-! ### The write decision and the record (R138, R142) -/

theorem writeDecision_cases (s : State) :
    (s.chg.inhibit.chargerLost = true ∨ s.chg.inhibit.port = true ∨ expectedPair s = some s.chg.desired →
      writeDecision s = s) ∧
    (s.chg.inhibit.chargerLost = false → s.chg.inhibit.port = false → expectedPair s ≠ some s.chg.desired →
      s.portA.state ≠ .halted → s.portA.state ≠ .disabled →
      writeDecision s = updatingPort .a (takeGroup (desiredGroup s)) s) := by
  unfold writeDecision offerGroup
  refine ⟨fun none => if_pos ?_, fun found portOk new halted disabled => ?_⟩
  · rcases none with h | h | h <;> simp [h]
  · rw [if_neg (by simp [found, portOk, new]), if_neg (by simp [halted, disabled])]

theorem takeGroup_eq (g : WriteGroup) (x : Port) : takeGroup g x =
    if x.state = .idle then { x with
      state := .busy, granted := some (.charger g), starting := true, second := false, charger := none }
    else { x with charger := some g } := rfl

theorem writeDecision_partTime (s : State) : (writeDecision s).link.partTime = s.link.partTime := by
  unfold writeDecision offerGroup updatingPort updating
  split
  · rfl
  · split
    · rfl
    · rw [commit_partTime]
      rfl

/-- R142: whether an evaluation is reported. -/
theorem evaluateOnce_report (f : Charge → Charge) (s : State) :
    ((evaluateOnce f s).chg.state = s.chg.state →
      ((evaluateOnce f s).chg.state = .holding → (evaluateOnce f s).chg.limit = s.chg.limit) →
      (evaluateOnce f s).queue = s.queue ∧ (evaluateOnce f s).mem = s.mem) ∧
    ((evaluateOnce f s).chg.state ≠ s.chg.state ∨
        (evaluateOnce f s).chg.state = .holding ∧ (evaluateOnce f s).chg.limit ≠ s.chg.limit →
      s.queue.stale = emptyStale → 2 ≤ room s.queue → (evaluateOnce f s).mem = unitsStored s.mem s.queue.write
        [firstUnit 8 2 s.chg.state.code (evaluateOnce f s).chg.state.code s.link.partTime,
         secondUnit (evaluateOnce f s).chg.limit.code 0 (evaluateOnce f s).chg.desired.current
           ((evaluateOnce f s).chg.desired.current / 256)]) := by
  have decided : Within [.chg, .port .a] s (updating .charger
      (fun x => writeDecision { { x with chg := f x.chg } with chg := evaluated { x with chg := f x.chg } }) s) :=
    within_updating .charger (((within_chg _ s).then (within_writeDecision _)).mono (by simp))
  have time : (updating .charger (fun x => writeDecision { { x with chg := f x.chg } with
      chg := evaluated { x with chg := f x.chg } }) s).link.partTime = s.link.partTime := by
    unfold updating
    rw [commit_partTime]
    exact writeDecision_partTime _
  have reported : evaluateOnce f s = chargeNotice s.chg (updating .charger
      (fun x => writeDecision { { x with chg := f x.chg } with chg := evaluated { x with chg := f x.chg } }) s) := rfl
  rw [reported]
  generalize updating .charger _ s = x at decided time ⊢
  have chg : (chargeNotice s.chg x).chg = x.chg := (within_chargeNotice s.chg x).chg (by simp)
  have queue := decided.queue (by simp)
  have mem := decided.mem (by simp)
  rw [chg]
  unfold chargeNotice
  refine ⟨fun state limit => ?_, fun changed clean fits => ?_⟩
  · rw [if_neg fun h => ?_]
    · exact ⟨queue, mem⟩
    · rcases h with new | ⟨holding, new⟩
      · exact new state.symm
      · exact new (limit holding).symm
  · rw [if_pos (changed.imp (fun h => Ne.symm h) fun h => ⟨h.1, Ne.symm h.2⟩),
      offer_fits (by rw [queue]; exact clean) (by rw [queue]; exact fits), place_eq, queue, mem, time]
    rfl

/-- Settles O35: the parts of the computation one after another. -/
theorem chargeSetpoint : Obligations.ChargeSetpoint := by
  refine ⟨fun s k => ?_, fun s k whole within100 => computeFor_bounds s k whole within100, fun s k => ?_, fun s => ?_,
    fun s k => ?_, desiredSelection_eq, fun s => ?_, fun s => ?_, fun f s => ?_⟩
  · intro x raw q prev v c free
    have eq : c = _ := computeFor_free (s := s) (k := k) free
    rw [eq]
    refine ⟨rfl, fun low => ?_, fun enough holding input few => ?_, fun enough fed => ?_⟩
    · have point : pointFor s k = (.holding, 0, bindingTerm x k) := setpoint_low _ low
      rw [point]
      exact ⟨rfl, rfl, rfl⟩
    · have point : pointFor s k = (.holding, 0, .input) := by
        unfold pointFor
        rw [holding, input]
        exact setpoint_starved _ enough few
      rw [point]
      exact ⟨rfl, rfl, rfl⟩
    · have point : pointFor s k =
          if prev + 512 < q then (.charging, prev + 512, .slew) else (.charging, q, bindingTerm x k) := by
        refine setpoint_charging _ enough ?_
        rcases fed with h | h | h
        · exact .inl (by simp [h])
        · exact .inl (by simp [h])
        · exact .inr h
      have positive : (pointFor s k).2.1 ≠ 0 := by
        rw [point]
        split <;> dsimp only <;> omega
      refine ⟨?_, ?_, fun slews => ?_, fun reached => ?_⟩
      · show (pointFor s k).1 = .charging
        rw [point]
        split <;> rfl
      · show (if (pointFor s k).2.1 = 0 then _ else _) = _
        rw [if_neg positive, voltageSetpoint_eq]
      · rw [point, if_pos slews]
        exact ⟨rfl, rfl⟩
      · rw [point, if_neg (by omega)]
        exact ⟨rfl, rfl⟩
  · intro p limit h d iIn iTh raw
    have limited : adapterLimit s = limit := adapterLimit_eq s
    have input : inputLimited s k = iIn := by
      unfold inputLimited headroom
      rw [limited]
    have thermal : thermalLimit s k = iTh := rfl
    refine ⟨?_, ?_⟩
    · rw [← input, ← thermal]
      exact rawCurrent_eq s k
    · rw [← input, ← thermal]
      rfl
  · refine ⟨rfl, fun k => bandPercent_eq _ _, fun none => by unfold decideDcs; rw [none], fun n sensor => ?_, decideDfan_eq s,
      dpkOk_redecideDpk s, fun own => if_pos own, redecideDcs_dCs s, fun own => if_pos own, redecideDfan_dFan s,
      fun own => if_pos own⟩
    dsimp only
    rw [← effective_eq, decideDcs_sensor sensor]
  · dsimp only
    rw [← startThreshold_eq, ← stopThreshold_eq]
    exact ⟨eligible_iff s k, candidate_iff s k, computeFor_latch s k⟩
  · dsimp only
    rw [← inhibited_false_iff]
    obtain ⟨shut, out, nobody, somebody⟩ := evaluated_cases s
    refine ⟨fun closed => ?_, fun free outside => ?_, fun free inside none => ?_, evaluated_deselects,
      fun free inside k chosen => ?_⟩
    · obtain ⟨state, sel, limit, desired, _⟩ := withoutPack_same s .inhibited
      rw [shut (by simpa using closed)]
      exact ⟨state, sel, limit, desired⟩
    · obtain ⟨state, sel, limit, desired, _⟩ := withoutPack_same s .idle
      rw [out free outside]
      exact ⟨state, sel, limit, desired⟩
    · obtain ⟨state, sel, limit, desired, _⟩ := withoutPack_same s .ready
      rw [nobody free inside none]
      exact ⟨state, sel, limit, desired⟩
    · obtain ⟨own, fresh, waits⟩ := somebody free inside k chosen
      refine ⟨own, fun new zero => fresh new ((atZero_iff _).mpr zero), fun new flows => ?_⟩
      have current : atZero s.chg = false := by
        rw [Bool.eq_false_iff]
        intro zero
        obtain ⟨w, written, none⟩ := (atZero_iff _).mp zero
        exact flows w written none
      rw [waits new current]
      exact waitingSwitch_same s
  · intro t expected target
    have pair : expectedPair s = expected := by
      unfold expected expectedPair
      cases s.portA.charger with
      | some g => rfl
      | none =>
        cases s.portA.granted with
        | none => rfl
        | some w => cases w <;> rfl
    obtain ⟨still, offers⟩ := writeDecision_cases s
    rw [pair] at still offers
    refine ⟨still, fun found portOk new halted disabled => ?_⟩
    have made : t = _ := offers found portOk new halted disabled
    rw [made, chg_updatingPort]
    exact ⟨rfl, (port_updatingPort .a (takeGroup (desiredGroup s)) s).trans (takeGroup_eq _ _)⟩
  · have w := within_evaluateOnce f s
    obtain ⟨same, told⟩ := evaluateOnce_report f s
    refine ⟨chg_evaluateOnce f s, ?_, w.pack .pack0 (by simp), w.pack .pack1 (by simp), w.dsg (by simp), w.th (by simp),
      w.power (by simp), w.kbd (by simp), w.sameEngines (by simp) (by simp) (by simp),
      w.sameButQueue (by simp) (by simp) (by simp), same, told⟩
    unfold evaluateOnce updating
    exact ((within_chargeNotice s.chg _).port .a (by simp)).trans (commit_portA _ _ _)

end Sys2Proof.Proofs.ChargeComputation
end

section
/-! PROOF. The fault window (R109, R110) and the ends of a probe's steps (R112 to R116). -/
set_option Elab.async false

namespace Sys2Proof.Proofs.ProbeSteps

open Sys2Proof Sys2Proof.Machine Sys2Proof.Safety Sys2Proof.Laws Sys2Proof.Proofs.Frames Sys2Proof.Proofs.Updates
  Sys2Proof.Proofs.Units Sys2Proof.Proofs.Completion Sys2Proof.Proofs.PortRequests Sys2Proof.Proofs.Probes
  Sys2Proof.Proofs.Presence

/-! ### The fault window -/

theorem enterWindow_short (o : WindowOutcome) {w : List WindowOutcome} (short : w.length < 8) :
    enterWindow (some o) w = w ++ [o] := by
  unfold enterWindow
  dsimp only
  rw [if_pos short]

theorem enterWindow_full (o x : WindowOutcome) {w : List WindowOutcome} (seven : w.length = 7) :
    enterWindow (some o) (x :: w) = w ++ [o] := by
  unfold enterWindow
  dsimp only
  rw [if_neg (by simp [seven])]
  rfl

theorem implausibleVoltage_iff {p : Pack} {i : Identity} (own : p.identity = some i) (w : Nat) :
    implausibleVoltage p w = true ↔ w * 100 < i.designVoltage * 60 ∨ i.designVoltage * 140 < w * 100 := by
  unfold implausibleVoltage
  rw [own]
  simp

/-! ### The answer to a request -/

/-- R116: a request is answered where the pack still has it. -/
theorem requestAnswered_complete {k : PackId} {s x : State} (r : Result) (d : Nat)
    (asked : (x.pack k).request = (s.pack k).request) (wf : memoryCanonical s → memoryCanonical x) :
    requestAnswered k r d s (completeProbeRequest k r d x) := by
  refine ⟨by rw [completeProbeRequest_pack], fun n own canonical small => ?_⟩
  unfold completeProbeRequest
  rw [asked, own]
  refine doneWith_completeSlot (s := x.setPack k { x.pack k with request := none }) ?_ n r small []
  have mem : (x.setPack k { x.pack k with request := none }).mem = x.mem := by cases k <;> rfl
  unfold memoryCanonical
  rw [mem]
  exact wf canonical

/-! ### A failed step -/

theorem stepOutcome_setStep (r : ProbeRecord) (n : Nat) (o : BusOutcome) : stepOutcome (setStep r n o) n = o := by
  match n with
  | 0 | 1 | 2 | 3 | _ + 4 => rfl

theorem setStep_identity (r : ProbeRecord) (n : Nat) (o : BusOutcome) : (setStep r n o).identity = r.identity := by
  match n with
  | 0 | 1 | 2 | 3 | _ + 4 => rfl

theorem stepOutcome_congr {x y : ProbeRecord} (same : x.step1 = y.step1 ∧ x.step2 = y.step2 ∧ x.step3 = y.step3 ∧ x.step4 = y.step4)
    (n : Nat) : stepOutcome x n = stepOutcome y n := by
  obtain ⟨one, two, three, four⟩ := same
  match n with
  | 1 => exact one
  | 2 => exact two
  | 3 => exact three
  | 0 | _ + 4 => exact four

/-- R113, R115: the pack after a failed step, its request aside. -/
theorem recordFailure_pack (k : PackId) (n : Nat) (o : BusOutcome) (s : State) : (recordFailure k n o s).pack k =
    { s.pack k with
      probe := none, failures := (s.pack k).failures + 1
      record := endRecord s .probeFailed (setStep (s.pack k).record n o) } := by
  unfold recordFailure
  rw [commit_pack]
  exact updatingPack_pack (.probe k) k _ s

/-- R113: the third failure in a row leaves FAULTED. -/
def afterFailure (k : PackId) (n : Nat) (o : BusOutcome) (s : State) : State :=
  if 3 ≤ ((recordFailure k n o s).pack k).failures then setPackState k .faulted .probeFailed id (recordFailure k n o s)
  else recordFailure k n o s

theorem probeFails_eq (k : PackId) (n : Nat) (o : BusOutcome) (s : State) :
    probeFails k n o s = completeProbeRequest k .probeFailed n (afterFailure k n o s) := rfl

theorem afterFailure_pack (k : PackId) (n : Nat) (o : BusOutcome) (s : State) : (afterFailure k n o s).pack k =
    { s.pack k with
      probe := none, failures := (s.pack k).failures + 1
      record := endRecord s .probeFailed (setStep (s.pack k).record n o)
      state := if 2 ≤ (s.pack k).failures then .faulted else (s.pack k).state
      reason := if 2 ≤ (s.pack k).failures then .probeFailed else (s.pack k).reason } := by
  have recorded := recordFailure_pack k n o s
  unfold afterFailure
  by_cases third : 2 ≤ (s.pack k).failures
  · rw [if_pos (by rw [recorded]; exact Nat.succ_le_succ third), setPackState_pack, recorded, if_pos third, if_pos third]
    rfl
  · rw [if_neg (by rw [recorded]; exact fun h => third (Nat.le_of_succ_le_succ h)), recorded, if_neg third, if_neg third]

theorem afterFailure_canonical (k : PackId) (n : Nat) (o : BusOutcome) {s : State} (wf : memoryCanonical s) :
    memoryCanonical (afterFailure k n o s) := by
  have recorded := (keeps_recordFailure k n o s).memory wf
  unfold afterFailure
  split
  · exact (keeps_setPackState k _ _ _ _ (fun _ => id)).memory recorded
  · exact recorded

/-- R113, R115, R116: a step that fails. -/
theorem probeFailedAt_probeFails (k : PackId) (n : Nat) (o : BusOutcome) (s : State) :
    probeFailedAt k n o s (probeFails k n o s) := by
  have pack := afterFailure_pack k n o s
  have answered := requestAnswered_complete (k := k) (s := s) .probeFailed n
    (show ((afterFailure k n o s).pack k).request = (s.pack k).request by rw [pack]) (afterFailure_canonical k n o)
  have final := completeProbeRequest_pack k .probeFailed n (afterFailure k n o s)
  unfold probeFailedAt probeOver sameHistory
  rw [probeFails_eq]
  refine ⟨?_, ?_, ?_, ?_, fun third => ?_, fun first => ?_, answered⟩ <;> rw [final, pack]
  · exact ⟨rfl, rfl, rfl, rfl⟩
  · exact stepOutcome_setStep _ n o
  · exact ⟨rfl, rfl, rfl⟩
  · exact ⟨if_pos third, if_pos third⟩
  · exact ⟨if_neg (Nat.not_le.mpr first), if_neg (Nat.not_le.mpr first)⟩

/-! ### The cases of a step's end -/

theorem badIdentity_iff (i : Identity) : badIdentity i = true ↔ i.designVoltage < 4000 ∨ 20000 < i.designVoltage := by
  simp [badIdentity]

theorem probeStepEnd_idle {u : ProbeUnit} {s : State} (idle : u.orphan = true ∨ (s.pack u.pack).probe = none) (o : BusOutcome)
    (d : List Byte) : probeStepEnd u o d s = s := by
  unfold probeStepEnd
  dsimp only
  split
  · rfl
  · next runs =>
    rcases idle with orphan | none
    · rw [if_pos orphan]
    · exact absurd (none.symm.trans runs) (by simp)

theorem probeStepEnd_cases {u : ProbeUnit} {run : ProbeRun} {s : State} (live : u.orphan = false)
    (runs : (s.pack u.pack).probe = some run) (o : BusOutcome) (d : List Byte) :
    (o ≠ .ok → probeStepEnd u o d s = probeFails u.pack run.step o s) ∧
    (o = .ok → run.step = 1 ∨ run.step = 2 → probeStepEnd u o d s = nextStep u.pack run id s) ∧
    (o = .ok → run.step = 3 → d.length ≠ 10 → probeStepEnd u o d s = probeFails u.pack 3 .short s) ∧
    (o = .ok → run.step = 3 → d.length = 10 → badIdentity (identityOf d) = true →
      probeStepEnd u o d s = probeBadIdentity u.pack (identityOf d) s) ∧
    (o = .ok → run.step = 3 → d.length = 10 → badIdentity (identityOf d) = false →
      probeStepEnd u o d s = nextStep u.pack run (fun r => { r with identity := some (identityOf d) }) s) ∧
    (o = .ok → run.step = 4 → ∀ j, (s.pack u.pack).record.identity = some j →
      probeStepEnd u o d s = probeSucceeds u.pack j (wordOf d) s) := by
  unfold probeStepEnd
  dsimp only
  rw [runs]
  dsimp only
  rw [if_neg (by simp [live])]
  refine ⟨fun bad => if_pos bad, fun ok step => ?_, fun ok step short => ?_, fun ok step ten bad => ?_,
    fun ok step ten good => ?_, fun ok step j own => ?_⟩
  all_goals rw [if_neg (by simp [ok])]
  · rcases step with step | step <;> simp only [step]
  · simp only [step]
    exact if_pos short
  · simp only [step]
    rw [if_neg (by simp [ten]), if_pos bad]
  · simp only [step]
    rw [if_neg (by simp [ten]), if_neg (by simp [good])]
  · simp only [step, own]

/-! ### A bad identity -/

/-- R112, R115: the record of a probe that ends with a bad identity. -/
def badRecord (i : Identity) (s : State) (r : ProbeRecord) : ProbeRecord :=
  endRecord s .badIdentity { setStep r 3 .ok with identity := some i }

/-- R106: the pack FAULTED by its identity, its request aside. -/
def rejected (k : PackId) (i : Identity) (s : State) : State :=
  setPackState k .faulted .badIdentity id (updating (.probe k) (fun x => x.setPack k { x.pack k with
    probe := none, record := badRecord i x (x.pack k).record }) s)

theorem probeBadIdentity_eq (k : PackId) (i : Identity) (s : State) :
    probeBadIdentity k i s = completeProbeRequest k .badIdentity i.designVoltage (rejected k i s) := rfl

theorem rejected_pack (k : PackId) (i : Identity) (s : State) : (rejected k i s).pack k = { s.pack k with
    probe := none, record := badRecord i s (s.pack k).record, state := .faulted, reason := .badIdentity } := by
  unfold rejected
  rw [setPackState_pack, updatingPack_pack (.probe k) k fun x => { x.pack k with
    probe := none, record := badRecord i x (x.pack k).record }]
  rfl

theorem updatingPack_canonical {s : State} (wf : memoryCanonical s) (r : Rec) (k : PackId) (f : State → Pack) :
    memoryCanonical (updating r (fun x => x.setPack k (f x)) s) := by
  unfold memoryCanonical
  rw [(within_updatingPack r k f s).mem (by simp)]
  exact wf

theorem probeBadIdentity_outcome (k : PackId) (i : Identity) (s : State) : let t := probeBadIdentity k i s
    (t.pack k).state = .faulted ∧ (t.pack k).reason = .badIdentity ∧ probeOver k .badIdentity s t ∧
      (t.pack k).record.step3 = .ok ∧ (t.pack k).record.identity = some i ∧ sameHistory (s.pack k) (t.pack k) ∧
      (t.pack k).failures = (s.pack k).failures ∧ requestAnswered k .badIdentity i.designVoltage s t := by
  have pack := rejected_pack k i s
  have answered := requestAnswered_complete (k := k) (s := s) .badIdentity i.designVoltage
    (show ((rejected k i s).pack k).request = (s.pack k).request by rw [pack])
    fun wf => (keeps_setPackState k .faulted .badIdentity id _ (fun _ => id)).memory
      (updatingPack_canonical wf (.probe k) k fun x => { x.pack k with
        probe := none, record := badRecord i x (x.pack k).record })
  have final := completeProbeRequest_pack k .badIdentity i.designVoltage (rejected k i s)
  dsimp only
  unfold probeOver sameHistory
  rw [probeBadIdentity_eq, final, pack]
  exact ⟨rfl, rfl, ⟨rfl, rfl, rfl, rfl⟩, rfl, rfl, ⟨rfl, rfl, rfl⟩, rfl, answered⟩

/-! ### The next step -/

/-- R111, R115: the state in which the next step is offered. -/
def stepped (k : PackId) (run : ProbeRun) (change : ProbeRecord → ProbeRecord) (s : State) : State :=
  waiting k { run with step := run.step + 1 } (updating (.probe k) (fun x => x.setPack k { x.pack k with
    record := { change (setStep (x.pack k).record run.step .ok) with state := .waiting } }) s)

theorem within_stepped (k : PackId) (run : ProbeRun) (change : ProbeRecord → ProbeRecord) (s : State) :
    Within [.pack k] s (stepped k run change s) :=
  (within_updatingPack (.probe k) k (fun x => { x.pack k with
    record := { change (setStep (x.pack k).record run.step .ok) with state := .waiting } }) s).trans (within_waiting k _ _)

theorem stepped_pack (k : PackId) (run : ProbeRun) (change : ProbeRecord → ProbeRecord) (s : State) :
    (stepped k run change s).pack k = { s.pack k with
      probe := some { run with step := run.step + 1 }
      record := { change (setStep (s.pack k).record run.step .ok) with state := .waiting } } := by
  unfold stepped
  rw [waiting_pack, updatingPack_pack (.probe k) k fun x => { x.pack k with
    record := { change (setStep (x.pack k).record run.step .ok) with state := .waiting } }]

theorem nextStep_eq {k : PackId} {run : ProbeRun} {s : State} (halted : s.portA.state ≠ .halted)
    (disabled : s.portA.state ≠ .disabled) (change : ProbeRecord → ProbeRecord) : nextStep k run change s =
      offerWork .a (.probe (stepUnit (stepped k run change s) k { run with step := run.step + 1 })) (stepped k run change s) := by
  have port := updatingPack_portA (.probe k) k (fun x => { x.pack k with
    record := { change (setStep (x.pack k).record run.step .ok) with state := .waiting } }) s
  unfold nextStep
  rw [offerStep_live (by rw [port]; exact halted) (by rw [port]; exact disabled)]
  rfl

/-- R106, R115: a granted step of a pack that is known already. -/
theorem probeGranted_known {u : ProbeUnit} {k : PackId} {s : State} (own : u.pack = k) (known : (s.pack k).state ≠ .detected) :
    (probeGranted u s).pack k = { s.pack k with record := { (s.pack k).record with state := .running } } ∧
      Within [.pack k] s (probeGranted u s) := by
  subst own
  have told := updatingPack_pack (.probe u.pack) u.pack (fun x => { x.pack u.pack with
    record := { (x.pack u.pack).record with state := .running } }) s
  unfold probeGranted probeBegun
  rw [if_neg (by rw [told]; exact known)]
  exact ⟨told, within_updatingPack (.probe u.pack) u.pack _ s⟩

/-- R72, R111, R115: the next step offered, granted at once or waiting. -/
theorem nextStep_outcome {k : PackId} {run : ProbeRun} {s : State} (halted : s.portA.state ≠ .halted)
    (disabled : s.portA.state ≠ .disabled) (known : s.portA.state ≠ .idle ∨ (s.pack k).state ≠ .detected)
    (change : ProbeRecord → ProbeRecord) :
    let now := s.portA.state = .idle ∧ nothingWaits s.portA = true
    let t := nextStep k run change s
    let y := stepUnit s k { run with step := run.step + 1 }
    t.pack k = { s.pack k with
      probe := some { run with step := run.step + 1 }
      record := { change (setStep (s.pack k).record run.step .ok) with state := if now then .running else .waiting } } ∧
    t.portA = (if now then { s.portA with state := .busy, granted := some (.probe y), starting := true, second := false }
      else { s.portA with probes := s.portA.probes ++ [y] }) ∧ Within [.pack k, .port .a] s t := by
  have pack := stepped_pack k run change s
  have first := within_stepped k run change s
  have port : (stepped k run change s).port .a = s.portA := first.port .a (by simp)
  have unit : stepUnit (stepped k run change s) k { run with step := run.step + 1 } =
      stepUnit s k { run with step := run.step + 1 } := by
    have engine : (stepped k run change s).engineA = s.engineA := first.engine .a (by simp)
    unfold stepUnit
    rw [engine]
  dsimp only
  rw [nextStep_eq halted disabled, unit]
  generalize stepped k run change s = x at pack first port ⊢
  unfold offerWork
  rw [port]
  by_cases now : s.portA.state = .idle ∧ nothingWaits s.portA = true
  · have portA : x.portA = s.portA := port
    have onBus := updatingPort_portA (putOnBus (.probe (stepUnit s k { run with step := run.step + 1 }))) x
    have moved := within_updatingPort .a (putOnBus (.probe (stepUnit s k { run with step := run.step + 1 }))) x
    have still := moved.pack k (by simp)
    obtain ⟨granted, w⟩ := probeGranted_known (u := stepUnit s k { run with step := run.step + 1 }) (k := k)
      (s := updatingPort .a (putOnBus (.probe (stepUnit s k { run with step := run.step + 1 }))) x) rfl (by
        rw [still, pack]
        exact known.resolve_left fun h => h now.1)
    simp only [if_pos now]
    refine ⟨granted.trans ?_, (w.port .a (by simp)).trans ?_, ((first.then moved).then w).mono (by simp)⟩
    · rw [still, pack]
    · exact onBus.trans (by rw [portA]; rfl)
  · have portA : x.portA = s.portA := port
    have joined := updatingPort_portA (joinList (.probe (stepUnit s k { run with step := run.step + 1 }))) x
    have moved := within_updatingPort .a (joinList (.probe (stepUnit s k { run with step := run.step + 1 }))) x
    simp only [if_neg now]
    refine ⟨(moved.pack k (by simp)).trans pack, joined.trans ?_, (first.then moved).mono (by simp)⟩
    rw [portA]
    rfl

/-! ### A probe that succeeds -/

/-- R113: the pack as the probe's success stores it. -/
def proven (i : Identity) (alarm : Word16) (s : State) (p : Pack) : Pack :=
  storeProbe i alarm { p with probe := none, record := endRecord s .ok (setStep p.record 4 .ok) }

/-- R113: ONLINE by a probe, its request aside. -/
def welcomed (k : PackId) (i : Identity) (word : Nat) (s : State) : State :=
  setPackState k .online (if isNewPack (s.pack k) i then .newPack else .probeOk) clearFaults
    (flagReactions (if isNewPack (s.pack k) i then 0#16 else (s.pack k).values.alarmWord) (BitVec.ofNat 16 word)
      (updating (.pack k) (fun x => x.setPack k (storeProbe i (BitVec.ofNat 16 word) (x.pack k)))
        (updating (.probe k) (fun x => x.setPack k { x.pack k with
          probe := none, record := endRecord x .ok (setStep (x.pack k).record 4 .ok) }) s)))

theorem probeSucceeds_eq (k : PackId) (i : Identity) (word : Nat) (s : State) :
    probeSucceeds k i word s = completeProbeRequest k .ok 0 (welcomed k i word s) := rfl

theorem welcomed_pack (k : PackId) (i : Identity) (word : Nat) (s : State) : (welcomed k i word s).pack k =
    { clearFaults (proven i (BitVec.ofNat 16 word) s (s.pack k)) with
      state := .online, reason := if isNewPack (s.pack k) i then .newPack else .probeOk } := by
  unfold welcomed
  rw [setPackState_pack, (within_flagReactions _ _ _).pack k (by simp),
    updatingPack_pack (.pack k) k fun x => storeProbe i (BitVec.ofNat 16 word) (x.pack k),
    updatingPack_pack (.probe k) k fun x => { x.pack k with
      probe := none, record := endRecord x .ok (setStep (x.pack k).record 4 .ok) }]
  rfl

theorem flagReactions_canonical (a b : Word16) {s : State} (wf : memoryCanonical s) : memoryCanonical (flagReactions a b s) := by
  have decided := (mid_dischargeDecision s).memory wf
  unfold flagReactions
  dsimp only
  split <;> split
  · exact wf
  · exact decided
  · exact (low_evaluate s).memory wf
  · exact (low_evaluate _).memory decided

theorem welcomed_canonical (k : PackId) (i : Identity) (word : Nat) {s : State} (wf : memoryCanonical s) :
    memoryCanonical (welcomed k i word s) := by
  have ended := updatingPack_canonical wf (.probe k) k fun x => { x.pack k with
    probe := none, record := endRecord x .ok (setStep (x.pack k).record 4 .ok) }
  have stored := updatingPack_canonical ended (.pack k) k fun x => storeProbe i (BitVec.ofNat 16 word) (x.pack k)
  exact (keeps_setPackState k _ _ clearFaults _ (fun _ _ => Nat.zero_le _)).memory (flagReactions_canonical _ _ stored)

theorem isNewPack_of {p : Pack} {i : Identity} :
    ((∃ old, p.identity = some old ∧ old.serial = i.serial) → isNewPack p i = false) ∧
    ((∀ old, p.identity = some old → old.serial ≠ i.serial) → isNewPack p i = true) := by
  unfold isNewPack
  cases p.identity <;> simp

/-- R113, R116: a probe's last step ends with OK. -/
theorem probeSucceeds_outcome (k : PackId) (j : Identity) (word : Nat) (s : State) : let t := probeSucceeds k j word s
    let alarm := BitVec.ofNat 16 word
    (t.pack k).state = .online ∧ probeOver k .ok s t ∧ (t.pack k).record.step4 = .ok ∧
      (t.pack k).identity = some j ∧ (t.pack k).window = [] ∧ (t.pack k).implausibleRun = 0 ∧
      (t.pack k).failures = 0 ∧ requestAnswered k .ok 0 s t ∧
      ((∃ old, (s.pack k).identity = some old ∧ old.serial = j.serial) → (t.pack k).reason = .probeOk ∧
        (t.pack k).values = { (s.pack k).values with alarmWord := alarm } ∧
        (t.pack k).ages = (s.pack k).ages.set 6 (some 0)) ∧
      ((∀ old, (s.pack k).identity = some old → old.serial ≠ j.serial) → (t.pack k).reason = .newPack ∧
        (t.pack k).values = { clearedValues with alarmWord := alarm } ∧
        (t.pack k).ages = List.replicate 6 none ++ [some 0]) := by
  have pack := welcomed_pack k j word s
  have answered := requestAnswered_complete (k := k) (s := s) .ok 0
    (show ((welcomed k j word s).pack k).request = (s.pack k).request by rw [pack]; rfl) (welcomed_canonical k j word)
  have final := completeProbeRequest_pack k .ok 0 (welcomed k j word s)
  obtain ⟨own, fresh⟩ := isNewPack_of (p := s.pack k) (i := j)
  have same : isNewPack { s.pack k with probe := none, record := endRecord s .ok (setStep (s.pack k).record 4 .ok) } j =
      isNewPack (s.pack k) j := rfl
  dsimp only
  unfold probeOver
  rw [probeSucceeds_eq, final, pack]
  refine ⟨rfl, ⟨rfl, rfl, rfl, rfl⟩, rfl, rfl, rfl, rfl, rfl, answered, fun known => ?_, fun new => ?_⟩
  · unfold proven storeProbe
    rw [same, own known]
    exact ⟨rfl, rfl, rfl⟩
  · unfold proven storeProbe
    rw [same, fresh new]
    exact ⟨rfl, rfl, rfl⟩

/-! ### The obligation -/

/-- R112: the command byte of the step after the second, and after the third. -/
theorem stepUnit_command (s : State) (k : PackId) (run : ProbeRun) :
    (run.step = 2 → (stepUnit s k { run with step := run.step + 1 }).command = s.engineA.list.identityCommand) ∧
    (run.step = 3 → ∀ e, s.engineA.list.entries.find? (fun e => e.binding == .pack k .alarm) = some e →
      (stepUnit s k { run with step := run.step + 1 }).command = e.command) := by
  unfold stepUnit stepCommand
  refine ⟨fun step => by simp only [step], fun step e found => ?_⟩
  simp only [step, found]

/-- Settles O32: the window, then a step's end by its outcome and its number. -/
theorem faultWindow : Obligations.FaultWindow := by
  refine ⟨fun o w => enterWindow_short o, fun o x w => enterWindow_full o x, fun p i w own => implausibleVoltage_iff own w,
    fun c p => rfl, fun x o d s idle => probeStepEnd_idle idle o d, fun x run o d s live runs least most => ?_⟩
  obtain ⟨fails, first, short, bad, third, last⟩ := probeStepEnd_cases live runs o d
  have w := within_probeStepEnd x o d s
  dsimp only
  refine ⟨⟨w.pack _ (by simp [otherPack_ne]), w.th (by simp), w.engine .a (by simp), w.engine .b (by simp), w.port .b (by simp)⟩,
    fun notOk => ?_, fun ok step length => ?_, fun ok step ten voltage => ?_, fun ok halted disabled known goes => ?_,
    fun ok step j own ages => ?_⟩
  · rw [fails notOk]
    exact probeFailedAt_probeFails _ _ _ s
  · rw [short ok step length]
    exact probeFailedAt_probeFails _ _ _ s
  · rw [bad ok step ten ((badIdentity_iff _).mpr voltage)]
    exact probeBadIdentity_outcome _ _ s
  · have next : ∃ change : ProbeRecord → ProbeRecord, probeStepEnd x o d s = nextStep x.pack run change s ∧
        (∀ r : ProbeRecord, (change r).step1 = r.step1 ∧ (change r).step2 = r.step2 ∧ (change r).step3 = r.step3 ∧
          (change r).step4 = r.step4) ∧
        ∀ r : ProbeRecord, (change r).identity = if run.step = 3 then some (identityOf d) else r.identity := by
      rcases goes with step | step | ⟨step, ten, low, high⟩
      · exact ⟨id, first ok (.inl step), fun _ => ⟨rfl, rfl, rfl, rfl⟩, fun _ => by simp [step]⟩
      · exact ⟨id, first ok (.inr step), fun _ => ⟨rfl, rfl, rfl, rfl⟩, fun _ => by simp [step]⟩
      · have good : badIdentity (identityOf d) = false := by
          rw [Bool.eq_false_iff, ne_eq, badIdentity_iff]
          omega
        exact ⟨_, third ok step ten good, fun _ => ⟨rfl, rfl, rfl, rfl⟩, fun _ => by simp [step]⟩
    obtain ⟨change, eq, steps, identity⟩ := next
    obtain ⟨pack, port, frame⟩ := nextStep_outcome (k := x.pack) (run := run) halted disabled known change
    obtain ⟨command, alarm⟩ := stepUnit_command s x.pack run
    rw [eq]
    refine ⟨by rw [pack], by rw [pack], by rw [pack], ?_, ?_, ⟨by rw [pack], by rw [pack], by rw [pack]⟩, frame.mem (by simp),
      frame.chg (by simp), frame.dsg (by simp), frame.samePlatform (by simp) (by simp) (by simp),
      stepUnit s x.pack { run with step := run.step + 1 }, port, rfl, rfl, rfl, rfl, rfl, command, alarm⟩
    · rw [pack]
      exact (stepOutcome_congr (steps _) run.step).trans (stepOutcome_setStep _ _ _)
    · rw [pack]
      refine (identity _).trans ?_
      rw [setStep_identity]
  · rw [last ok step j own]
    exact probeSucceeds_outcome _ j _ s

end Sys2Proof.Proofs.ProbeSteps
end

section
/-! PROOF. The rules of a slot's reading and of a fan (R148, R151, R154 to R161). -/
set_option Elab.async false

namespace Sys2Proof.Proofs.FanRules

open Sys2Proof Sys2Proof.Machine Sys2Proof.Safety Sys2Proof.Laws

/-! ### A stored reading (R148, R151) -/

theorem clampInt_eq (t : Int) : clampInt (-400) 1500 t = max (-400) (min 1500 t) := by
  unfold clampInt
  split
  · omega
  · split <;> omega

theorem tripAfter_cases (critical : Int) (x : Slot) :
    (tripAfter critical x).state = x.state ∧ (tripAfter critical x).reading = x.reading ∧
    (tripAfter critical x).missCount = x.missCount ∧
    (x.tripped = false → x.reading < critical → (tripAfter critical x).tripped = false ∧ (tripAfter critical x).tripCount = 0) ∧
    (x.tripped = false → critical ≤ x.reading → x.tripCount = 0 →
      (tripAfter critical x).tripped = false ∧ (tripAfter critical x).tripCount = 1) ∧
    (x.tripped = false → critical ≤ x.reading → 1 ≤ x.tripCount →
      (tripAfter critical x).tripped = true ∧ (tripAfter critical x).tripCount = 0) ∧
    (x.tripped = true → ((tripAfter critical x).tripped = true ↔ critical - 100 ≤ x.reading)) := by
  unfold tripAfter
  cases trip : x.tripped
  · by_cases hot : critical ≤ x.reading
    · rcases Nat.eq_zero_or_pos x.tripCount with none | some
      · simp [hot, none, Int.not_lt.mpr hot]
      · simp [hot, Nat.ne_of_gt some, Int.not_lt.mpr hot, show 2 ≤ x.tripCount + 1 by omega]
    · simp [hot]
  · simp

theorem slotRead_spec (critical t : Int) (x : Slot) : let c := max (-400) (min 1500 t)
    let y := slotRead critical t x
    y.state = .valid ∧ y.reading = c ∧ y.missCount = 0 ∧
    (x.tripped = false → c < critical → y.tripped = false ∧ y.tripCount = 0) ∧
    (x.tripped = false → critical ≤ c → x.tripCount = 0 → y.tripped = false ∧ y.tripCount = 1) ∧
    (x.tripped = false → critical ≤ c → 1 ≤ x.tripCount → y.tripped = true ∧ y.tripCount = 0) ∧
    (x.tripped = true → (y.tripped = true ↔ critical - 100 ≤ c)) := by
  dsimp only
  rw [← clampInt_eq]
  exact tripAfter_cases critical { x with state := .valid, reading := clampInt (-400) 1500 t, missCount := 0 }

/-- R148: a slot after OPEN or SHORT keeps its reading and its trip. -/
theorem slotFailed_spec (x : Slot) : (slotFailed x).state = .failed ∧ (slotFailed x).reading = x.reading ∧
    (slotFailed x).tripped = x.tripped := by
  unfold slotFailed
  split
  · next failed => exact ⟨failed, rfl, rfl⟩
  · exact ⟨rfl, rfl, rfl⟩

/-! ### The control temperature (R154) -/

theorem hottest_spec : ∀ l : List Int, l ≠ [] → hottest l ∈ l ∧ ∀ x ∈ l, x ≤ hottest l
  | [], filled => absurd rfl filled
  | [t], _ => by simp [hottest]
  | t :: u :: rest, _ => by
    obtain ⟨member, most⟩ := hottest_spec (u :: rest) (by simp)
    refine ⟨?_, fun x own => ?_⟩
    · unfold hottest
      rcases Int.le_total t (hottest (u :: rest)) with below | above
      · rw [Int.max_eq_right below]
        exact List.mem_cons_of_mem _ member
      · rw [Int.max_eq_left above]
        exact List.mem_cons_self
    · unfold hottest
      rcases List.mem_cons.mp own with same | later
      · rw [same]
        exact Int.le_max_left _ _
      · exact Int.le_trans (most x later) (Int.le_max_right _ _)

/-- R154: the highest of some temperatures, in whole degrees. -/
theorem hottest_map (g : Nat → Int) {l : List Nat} (some : l ≠ []) :
    (∃ n ∈ l, hottest (l.map g) / 10 = g n / 10) ∧ ∀ n ∈ l, g n / 10 ≤ hottest (l.map g) / 10 := by
  obtain ⟨member, most⟩ := hottest_spec (l.map g) (by simp [some])
  obtain ⟨n, own, eq⟩ := List.mem_map.mp member
  exact ⟨⟨n, own, by rw [eq]⟩, fun m here => Int.ediv_le_ediv (by decide) (most _ (List.mem_map_of_mem here))⟩

theorem controlTemperature_spec (s : State) (f : FanId) : let bound := (curveOf s f).bound
    let on := bound.filter fun n => (slotConfig s n).enable
    (on ≠ [] → (∃ n ∈ on, controlTemperature s f = effective s n / 10) ∧
      ∀ n ∈ on, effective s n / 10 ≤ controlTemperature s f) ∧
    (on = [] → bound ≠ [] → (∃ n ∈ bound, controlTemperature s f = (slotConfig s n).fallback / 10) ∧
      ∀ n ∈ bound, (slotConfig s n).fallback / 10 ≤ controlTemperature s f) := by
  dsimp only
  unfold controlTemperature
  dsimp only
  refine ⟨fun some => ?_, fun none bound => ?_⟩
  · rw [if_neg some]
    exact hottest_map _ some
  · rw [if_pos none]
    exact hottest_map _ bound

/-! ### The curve (R154) -/

theorem curveFrom_last (x : Int) : ∀ (p : CurvePoint) (l : List CurvePoint), (∀ q ∈ l, q.temp ≤ x) →
    curveFrom p l x = ((p :: l).getLast (by simp)).duty
  | _, [], _ => rfl
  | _, q :: rest, most => by
    unfold curveFrom
    rw [if_neg (Int.not_lt.mpr (most q List.mem_cons_self)), curveFrom_last x q rest fun r here => most r (List.mem_cons_of_mem _ here)]
    rfl

theorem curveFrom_between {x : Int} {a b : CurvePoint} (low : a.temp ≤ x) (high : x < b.temp) :
    ∀ (p : CurvePoint) (l : List CurvePoint) (i : Nat), (p :: l).Pairwise (fun p q => p.temp < q.temp) →
      (p :: l)[i]? = some a → (p :: l)[i + 1]? = some b →
      curveFrom p l x = a.duty + ((x - a.temp) * ((b.duty : Int) - a.duty) / (b.temp - a.temp)).toNat
  | p, [], i, _, _, next => by simp at next
  | p, q :: rest, 0, _, here, next => by
    obtain rfl : p = a := by simpa using here
    obtain rfl : q = b := by simpa using next
    unfold curveFrom
    rw [if_pos high]
  | p, q :: rest, i + 1, rising, here, next => by
    have tail := (List.pairwise_cons.mp rising).2
    have here : (q :: rest)[i]? = some a := here
    have before : q.temp ≤ a.temp := by
      rcases List.mem_cons.mp (List.mem_of_getElem? here) with same | later
      · exact Int.le_of_eq (congrArg CurvePoint.temp same.symm)
      · exact Int.le_of_lt ((List.pairwise_cons.mp tail).1 a later)
    unfold curveFrom
    rw [if_neg (Int.not_lt.mpr (Int.le_trans before low))]
    exact curveFrom_between low high q rest i tail here next

theorem temp_le_last {l : List CurvePoint} {p : CurvePoint} (rising : l.Pairwise (fun p q => p.temp < q.temp))
    (last : l.getLast? = some p) : ∀ q ∈ l, q.temp ≤ p.temp := by
  obtain ⟨before, rfl⟩ := List.getLast?_eq_some_iff.mp last
  intro q here
  rcases List.mem_append.mp here with early | late
  · exact Int.le_of_lt ((List.pairwise_append.mp rising).2.2 q early p (by simp))
  · exact Int.le_of_eq (congrArg CurvePoint.temp (List.mem_singleton.mp late))

theorem curveValue_cons (p : CurvePoint) (rest : List CurvePoint) (x : Int) :
    curveValue (p :: rest) x = if x ≤ p.temp then p.duty else curveFrom p rest x := rfl

/-- R154: a curve's first point, its last point and the points between. -/
theorem curveValue_spec (l : List CurvePoint) (t : Int) (rising : l.Pairwise (fun p q => p.temp < q.temp)) :
    (∀ p, l.head? = some p → t ≤ p.temp → curveValue l t = p.duty) ∧
    (∀ p, l.getLast? = some p → p.temp ≤ t → curveValue l t = p.duty) ∧
    (∀ i p q, l[i]? = some p → l[i + 1]? = some q → p.temp ≤ t → t < q.temp →
      curveValue l t = p.duty + ((t - p.temp) * ((q.duty : Int) - p.duty) / (q.temp - p.temp)).toNat) := by
  cases l with
  | nil => simp
  | cons h rest =>
    have above := (List.pairwise_cons.mp rising).1
    refine ⟨fun p first below => ?_, fun p last atop => ?_, fun i p q here next low high => ?_⟩
    · obtain rfl : h = p := by simpa using first
      rw [curveValue_cons, if_pos below]
    · have most := temp_le_last rising last
      have final : (h :: rest).getLast (by simp) = p := Option.some.inj ((List.getLast?_eq_some_getLast (by simp)).symm.trans last)
      rw [curveValue_cons, curveFrom_last t h rest fun q later => Int.le_trans (most q (List.mem_cons_of_mem _ later)) atop, final]
      split
      · next below =>
        rcases List.mem_cons.mp (List.mem_of_getLast? last) with same | later
        · rw [same]
        · exact absurd (above p later) (by omega)
      · rfl
    · rw [curveValue_cons]
      split
      · next below =>
        rcases i with _ | i
        · obtain rfl : h = p := by simpa using here
          obtain rfl : t = h.temp := Int.le_antisymm below low
          simp
        · exact absurd (above p (List.mem_of_getElem? (l := rest) here)) (by omega)
      · exact curveFrom_between low high h rest i rising here next

/-! ### The computation of a duty (R155 to R158) -/

theorem commandedDuty_eq (slewed floor target startMin : Nat) : commandedDuty slewed floor target startMin =
    if slewed < floor then max floor startMin
    else if slewed < startMin then (if target = 0 then 0 else if slewed = 0 then 0 else startMin)
    else slewed := by
  unfold commandedDuty
  split
  · split <;> omega
  · split
    · split
      · rfl
      · split <;> split <;> omega
    · rfl

/-- R158: the floor and the slew of a computed duty never lower it below the floor. -/
theorem floor_le_commandedDuty {slewed floor target startMin : Nat} (fits : startMin ≤ floor) :
    floor ≤ commandedDuty slewed floor target startMin := by
  rw [commandedDuty_eq]
  split
  · exact Nat.le_max_left _ _
  · rw [if_neg (by omega)]
    omega

theorem le_commandedDuty {duty floor target startMin : Nat} (below : duty < floor) :
    duty ≤ commandedDuty duty floor target startMin := by
  rw [commandedDuty_eq, if_pos below]
  omega

theorem floorDuty_eq (s : State) (f : FanId) (st : FanState) (faulted : Bool) : floorDuty s f st faulted =
    max (if faulted = true then ((curveInUse s f).getLastD ⟨0, 0⟩).duty else 0)
      (if st = .kicking ∨ s.tripActive = true then 100 else 0) := by
  unfold floorDuty lastPoint
  by_cases kicks : st = .kicking <;> by_cases trips : s.tripActive = true <;> simp [kicks, trips]

theorem computeFan_spec (s : State) (f : FanId) (other : Bool) :
    let c := computeFan false s f other
    let x := s.fan f
    let t := controlTemperature s f
    let h := s.th.table.hysteresis
    let curve := curveInUse s f
    let last := curve.getLastD ⟨0, 0⟩
    let up := curveValue curve t
    let down := curveValue curve (t + h)
    let floor := max (if other = true then last.duty else 0)
      (if x.state = .kicking ∨ s.tripActive = true then 100 else 0)
    let slewed := if c.target ≤ x.duty + 8 ∧ x.duty ≤ c.target + 8 then c.target
      else if x.duty < c.target then x.duty + 8 else x.duty - 8
    c.controlTemp = t ∧ c.curveClosed = !s.lidOpen ∧
    c.curveDuty = (if x.curveDuty < up then up else if down < x.curveDuty then down else x.curveDuty) ∧
    c.offRun = (if s.th.table.offThreshold ≤ t then true
      else if t < s.th.table.offThreshold - h then false else x.offRun) ∧
    c.target = (if (s.power.state = .sleep ∨ s.power.state = .off) ∧ c.offRun = false then 0
      else if x.override ≠ 0 then (if last.temp ≤ t then max x.override up else x.override)
      else if s.th.boostMs.isSome = true then min 100 (c.curveDuty + 30) else c.curveDuty) ∧
    c.duty = (if slewed < floor then max floor s.th.table.startMin
      else if slewed < s.th.table.startMin then
        (if c.target = 0 then 0 else if slewed = 0 then 0 else s.th.table.startMin)
      else slewed) ∧
    curve = (if s.lidOpen = true then (curveOf s f).opened else (curveOf s f).closed) := by
  refine ⟨rfl, rfl, rfl, rfl, ?_, ?_, rfl⟩
  · unfold computeFan targetDuty lastPoint
    simp
  · refine (commandedDuty_eq _ _ _ _).trans ?_
    rw [floorDuty_eq]
    rfl

/-! ### Fan states (R160, R161) -/

theorem decideFan_spec (stall : Nat) (x : Fan) : let y := decideFan stall x
    let slow := 0 < x.windowDuty ∧ x.rpm < stall
    (x.state = .off → y = x) ∧
    (x.state = .running → ¬ slow → y = { x with low := 0 }) ∧
    (x.state = .running → slow → x.low ≠ 2 → y = { x with low := x.low + 1 }) ∧
    (x.state = .running → slow → x.low = 2 → y = { x with low := 3, state := .stalled }) ∧
    (x.state = .stalled → y = { x with state := .kicking, kickWindow := 0 }) ∧
    (x.state = .kicking → x.kickWindow = 0 → y = { x with kickWindow := 1 }) ∧
    (x.state = .kicking → 1 ≤ x.kickWindow → stall ≤ x.rpm →
      y.state = .running ∧ y.low = 0 ∧ y.kick = 0 ∧ y.duty = x.duty) ∧
    (x.state = .kicking → 1 ≤ x.kickWindow → x.rpm < stall → x.kick ≠ 2 →
      y = { x with kick := x.kick + 1, kickWindow := 0 }) ∧
    (x.state = .kicking → 1 ≤ x.kickWindow → x.rpm < stall → x.kick = 2 →
      y.state = .faulted ∧ y.recovery = 0 ∧ y.duty = x.duty) ∧
    (x.state = .faulted → ¬ (0 < x.windowDuty ∧ stall ≤ x.rpm) → y = { x with recovery := 0 }) ∧
    (x.state = .faulted → 0 < x.windowDuty → stall ≤ x.rpm → x.recovery ≠ 2 →
      y = { x with recovery := x.recovery + 1 }) ∧
    (x.state = .faulted → 0 < x.windowDuty → stall ≤ x.rpm → x.recovery = 2 → y = { x with
      state := if x.duty = 0 then .off else .running, kick := 0, low := 0, recovery := 0 }) := by
  dsimp only
  unfold decideFan
  cases own : x.state with
  | off => simp
  | stalled => simp
  | running =>
    simp only [reduceCtorEq, false_implies, true_implies, and_true, true_and]
    refine ⟨fun fast => by rw [if_neg fast], fun slow more => ?_, fun slow two => ?_⟩
    · rw [if_pos slow, if_neg (by omega)]
    · rw [if_pos slow, if_pos (by omega)]
  | kicking =>
    simp only [reduceCtorEq, false_implies, true_implies, and_true, true_and]
    refine ⟨fun none => by simp [none], fun one fast => ?_, fun one slow more => ?_, fun one slow two => ?_⟩
    · rw [if_neg (by omega), if_pos fast]
      exact ⟨rfl, rfl, rfl, rfl⟩
    · rw [if_neg (by omega), if_neg (by omega), if_neg (by omega)]
    · rw [if_neg (by omega), if_neg (by omega), if_pos (by omega)]
      exact ⟨rfl, rfl, rfl⟩
  | faulted =>
    simp only [reduceCtorEq, false_implies, true_implies, true_and]
    refine ⟨fun slow => by rw [if_neg slow], fun turns fast more => ?_, fun turns fast two => ?_⟩
    · rw [if_pos ⟨turns, fast⟩, if_neg (by omega)]
    · rw [if_pos ⟨turns, fast⟩, if_pos (by omega)]

/-- R160, R161: a decision changes the state and its counts only. -/
theorem decideFan_rest (stall : Nat) (x : Fan) : decideFan stall x = { x with
    state := (decideFan stall x).state, low := (decideFan stall x).low, kick := (decideFan stall x).kick
    kickWindow := (decideFan stall x).kickWindow, recovery := (decideFan stall x).recovery } := by
  unfold decideFan
  cases x.state <;> dsimp only <;> (repeat' split) <;> rfl

/-- R161: a decision reads the duty at the end of a fault only. -/
theorem decideFan_duty {stall : Nat} {x y : Fan} {d o : Nat} (same : y = { x with duty := d, override := o }) (least : x.duty ≤ d) :
    ((decideFan stall x).state ≠ .off → (decideFan stall y).state = (decideFan stall x).state) ∧
    ((decideFan stall x).state = .off → (decideFan stall y).state = .off ∨ (decideFan stall y).state = .running) := by
  subst same
  unfold decideFan
  cases own : x.state with
  | off => simp [own]
  | running => dsimp only; (repeat' split) <;> simp
  | stalled => simp
  | kicking => dsimp only; (repeat' split) <;> simp
  | faulted =>
    dsimp only
    by_cases turns : 0 < x.windowDuty ∧ stall ≤ x.rpm
    · by_cases third : x.recovery + 1 = 3
      · by_cases still : x.duty = 0
        · simp only [if_pos turns, if_pos third, if_pos still]
          exact ⟨fun h => absurd rfl h, fun _ => by split <;> simp⟩
        · simp only [if_pos turns, if_pos third, if_neg still, if_neg (show ¬ d = 0 by omega)]
          simp
      · simp only [if_pos turns, if_neg third]
        simp
    · simp [if_neg turns]

end Sys2Proof.Proofs.FanRules
end

section
/-! PROOF. What a measurement and the trip rules do to the fans (R148, R151, R152). -/
set_option Elab.async false

namespace Sys2Proof.Proofs.Measurements

open Sys2Proof Sys2Proof.Machine Sys2Proof.Safety Sys2Proof.Laws Sys2Proof.Proofs.Frames Sys2Proof.Proofs.Updates
  Sys2Proof.Proofs.Units Sys2Proof.Proofs.WatchAndAdapter Sys2Proof.Proofs.FanRules

/-! ### Fans between two updates -/

/-- A fan but for its override and for a duty raised to a floor; it is raised only where `rose` says so. -/
def FanHeld (rose : Prop) (x y : Fan) : Prop :=
  y = { x with duty := y.duty, override := y.override } ∧ x.duty ≤ y.duty ∧ (¬ rose → y.duty = x.duty)

theorem FanHeld.refl (rose : Prop) (x : Fan) : FanHeld rose x x := ⟨rfl, Nat.le_refl _, fun _ => rfl⟩

theorem FanHeld.trans {rose : Prop} {x y z : Fan} (first : FanHeld rose x y) (next : FanHeld rose y z) : FanHeld rose x z := by
  obtain ⟨same, least, still⟩ := first
  obtain ⟨same', least', still'⟩ := next
  refine ⟨?_, Nat.le_trans least least', fun h => (still' h).trans (still h)⟩
  rw [same', same]

theorem FanHeld.mono {rose also : Prop} {x y : Fan} (held : FanHeld rose x y) (more : rose → also) : FanHeld also x y := by
  obtain ⟨same, least, still⟩ := held
  exact ⟨same, least, fun h => still fun r => h (more r)⟩

/-- The fans of the unit held, those that are present raised only where `rose` says so. -/
def FansHeld (rose : Prop) (s t : State) : Prop :=
  t.th.updateMs = s.th.updateMs ∧ t.power.straps = s.power.straps ∧
    ∀ f, FanHeld (rose ∧ s.fanPresent f = true) (s.fan f) (t.fan f)

theorem fanPresent_of_straps {s t : State} (straps : t.power.straps = s.power.straps) (f : FanId) : t.fanPresent f = s.fanPresent f := by
  cases f with
  | fan0 => rfl
  | fan1 => exact congrArg (fun x => x.fanCount == 2) straps

theorem fan_of_th {s t : State} (th : t.th = s.th) (f : FanId) : t.fan f = s.fan f := by
  cases f with
  | fan0 => exact congrArg Thermal.fan0 th
  | fan1 => exact congrArg Thermal.fan1 th

theorem FansHeld.of_th {rose : Prop} {s t : State} (th : t.th = s.th) (straps : t.power.straps = s.power.straps) :
    FansHeld rose s t :=
  ⟨by rw [th], straps, fun f => by
    rw [fan_of_th th]
    exact FanHeld.refl _ _⟩

theorem FansHeld.refl (rose : Prop) (s : State) : FansHeld rose s s := FansHeld.of_th rfl rfl

theorem FansHeld.trans {rose : Prop} {s t u : State} (first : FansHeld rose s t) (next : FansHeld rose t u) : FansHeld rose s u := by
  obtain ⟨ms, straps, fans⟩ := first
  obtain ⟨ms', straps', fans'⟩ := next
  refine ⟨ms'.trans ms, straps'.trans straps, fun f => (fans f).trans ((fans' f).mono fun h => ?_)⟩
  rw [← fanPresent_of_straps straps f]
  exact h

theorem FansHeld.mono {rose also : Prop} {s t : State} (held : FansHeld rose s t) (more : rose → also) : FansHeld also s t := by
  obtain ⟨ms, straps, fans⟩ := held
  exact ⟨ms, straps, fun f => (fans f).mono fun h => ⟨more h.1, h.2⟩⟩

/-! ### Floors -/

theorem raiseToFloor_fan (f : FanId) (s : State) : FanHeld (s.fanPresent f = true) (s.fan f) ((raiseToFloor f s).fan f) ∧
    (raiseToFloor f s).fan (otherFan f) = s.fan (otherFan f) := by
  unfold raiseToFloor
  dsimp only
  split
  · next low =>
    rw [fan_setFan, fan_setFan_ne (by cases f <;> simp [otherFan])]
    exact ⟨⟨rfl, le_commandedDuty low.2, fun h => absurd low.1 h⟩, rfl⟩
  · exact ⟨FanHeld.refl _ _, rfl⟩

theorem raiseToFloor_updateMs (f : FanId) (s : State) : (raiseToFloor f s).th.updateMs = s.th.updateMs := by
  unfold raiseToFloor
  dsimp only
  split
  · cases f <;> rfl
  · rfl

theorem held_raiseToFloor (f : FanId) (s : State) : FansHeld True s (raiseToFloor f s) := by
  obtain ⟨own, rest⟩ := raiseToFloor_fan f s
  refine ⟨raiseToFloor_updateMs f s, (low_raiseToFloor f s).straps, fun g => ?_⟩
  by_cases same : g = f
  · rw [same]
    exact own.mono fun h => ⟨trivial, h⟩
  · have other : g = otherFan f := by cases f <;> cases g <;> simp_all [otherFan]
    rw [other, rest]
    exact FanHeld.refl _ _

theorem held_raiseFans (before : Bool) (s : State) : FansHeld (s.tripActive = true ∧ before = false) s (raiseFans before s) := by
  unfold raiseFans
  split
  · next begins =>
    exact ((held_raiseToFloor .fan0 s).trans (held_raiseToFloor .fan1 _)).mono fun _ => by simpa using begins
  · exact FansHeld.refl _ s

/-! ### The trip rules -/

theorem held_endBoost (s : State) : FansHeld False s (endBoost s) := by
  refine ⟨?_, (low_endBoost s).straps, fun f => ?_⟩ <;> unfold endBoost setBoost updatingFans <;> split
  · rw [commit_th, commit_th]
  · rfl
  · rw [fan_of_th ((commit_th _ _ _).trans (commit_th _ _ _))]
    cases f <;> exact FanHeld.refl _ _
  · exact FanHeld.refl _ _

theorem held_withdrawOverrides (s : State) : FansHeld False s (withdrawOverrides s) := by
  obtain ⟨_, th⟩ := withdrawOverrides_same s
  refine ⟨by rw [th], (mid_withdrawOverrides s).straps, fun f => ?_⟩
  rw [fan_of_th (t := withdrawOverrides s) (s := { s with th := (withdrawOverrides s).th }) rfl, th]
  cases f <;> exact ⟨rfl, Nat.le_refl _, fun _ => rfl⟩

/-- R6, R22: a change of power state holds the fans, their overrides aside. -/
theorem held_changePower (new : PowerState) (c : Cause) (f : Power → Power) (s : State)
    (straps : ∀ p, (f p).straps = p.straps) : FansHeld False s (changePower new c f s) := by
  have scanned : ∀ x, FansHeld False x (scanModeDecision x) := fun x =>
    FansHeld.of_th ((within_scanModeDecision x).th (by simp)) (low_scanModeDecision x).straps
  have told : ∀ x, FansHeld False x (offer (.power new c) x) := fun x =>
    FansHeld.of_th ((within_offer _ x).th (by simp)) (low_offer _ x).straps
  have withdrawn : ∀ x, FansHeld False x (if s.overrideValid && leaves s new then withdrawOverrides x else x) := fun x => by
    split
    · exact held_withdrawOverrides x
    · exact FansHeld.refl _ x
  have left : ∀ x, FansHeld False x (if leaves s new then endBoost (scanModeDecision x) else scanModeDecision x) := fun x => by
    split
    · exact (scanned x).trans (held_endBoost _)
    · exact scanned x
  have moved : FansHeld False s (updatingPower (fun x => { x with power := powerAfter new c f x.power }) s) :=
    FansHeld.of_th ((within_powerUpdate (powerAfter new c f) s).th (by simp))
      ((congrArg Power.straps (updatingPower_power _ s)).trans (powerAfter_straps _ _ _ _ straps))
  rw [changePower_eq]
  exact anyOrder_establishes (P := FansHeld False s) (Q := FansHeld False s) (fun x h => h.trans (left x))
    (fun x h => h.trans (withdrawn x)) (fun x h => h.trans (withdrawn x)) (fun x h => h.trans (told x))
    (fun x h => h.trans (told x)) moved

theorem held_enterShutdown (c : Cause) (s : State) : FansHeld False s (enterShutdown c s) := by
  have entered := held_changePower .shuttingDown c (shutdownFields c) s fun _ => rfl
  unfold enterShutdown
  dsimp only
  split
  · split
    · exact entered
    · exact entered.trans (FansHeld.of_th (dropStandby_control _).2 (mid_dropStandby _).straps)
  · exact FansHeld.refl _ s

theorem held_tripChange (before : Bool) (s : State) : FansHeld False s (tripChange before s) := by
  have cause := fun b => FansHeld.of_th (rose := False) ((within_setThermalCause b s).th (by simp)) (low_setThermalCause b s).straps
  have ends := FansHeld.of_th (rose := False) ((within_tripEnds s).th (by simp)) ((mid_wakeAfterTrip _).straps.trans (low_setThermalCause false s).straps)
  unfold tripChange
  split
  · exact FansHeld.refl _ s
  · split
    · exact (cause true).trans (held_enterShutdown .thermal _)
    · exact ends

/-! ### Measurements -/

theorem held_setSlot (n : Nat) (x : Slot) (s : State) : FansHeld False s (setSlot n x s) :=
  ⟨rfl, rfl, fun f => by cases f <;> exact FanHeld.refl _ _⟩

theorem slot_trips {s : State} {n : Nat} (h : (slotOf s n).tripped = true) : s.tripActive = true := by
  unfold slotOf at h
  rw [List.getD_eq_getElem?_getD] at h
  cases own : s.th.slots[n]? with
  | none =>
    rw [own] at h
    exact absurd h (by decide)
  | some x =>
    rw [own] at h
    exact List.any_eq_true.mpr ⟨x, List.mem_of_getElem? own, h⟩

theorem tripActive_setSlot {s : State} {n : Nat} {x : Slot} (begins : (setSlot n x s).tripActive = true) (before : s.tripActive = false) :
    x.tripped = true := by
  obtain ⟨y, own, trips⟩ := List.any_eq_true.mp begins
  rcases List.mem_or_eq_of_mem_set own with old | new
  · exact absurd (List.any_eq_true.mpr ⟨y, old, trips⟩) (by rw [← Bool.not_eq_true] at before; exact before)
  · exact new ▸ trips

/-- R151, R152: the slot stored and the fans raised by a trip that begins. -/
theorem held_stored (n : Nat) (stored : Bool) (x : Slot) (s : State) : FansHeld (x.tripped = true) s
    (updatingFans (fun y => raiseFans s.tripActive
      (if stored then publish (.sensor n) (setSlot n x y) else updating (.sensor n) (setSlot n x) y)) s) := by
  have entry : ∀ y : State, y = (if stored then publish (.sensor n) (setSlot n x s) else updating (.sensor n) (setSlot n x) s) →
      y.th = (setSlot n x s).th ∧ y.power.straps = s.power.straps := fun y eq => by
    subst eq
    split
    · exact ⟨(within_publish _ _).th (by simp), congrArg Power.straps ((within_publish _ _).power (by simp))⟩
    · exact ⟨commit_th _ _ _, congrArg Power.straps (commit_power _ _ _)⟩
  obtain ⟨th, straps⟩ := entry _ rfl
  unfold updatingFans
  refine FansHeld.trans ?_ (FansHeld.of_th ((commit_th _ _ _).trans (commit_th _ _ _))
    (congrArg Power.straps ((commit_power _ _ _).trans (commit_power _ _ _))))
  refine (((held_setSlot n x s).trans (FansHeld.of_th th straps)).mono (False.elim)).trans
    ((held_raiseFans s.tripActive _).mono fun begins => tripActive_setSlot (n := n) ?_ begins.2)
  rw [← begins.1]
  exact (tripActive_of_slots (congrArg Thermal.slots th)).symm

/-- R148, R151, R152: what an event of a slot leaves: the fans rise only where the slot trips. -/
theorem slotChange_outcome (n : Nat) (stored : Bool) (x : Slot) (s : State) : FansHeld (x.tripped = true) s (slotChange n stored x s) ∧
    (slotChange n stored x s).th.slots = s.th.slots.set n x ∧ (slotChange n stored x s).th.table = s.th.table ∧
    (slotChange n stored x s).th.curves = s.th.curves := by
  have events := low_slotEvents n stored x s
  have held := held_stored n stored x s
  unfold slotChange
  dsimp only
  generalize updatingFans (fun y => raiseFans s.tripActive
    (if stored then publish (.sensor n) (setSlot n x y) else updating (.sensor n) (setSlot n x) y)) s = a at events held ⊢
  have notice : ∀ e y, FansHeld False y (thermalNotice n e y) := fun e y =>
    FansHeld.of_th ((within_thermalNotice n e y).th (by simp)) (low_thermalNotice n e y).straps
  have told := (held.trans ((notice (slotEvent (slotOf s n).state x.state) a).mono False.elim)).trans
    ((notice (tripEvent (slotOf s n).tripped x.tripped) _).mono False.elim)
  generalize thermalNotice n (tripEvent (slotOf s n).tripped x.tripped) (thermalNotice n (slotEvent (slotOf s n).state x.state) a) = b
    at events told ⊢
  have trip := mid_tripChange s.tripActive b
  have ended := told.trans ((held_tripChange s.tripActive b).mono False.elim)
  have slots : (tripChange s.tripActive b).th.slots = s.th.slots.set n x := trip.slots.trans events.slots
  have table : (tripChange s.tripActive b).th.table = s.th.table := trip.thermalTable.trans events.thermalTable
  have curves : (tripChange s.tripActive b).th.curves = s.th.curves := trip.curves.trans events.curves
  split
  · have th := (within_redecideDcs (tripChange s.tripActive b)).th (by simp)
    exact ⟨ended.trans (FansHeld.of_th th (low_redecideDcs _).straps), by rw [th, slots], by rw [th, table], by rw [th, curves]⟩
  · exact ⟨ended, slots, table, curves⟩

/-- R148: the slot that a result of its measurement leaves. -/
def measured (critical : Int) (m : Measurement) (x : Slot) : Slot :=
  match m with
  | .temperature t => slotRead critical t x
  | .openElement | .shortElement => slotFailed x

theorem measureLocal_eq (n : Nat) (m : Measurement) (s : State) : ∃ stored, measureLocal n m s =
    if (slotConfig s n).enable = true then slotChange n stored (measured (slotConfig s n).critical m (slotOf s n)) s else s := by
  cases m with
  | temperature t => exact ⟨true, rfl⟩
  | openElement | shortElement => exact ⟨false, rfl⟩

theorem slotOf_set {s t : State} {n m : Nat} {x : Slot} (slots : t.th.slots = s.th.slots.set n x) (small : n < s.th.slots.length) :
    slotOf t m = if m = n then x else slotOf s m := by
  unfold slotOf
  rw [slots, List.getD_eq_getElem?_getD, List.getElem?_set]
  by_cases same : n = m
  · rw [if_pos same, if_pos same.symm, if_pos (same ▸ small)]
    rfl
  · rw [if_neg same, if_neg (fun h => same h.symm), List.getD_eq_getElem?_getD]

/-- R148, R151: one local slot measured. -/
theorem measureLocal_outcome (n : Nat) (m : Measurement) {s : State} (small : n < s.th.slots.length) : let t := measureLocal n m s
    FansHeld ((slotOf t n).tripped = true) s t ∧ t.th.table = s.th.table ∧ t.th.curves = s.th.curves ∧
      t.th.slots.length = s.th.slots.length ∧
      ∀ i, slotOf t i = if i = n ∧ (slotConfig s n).enable = true then measured (slotConfig s n).critical m (slotOf s n) else slotOf s i := by
  obtain ⟨stored, eq⟩ := measureLocal_eq n m s
  dsimp only
  rw [eq]
  split
  · next on =>
    obtain ⟨held, slots, table, curves⟩ := slotChange_outcome n stored (measured (slotConfig s n).critical m (slotOf s n)) s
    refine ⟨?_, table, curves, by rw [slots, List.length_set], fun i => ?_⟩
    · rw [slotOf_set slots small, if_pos rfl]
      exact held
    · rw [slotOf_set slots small]
      simp only [on, and_true]
  · next off => exact ⟨FansHeld.refl _ s, rfl, rfl, rfl, fun i => by simp [off]⟩

end Sys2Proof.Proofs.Measurements
end

section
/-! PROOF. The thermal update (R148, R151, R153 to R161). -/
set_option Elab.async false

namespace Sys2Proof.Proofs.ThermalUpdates

open Sys2Proof Sys2Proof.Machine Sys2Proof.Safety Sys2Proof.Laws Sys2Proof.Proofs.Frames Sys2Proof.Proofs.Updates
  Sys2Proof.Proofs.FanRules Sys2Proof.Proofs.Measurements

/-! ### The windows close -/

theorem otherFan_otherFan (f : FanId) : otherFan (otherFan f) = f := by cases f <;> rfl

theorem otherFan_ne (f : FanId) : otherFan f ≠ f := by cases f <;> simp [otherFan]

theorem setFan_updateMs (f : FanId) (x : Fan) (s : State) : (s.setFan f x).th.updateMs = s.th.updateMs := by cases f <;> rfl

/-- R153, step 2, R161: a fan's window closed, and the other fan raised where this one is found FAULTED. -/
theorem closeFan_outcome (f : FanId) (s : State) : let t := closeFan f s
    t.fan f = (if s.fanPresent f = true then decideFan s.th.table.stallRpm (closeWindow (s.fan f)) else s.fan f) ∧
    FanHeld (s.fanPresent f = true ∧ s.fanPresent (otherFan f) = true ∧ (t.fan f).state = .faulted ∧ (s.fan f).state ≠ .faulted)
      (s.fan (otherFan f)) (t.fan (otherFan f)) ∧ t.th.updateMs = s.th.updateMs := by
  dsimp only
  unfold closeFan
  split
  · next present =>
    dsimp only
    generalize decideFan s.th.table.stallRpm (closeWindow (s.fan f)) = x
    have told := (within_fanNotice f (fanEvent (s.fan f).state x.state) (s.setFan f x)).th (by simp)
    have straps := (low_fanNotice f (fanEvent (s.fan f).state x.state) (s.setFan f x)).straps
    rw [setFan_power] at straps
    generalize fanNotice f (fanEvent (s.fan f).state x.state) (s.setFan f x) = a at told straps
    have own : a.fan f = x := (fan_of_th told f).trans (fan_setFan f x s)
    have other : a.fan (otherFan f) = s.fan (otherFan f) := (fan_of_th told _).trans (fan_setFan_ne (otherFan_ne f) x s)
    have ms : a.th.updateMs = s.th.updateMs := (congrArg Thermal.updateMs told).trans (setFan_updateMs f x s)
    obtain ⟨raised, kept⟩ := raiseToFloor_fan (otherFan f) a
    rw [otherFan_otherFan] at kept
    rw [fan_of_th ((within_redecideDfan _).th (by simp)), fan_of_th ((within_redecideDfan _).th (by simp)),
      (within_redecideDfan _).th (by simp)]
    split
    · next entered =>
      refine ⟨kept.trans own, ?_, (raiseToFloor_updateMs _ a).trans ms⟩
      rw [← other, kept, own]
      exact raised.mono fun here => ⟨present, (fanPresent_of_straps straps _).symm.trans here, entered⟩
    · refine ⟨own, ?_, ms⟩
      rw [other]
      exact FanHeld.refl _ _
  · exact ⟨rfl, FanHeld.refl _ _, rfl⟩

/-- R153, steps 2 and 3. -/
def closed (s : State) : State := adoptCurves (closeFan .fan1 (closeFan .fan0 s))

theorem adoptCurves_th (s : State) : ∃ c, (adoptCurves s).th = { s.th with curves := c } := by
  unfold adoptCurves
  split
  · exact ⟨_, rfl⟩
  · exact ⟨_, (within_completeAny _ _ _ _ _).th (by simp)⟩

theorem FanHeld.state {rose : Prop} {x y : Fan} (held : FanHeld rose x y) : y.state = x.state := by
  rw [held.1]

theorem closed_kept (s : State) : (closed s).th.slots = s.th.slots ∧ (closed s).th.table = s.th.table ∧
    (closed s).th.updateMs = s.th.updateMs ∧ (closed s).power.straps = s.power.straps := by
  obtain ⟨c, th⟩ := adoptCurves_th (closeFan .fan1 (closeFan .fan0 s))
  have first := low_closeFan .fan0 s
  have next := low_closeFan .fan1 (closeFan .fan0 s)
  unfold closed
  rw [th]
  exact ⟨next.slots.trans first.slots, next.thermalTable.trans first.thermalTable,
    (closeFan_outcome .fan1 _).2.2.trans (closeFan_outcome .fan0 s).2.2,
    (keeps_adoptCurves _).straps.trans (next.straps.trans first.straps)⟩

/-- R161: the other fan is found FAULTED by this update. -/
def newlyFaulted (s : State) (f : FanId) : Prop :=
  s.fanPresent (otherFan f) = true ∧ ((closed s).fan (otherFan f)).state = .faulted ∧ (s.fan (otherFan f)).state ≠ .faulted

theorem closed_fan_eq (s : State) : ∀ f, (closed s).fan f = (closeFan .fan1 (closeFan .fan0 s)).fan f := by
  obtain ⟨c, th⟩ := adoptCurves_th (closeFan .fan1 (closeFan .fan0 s))
  intro f
  unfold closed
  cases f <;> simp only [State.fan, th]

/-- R153, R160, R161: fan 0 when both windows are closed. -/
theorem closed_fan0 (s : State) : FanHeld (newlyFaulted s .fan0) (decideFan s.th.table.stallRpm (closeWindow (s.fan .fan0)))
    ((closed s).fan .fan0) := by
  obtain ⟨own, before, _⟩ := closeFan_outcome .fan0 s
  obtain ⟨_, raised, _⟩ := closeFan_outcome .fan1 (closeFan .fan0 s)
  have straps := (low_closeFan .fan0 s).straps
  have same : ((closeFan .fan0 s).fan .fan1).state = (s.fan .fan1).state := FanHeld.state before
  generalize closeFan0 : closeFan .fan0 s = a at own before raised straps same
  rw [if_pos (show s.fanPresent .fan0 = true from rfl)] at own
  unfold newlyFaulted
  rw [closed_fan_eq, closed_fan_eq, closeFan0, ← own]
  exact FanHeld.mono raised fun h => ⟨(fanPresent_of_straps straps .fan1).symm.trans h.1, h.2.2.1, fun was => h.2.2.2 (same.trans was)⟩

/-- R153, R160, R161: fan 1 when both windows are closed. -/
theorem closed_fan1 (s : State) : ∃ z, FanHeld (s.fanPresent .fan1 = true ∧ newlyFaulted s .fan1) (s.fan .fan1) z ∧
    (closed s).fan .fan1 = if s.fanPresent .fan1 = true then decideFan s.th.table.stallRpm (closeWindow z) else z := by
  obtain ⟨_, held, _⟩ := closeFan_outcome .fan0 s
  obtain ⟨own, raised, _⟩ := closeFan_outcome .fan1 (closeFan .fan0 s)
  have first := low_closeFan .fan0 s
  have same : ((closeFan .fan1 (closeFan .fan0 s)).fan .fan0).state = ((closeFan .fan0 s).fan .fan0).state := FanHeld.state raised
  rw [fanPresent_of_straps first.straps, first.thermalTable] at own
  refine ⟨(closeFan .fan0 s).fan .fan1, FanHeld.mono held fun h => ?_, (closed_fan_eq s .fan1).trans own⟩
  obtain ⟨here, there, faulted, was⟩ := h
  unfold newlyFaulted
  rw [closed_fan_eq]
  exact ⟨there, here, same.trans faulted, was⟩

/-- R153, R160, R161: a fan when both windows are closed. -/
theorem closed_fan (f : FanId) (s : State) :
    (s.fanPresent f = false → FanHeld False (s.fan f) ((closed s).fan f)) ∧
    (s.fanPresent f = true → ∃ z, FanHeld (newlyFaulted s f) (s.fan f) z ∧
      FanHeld (newlyFaulted s f) (decideFan s.th.table.stallRpm (closeWindow z)) ((closed s).fan f)) := by
  cases f with
  | fan0 => exact ⟨fun absent => (nomatch absent), fun _ => ⟨s.fan .fan0, FanHeld.refl _ _, closed_fan0 s⟩⟩
  | fan1 =>
    obtain ⟨z, held, fan⟩ := closed_fan1 s
    rw [fan]
    refine ⟨fun absent => ?_, fun present => ⟨z, held.mono And.right, ?_⟩⟩
    · rw [if_neg (by rw [absent]; decide)]
      exact held.mono fun h => absurd (absent.symm.trans h.1) (by decide)
    · rw [if_pos present]
      exact FanHeld.refl _ _

/-! ### The fans are driven -/

theorem alignState_eq (x : Fan) : alignState x = { x with
    state := (alignState x).state, low := (alignState x).low, kick := (alignState x).kick } := by
  unfold alignState
  cases x.state <;> dsimp only <;> (repeat' split) <;> rfl

/-- R160: the state in line with the duty. -/
theorem alignState_state (x : Fan) :
    (x.state = .kicking ∨ x.state = .faulted → (alignState x).state = x.state) ∧
    (x.state = .stalled → (alignState x).state = if x.duty = 0 then .off else .stalled) ∧
    (x.state = .off ∨ x.state = .running → (alignState x).state = if x.duty = 0 then .off else .running) ∧
    ((alignState x).state = .faulted ↔ x.state = .faulted) := by
  unfold alignState
  rcases Nat.eq_zero_or_pos x.duty with stands | turns
  · cases own : x.state <;> simp [own, stands]
  · cases own : x.state <;> simp [own, turns, Nat.ne_of_gt turns]

/-- R154 to R158: what the computation of a duty reads. -/
theorem computeFan_congr {s t : State} {f : FanId} (fan : t.fan f = s.fan f) (slots : t.th.slots = s.th.slots)
    (table : t.th.table = s.th.table) (curves : t.th.curves = s.th.curves) (boost : t.th.boostMs = s.th.boostMs)
    (power : t.power = s.power) (fresh other : Bool) : computeFan fresh t f other = computeFan fresh s f other := by
  have curve : curveOf t f = curveOf s f := by unfold curveOf; rw [curves]
  have config : slotConfig t = slotConfig s := by unfold slotConfig; rw [table]
  have slot : slotOf t = slotOf s := by unfold slotOf; rw [slots]
  have temperature : controlTemperature t f = controlTemperature s f := by
    unfold controlTemperature effective
    rw [curve, config, slot]
  have use : curveInUse t f = curveInUse s f := by unfold curveInUse State.lidOpen; rw [curve, power]
  have trip := tripActive_of_slots slots
  unfold computeFan floorDuty State.lidOpen
  rw [fan, temperature, use, table, boost, power, trip]

/-- A fan as this update drives it. -/
def driven (before : State) (f : FanId) (s : State) : Fan :=
  if s.fanPresent f = true then alignState (computeFan false s f (otherFaulted before f || otherFaulted s f)) else s.fan f

theorem driveFan_fan (before : State) (f : FanId) (s : State) : (driveFan before f s).fan f = driven before f s ∧
    (driveFan before f s).fan (otherFan f) = s.fan (otherFan f) := by
  unfold driveFan driven
  split
  · exact ⟨fan_setFan _ _ _, fan_setFan_ne (otherFan_ne f) _ _⟩
  · exact ⟨rfl, rfl⟩

theorem driven_faulted (before : State) (f : FanId) (s : State) : (driven before f s).state = .faulted ↔ (s.fan f).state = .faulted := by
  unfold driven
  split
  · exact (alignState_state _).2.2.2
  · exact Iff.rfl

/-- A fan as the next window opens. -/
def opened (s : State) (f : FanId) (x : Fan) : Fan :=
  if s.fanPresent f = true then { x with count := 0, openDuty := x.duty, ppr := (tachOf s f).ppr, wide := (tachOf s f).wide } else x

theorem openWindow_fan (f : FanId) (s : State) : (openWindow f s).fan f = opened s f (s.fan f) ∧
    (openWindow f s).fan (otherFan f) = s.fan (otherFan f) := by
  unfold openWindow opened
  split
  · exact ⟨fan_setFan _ _ _, fan_setFan_ne (otherFan_ne f) _ _⟩
  · exact ⟨rfl, rfl⟩

/-- What the steps from the first duty on leave of the rest of the unit. -/
def RestStands (s t : State) : Prop :=
  t.th.slots = s.th.slots ∧ t.th.table = s.th.table ∧ t.th.curves = s.th.curves ∧ t.th.boostMs = s.th.boostMs ∧
    t.th.updateMs = s.th.updateMs ∧ t.power = s.power

theorem RestStands.trans {s t u : State} (first : RestStands s t) (next : RestStands t u) : RestStands s u := by
  obtain ⟨slots, table, curves, boost, ms, power⟩ := first
  obtain ⟨slots', table', curves', boost', ms', power'⟩ := next
  exact ⟨slots'.trans slots, table'.trans table, curves'.trans curves, boost'.trans boost, ms'.trans ms, power'.trans power⟩

theorem RestStands.refl (s : State) : RestStands s s := ⟨rfl, rfl, rfl, rfl, rfl, rfl⟩

theorem rest_setFan (f : FanId) (x : Fan) (s : State) : RestStands s (s.setFan f x) := by
  cases f <;> exact ⟨rfl, rfl, rfl, rfl, rfl, rfl⟩

theorem rest_driveFan (before : State) (f : FanId) (s : State) : RestStands s (driveFan before f s) := by
  unfold driveFan
  split
  · exact rest_setFan _ _ s
  · exact RestStands.refl s

theorem rest_openWindow (f : FanId) (s : State) : RestStands s (openWindow f s) := by
  unfold openWindow
  split
  · exact rest_setFan _ _ s
  · exact RestStands.refl s

/-- The state in which the duty of a fan is computed. -/
def driving (s : State) : FanId → State
  | .fan0 => closed s
  | .fan1 => driveFan s .fan0 (closed s)

theorem rest_driving (s : State) (f : FanId) : RestStands (closed s) (driving s f) := by
  cases f with
  | fan0 => exact RestStands.refl _
  | fan1 => exact rest_driveFan _ _ _

theorem rest_refreshBoost (s : State) : RestStands s (refreshBoost s) := ⟨rfl, rfl, rfl, rfl, rfl, rfl⟩

theorem fanUpdate_eq (s : State) : fanUpdate s = openWindow .fan1 (openWindow .fan0 (refreshBoost (driveFan s .fan1
    (driveFan s .fan0 (closed s))))) := rfl

theorem rest_fanUpdate (s : State) : RestStands (closed s) (fanUpdate s) := by
  rw [fanUpdate_eq]
  generalize closed s = c
  exact (((rest_driveFan s .fan0 c).trans (rest_driveFan s .fan1 _)).trans (rest_refreshBoost _)).trans
    ((rest_openWindow .fan0 _).trans (rest_openWindow .fan1 _))

theorem driving_fan (s : State) (f : FanId) : (driving s f).fan f = (closed s).fan f := by
  cases f with
  | fan0 => rfl
  | fan1 => exact (driveFan_fan s .fan0 (closed s)).2

theorem refreshBoost_fan (s : State) (f : FanId) : (refreshBoost s).fan f = s.fan f := by cases f <;> rfl

theorem fanUpdate_fan (s : State) (f : FanId) :
    ∃ t, RestStands (closed s) t ∧ (fanUpdate s).fan f = opened t f (driven s f (driving s f)) := by
  have start : driving s .fan0 = closed s := rfl
  have next : driving s .fan1 = driveFan s .fan0 (closed s) := rfl
  rw [fanUpdate_eq]
  generalize closed s = c at start next ⊢
  obtain ⟨first, _⟩ := driveFan_fan s .fan0 c
  have rest := rest_driveFan s .fan0 c
  generalize driveFan s .fan0 c = a at first next rest ⊢
  obtain ⟨own, other⟩ := driveFan_fan s .fan1 a
  have rest' := rest.trans (rest_driveFan s .fan1 a)
  generalize driveFan s .fan1 a = d at own other rest' ⊢
  have fan := refreshBoost_fan d
  have rest'' := rest'.trans (rest_refreshBoost d)
  generalize refreshBoost d = b at fan rest'' ⊢
  obtain ⟨open0, open0'⟩ := openWindow_fan .fan0 b
  obtain ⟨open1, open1'⟩ := openWindow_fan .fan1 (openWindow .fan0 b)
  cases f with
  | fan0 =>
    refine ⟨b, rest'', open1'.trans (open0.trans ?_)⟩
    rw [fan, start, ← first]
    exact congrArg (opened b .fan0) other
  | fan1 =>
    refine ⟨openWindow .fan0 b, rest''.trans (rest_openWindow .fan0 b), open1.trans ?_⟩
    rw [next, ← own]
    exact congrArg (opened (openWindow .fan0 b) .fan1) (open0'.trans (fan .fan1))

/-! ### A fan after an update -/

theorem opened_state (s : State) (f : FanId) (x : Fan) : (opened s f x).state = x.state := by
  unfold opened
  split <;> rfl

theorem fanUpdate_faulted (s : State) (f : FanId) :
    ((fanUpdate s).fan f).state = .faulted ↔ ((closed s).fan f).state = .faulted := by
  obtain ⟨t, _, fan⟩ := fanUpdate_fan s f
  rw [fan, opened_state, driven_faulted, driving_fan]

theorem otherFaulted_iff (s : State) (f : FanId) :
    otherFaulted s f = true ↔ s.fanPresent (otherFan f) = true ∧ (s.fan (otherFan f)).state = .faulted := by
  simp [otherFaulted]

theorem otherFaulted_driving (s : State) (f : FanId) : otherFaulted (driving s f) f = otherFaulted (fanUpdate s) f := by
  have before := fanPresent_of_straps (congrArg Power.straps (rest_driving s f).2.2.2.2.2) (otherFan f)
  have after := fanPresent_of_straps (congrArg Power.straps (rest_fanUpdate s).2.2.2.2.2) (otherFan f)
  have same : ((driving s f).fan (otherFan f)).state = .faulted ↔ ((closed s).fan (otherFan f)).state = .faulted := by
    cases f with
    | fan0 => exact Iff.rfl
    | fan1 =>
      show ((driveFan s .fan0 (closed s)).fan .fan0).state = .faulted ↔ ((closed s).fan .fan0).state = .faulted
      rw [(driveFan_fan s .fan0 (closed s)).1]
      exact driven_faulted _ _ _
  rw [Bool.eq_iff_iff, otherFaulted_iff, otherFaulted_iff, before, after, same, fanUpdate_faulted]

/-- R153 to R161: a present fan after an update, by the computation of its duty. -/
theorem fanUpdate_present {s u : State} {f : FanId} (present : s.fanPresent f = true) (th : u.th = (fanUpdate s).th)
    (power : u.power = (fanUpdate s).power) : ∃ ppr wide,
    let y := alignState (computeFan false (u.setFan f ((closed s).fan f)) f (otherFaulted s f || otherFaulted u f))
    u.fan f = { y with count := 0, openDuty := y.duty, ppr := ppr, wide := wide } := by
  obtain ⟨t, rest, fan⟩ := fanUpdate_fan s f
  have straps := (closed_kept s).2.2.2
  have there := (fanPresent_of_straps ((congrArg Power.straps rest.2.2.2.2.2).trans straps) f).trans present
  have driving' := (fanPresent_of_straps ((congrArg Power.straps (rest_driving s f).2.2.2.2.2).trans straps) f).trans present
  obtain ⟨slots, table, curves, boost, _, same⟩ := rest_fanUpdate s
  obtain ⟨slots', table', curves', boost', _, same'⟩ := rest_driving s f
  obtain ⟨set, set', set'', set3, _, set4⟩ := rest_setFan f ((closed s).fan f) u
  have faulted : otherFaulted u f = otherFaulted (fanUpdate s) f := by
    unfold otherFaulted
    rw [fan_of_th th, fanPresent_of_straps (congrArg Power.straps power)]
  have computed : computeFan false (u.setFan f ((closed s).fan f)) f (otherFaulted s f || otherFaulted u f) =
      computeFan false (driving s f) f (otherFaulted s f || otherFaulted (driving s f) f) := by
    rw [faulted, otherFaulted_driving]
    refine computeFan_congr ((fan_setFan _ _ _).trans (driving_fan s f).symm) ?_ ?_ ?_ ?_ ?_ _ _
    · rw [set, th, slots, slots']
    · rw [set', th, table, table']
    · rw [set'', th, curves, curves']
    · rw [set3, th, boost, boost']
    · rw [set4, power, same, same']
  refine ⟨(tachOf t f).ppr, (tachOf t f).wide, (fan_of_th th f).trans (fan.trans ?_)⟩
  unfold opened driven
  rw [if_pos there, if_pos driving', computed]

/-- R153: an absent fan after an update. -/
theorem fanUpdate_absent {s : State} {f : FanId} (absent : s.fanPresent f = false) : FanHeld False (s.fan f) ((fanUpdate s).fan f) := by
  obtain ⟨t, rest, fan⟩ := fanUpdate_fan s f
  have straps := (closed_kept s).2.2.2
  have there := (fanPresent_of_straps ((congrArg Power.straps rest.2.2.2.2.2).trans straps) f).trans absent
  have driving' := (fanPresent_of_straps ((congrArg Power.straps (rest_driving s f).2.2.2.2.2).trans straps) f).trans absent
  rw [fan]
  unfold opened driven
  rw [if_neg (by rw [there]; decide), if_neg (by rw [driving']; decide), driving_fan]
  exact (closed_fan f s).1 absent

/-- R159 to R161: a fan held up to the closing of its window, and after it. -/
theorem decided_held {rose : Prop} {stall : Nat} {y z x : Fan} (before : FanHeld rose y z)
    (after : FanHeld rose (decideFan stall (closeWindow z)) x) : let w := decideFan stall (closeWindow y)
    x.tachCount = min y.count 1023 ∧ x.rpm = min y.count 1023 * 60 / y.ppr ∧ x.windowDuty = y.openDuty ∧
      x.curveDuty = y.curveDuty ∧ x.offRun = y.offRun ∧ (w.state ≠ .off → x.state = w.state) ∧
      (w.state = .off → x.state = .off ∨ x.state = .running) ∧ (¬ rose → x.duty = y.duty) := by
  obtain ⟨same, least, still⟩ := before
  obtain ⟨same', _, still'⟩ := after
  have rest := decideFan_rest stall (closeWindow z)
  have state := decideFan_duty (stall := stall) (x := closeWindow y) (y := closeWindow z) (d := z.duty) (o := z.override)
    (by rw [same]; rfl) least
  generalize decideFan stall (closeWindow z) = v at same' still' rest state
  dsimp only
  have held : x.state = v.state ∧ x.tachCount = v.tachCount ∧ x.rpm = v.rpm ∧ x.windowDuty = v.windowDuty ∧
      x.curveDuty = v.curveDuty ∧ x.offRun = v.offRun := by
    rw [same']
    exact ⟨rfl, rfl, rfl, rfl, rfl, rfl⟩
  obtain ⟨own, count, rpm, duty, curve, run⟩ := held
  rw [own, count, rpm, duty, curve, run]
  have kept : v.tachCount = min y.count 1023 ∧ v.rpm = min y.count 1023 * 60 / y.ppr ∧ v.windowDuty = y.openDuty ∧
      v.curveDuty = y.curveDuty ∧ v.offRun = y.offRun ∧ v.duty = z.duty := by
    rw [rest]
    refine ⟨?_, ?_, ?_, ?_, ?_, rfl⟩ <;> rw [same] <;> rfl
  obtain ⟨count', rpm', duty', curve', run', at'⟩ := kept
  exact ⟨count', rpm', duty', curve', run', state.1, state.2, fun h => (still' h).trans (at'.trans (still h))⟩

/-- R158: a trip's floor of 100%. -/
theorem hundred_le_computeFan {s : State} (f : FanId) (trip : s.tripActive = true) (least : s.th.table.startMin ≤ 100) (fresh other : Bool) :
    100 ≤ (computeFan fresh s f other).duty := by
  have floor : 100 ≤ floorDuty s f (s.fan f).state other := by
    rw [floorDuty_eq, if_pos (Or.inr trip)]
    exact Nat.le_max_right _ _
  exact Nat.le_trans floor (floor_le_commandedDuty (Nat.le_trans least floor))

/-- What an update leaves of a present fan that was `x` at its start, `y` at its end and `z` before its duty was computed. -/
def FanUpdated (stall : Nat) (rose : Prop) (x z y c : Fan) : Prop :=
  let w := decideFan stall (closeWindow x)
  (y.tachCount = min x.count 1023 ∧ y.rpm = min x.count 1023 * 60 / x.ppr ∧ y.windowDuty = x.openDuty ∧ y.count = 0 ∧
    y.openDuty = y.duty) ∧
  ((w.state = .kicking ∨ w.state = .faulted → y.state = w.state) ∧
    (w.state = .stalled → y.state = if y.duty = 0 then .off else .stalled) ∧
    (w.state = .off ∨ w.state = .running → y.state = if y.duty = 0 then .off else .running)) ∧
  (z.curveDuty = x.curveDuty ∧ z.offRun = x.offRun ∧ z.override = y.override ∧ (w.state ≠ .off → z.state = w.state) ∧
    (w.state = .off → z.state = .off ∨ z.state = .running) ∧ (¬ rose → z.duty = x.duty)) ∧
  y.duty = c.duty ∧ y.curveDuty = c.curveDuty ∧ y.target = c.target ∧ y.offRun = c.offRun ∧
    y.controlTemp = c.controlTemp ∧ y.curveClosed = c.curveClosed

/-- R153, R159 to R161: the steps of an update in one fan. -/
theorem fanUpdated_of {stall : Nat} {rose : Prop} {x v z : Fan} (before : FanHeld rose x v)
    (after : FanHeld rose (decideFan stall (closeWindow v)) z) {s : State} {f : FanId} (own : s.fan f = z) (other : Bool)
    {y : Fan} {ppr : Nat} {wide : Bool} (drives : y = { alignState (computeFan false s f other) with
      count := 0, openDuty := (alignState (computeFan false s f other)).duty, ppr := ppr, wide := wide }) :
    FanUpdated stall rose x z y (computeFan false s f other) := by
  obtain ⟨count, rpm, duty, curve, run, state, off, still⟩ := decided_held before after
  have kept : (computeFan false s f other).state = z.state ∧ (computeFan false s f other).tachCount = z.tachCount ∧
      (computeFan false s f other).rpm = z.rpm ∧ (computeFan false s f other).windowDuty = z.windowDuty ∧
      (computeFan false s f other).override = z.override := by
    subst own
    exact ⟨rfl, rfl, rfl, rfl, rfl⟩
  generalize computeFan false s f other = c at kept drives ⊢
  obtain ⟨own', count', rpm', duty', override⟩ := kept
  have align := alignState_state c
  have same := alignState_eq c
  generalize alignState c = a at drives align same
  have fields : y.state = a.state ∧ y.tachCount = c.tachCount ∧ y.rpm = c.rpm ∧ y.windowDuty = c.windowDuty ∧
      y.count = 0 ∧ y.openDuty = y.duty ∧ y.override = c.override ∧ y.duty = c.duty ∧ y.curveDuty = c.curveDuty ∧
      y.target = c.target ∧ y.offRun = c.offRun ∧ y.controlTemp = c.controlTemp ∧ y.curveClosed = c.curveClosed := by
    rw [drives, same]
    exact ⟨rfl, rfl, rfl, rfl, rfl, rfl, rfl, rfl, rfl, rfl, rfl, rfl, rfl⟩
  obtain ⟨yState, yCount, yRpm, yDuty, none, opens, yOverride, commanded⟩ := fields
  obtain ⟨kicks, stalls, turns, _⟩ := align
  have at_ := commanded.1
  rw [own'] at kicks stalls turns
  unfold FanUpdated
  refine ⟨⟨yCount.trans (count'.trans count), yRpm.trans (rpm'.trans rpm), yDuty.trans (duty'.trans duty), none, opens⟩,
    ⟨fun w => ?_, fun w => ?_, fun w => ?_⟩, ⟨curve, run, (yOverride.trans override).symm, state, off, still⟩, commanded⟩
  · have same : z.state = (decideFan stall (closeWindow x)).state := state (by rcases w with w | w <;> simp [w])
    exact yState.trans ((kicks (same ▸ w)).trans same)
  · have same : z.state = (decideFan stall (closeWindow x)).state := state (by simp [w])
    rw [yState, at_]
    exact stalls (same.trans w)
  · rw [yState, at_]
    refine turns ?_
    rcases w with w | w
    · exact off w
    · exact .inr ((state (by simp [w])).trans w)

/-! ### The obligation -/

/-- R148, R151: both local slots measured. -/
theorem measured_both (m0 m1 : Measurement) {s : State} (whole : slotsWhole s) :
    let t := measureLocal 1 m1 (measureLocal 0 m0 s)
    FansHeld (t.tripActive = true) s t ∧ t.th.table = s.th.table ∧
      slotOf t 0 = (if (slotConfig s 0).enable = true then measured (slotConfig s 0).critical m0 (slotOf s 0) else slotOf s 0) ∧
      slotOf t 1 = (if (slotConfig s 1).enable = true then measured (slotConfig s 1).critical m1 (slotOf s 1) else slotOf s 1) := by
  unfold slotsWhole at whole
  obtain ⟨held, table, _, length, slots⟩ := measureLocal_outcome 0 m0 (s := s) (by omega)
  obtain ⟨held', table', _, _, slots'⟩ := measureLocal_outcome 1 m1 (s := measureLocal 0 m0 s) (by omega)
  have config : slotConfig (measureLocal 0 m0 s) = slotConfig s := by
    unfold slotConfig
    rw [table]
  have zero : slotOf (measureLocal 1 m1 (measureLocal 0 m0 s)) 0 = slotOf (measureLocal 0 m0 s) 0 := by
    rw [slots']
    exact if_neg (by simp)
  refine ⟨(held.mono fun h => slot_trips (zero ▸ h)).trans (held'.mono slot_trips), table'.trans table, ?_, ?_⟩
  · rw [zero, slots]
    simp
  · rw [slots', config, slots]
    simp

/-- The state when an update's measurements are stored. -/
def stored (m0 m1 : Measurement) (s : State) : State :=
  measureLocal 1 m1 (measureLocal 0 m0 { s with th := { s.th with updateMs := 0 } })

theorem thermalUpdate_eq (m0 m1 : Measurement) (s : State) : thermalUpdate m0 m1 s = updatingFans fanUpdate (stored m0 m1 s) := rfl

theorem thermalUpdate_same (m0 m1 : Measurement) (s : State) : (thermalUpdate m0 m1 s).th = (fanUpdate (stored m0 m1 s)).th ∧
    (thermalUpdate m0 m1 s).power = (fanUpdate (stored m0 m1 s)).power := by
  rw [thermalUpdate_eq]
  exact ⟨(commit_th _ _ _).trans (commit_th _ _ _), (commit_power _ _ _).trans (commit_power _ _ _)⟩

theorem stored_outcome (m0 m1 : Measurement) {s : State} (whole : slotsWhole s) : let t := stored m0 m1 s
    (t.th.updateMs = 0 ∧ t.th.table = s.th.table ∧ (∀ f, t.fanPresent f = s.fanPresent f) ∧
      ∀ f, FanHeld (t.tripActive = true ∧ s.fanPresent f = true) (s.fan f) (t.fan f)) ∧
    ∀ n m, n = 0 ∧ m = m0 ∨ n = 1 ∧ m = m1 →
      slotOf t n = (if (slotConfig s n).enable = true then measured (slotConfig s n).critical m (slotOf s n) else slotOf s n) := by
  obtain ⟨⟨ms, straps, fans⟩, table, zero, one⟩ := measured_both m0 m1 (s := { s with th := { s.th with updateMs := 0 } }) whole
  refine ⟨⟨ms, table, fanPresent_of_straps straps, fun f => ?_⟩, fun n m which => ?_⟩
  · cases f
    · exact fans .fan0
    · exact fans .fan1
  · rcases which with ⟨rfl, rfl⟩ | ⟨rfl, rfl⟩
    · exact zero
    · exact one

/-- R161: where an update finds the other fan FAULTED, that changes whether it is. -/
theorem otherFaulted_of_newly {s u : State} {f : FanId} (th : u.th = (fanUpdate s).th) (power : u.power = (fanUpdate s).power)
    (newly : newlyFaulted s f) : otherFaulted s f = false ∧ otherFaulted u f = true := by
  obtain ⟨present, faulted, was⟩ := newly
  refine ⟨Bool.eq_false_iff.mpr fun h => was ((otherFaulted_iff s f).mp h).2, (otherFaulted_iff u f).mpr ⟨?_, ?_⟩⟩
  · rw [fanPresent_of_straps (congrArg Power.straps (power.trans (rest_fanUpdate s).2.2.2.2.2)),
      fanPresent_of_straps (closed_kept s).2.2.2]
    exact present
  · rw [fan_of_th th]
    exact (fanUpdate_faulted s _).mpr faulted

/-- Settles O36: the measurements, then each fan through the steps of the update; the rules of a reading and of a fan. -/
theorem localSensorsMeasured : Obligations.LocalSensorsMeasured := by
  refine ⟨fun m0 m1 s here whole => ?_, slotRead_spec, computeFan_spec, controlTemperature_spec,
    fun l t rising => curveValue_spec l t rising, decideFan_spec⟩
  obtain ⟨⟨ms, table, present, fans⟩, slots⟩ := stored_outcome m0 m1 whole
  obtain ⟨th, power⟩ := thermalUpdate_same m0 m1 s
  refine ⟨thermalUpdate m0 m1 s, event_next _ s here, ?_⟩
  generalize thermalUpdate m0 m1 s = u at th power ⊢
  generalize stored m0 m1 s = t at ms table present fans slots th power
  obtain ⟨rest, restTable, _, _, restMs, _⟩ := rest_fanUpdate t
  obtain ⟨keptSlots, keptTable, keptMs, _⟩ := closed_kept t
  have slotsSame : u.th.slots = t.th.slots := by rw [th, rest, keptSlots]
  have slot : slotOf u = slotOf t := by
    unfold slotOf
    rw [slotsSame]
  have trip := tripActive_of_slots slotsSame
  have tableSame : u.th.table = s.th.table := by rw [th, restTable, keptTable, table]
  refine ⟨fun n m which => ?_, by rw [th, restMs, keptMs, ms], tableSame, fun f => ⟨fun absent => ?_, fun here => ?_⟩⟩
  · rw [slot, slots n m which]
    refine ⟨fun off => ?_, fun on x eq => ?_, fun on bad => ?_⟩
    · rw [if_neg (by rw [off]; decide)]
    · rw [if_pos on, eq]
      rfl
    · rw [if_pos on]
      rcases bad with rfl | rfl <;> exact slotFailed_spec _
  · have held := (fans f).mono (also := False) fun h => absurd (absent.symm.trans h.2) (by decide)
    obtain ⟨same, _, still⟩ := held.trans (fanUpdate_absent ((present f).trans absent))
    rw [fan_of_th th, same]
    exact ⟨still id, rfl⟩
  · obtain ⟨z, before, after⟩ := (closed_fan f t).2 ((present f).trans here)
    rw [table] at after
    obtain ⟨ppr, wide, drives⟩ := fanUpdate_present ((present f).trans here) th power
    have updated := fanUpdated_of (rose := u.tripActive = true ∨ newlyFaulted t f)
      (((fans f).mono fun h => .inl (trip.trans h.1)).trans (before.mono .inr)) (after.mono .inr) (fan_setFan f _ u) _ drives
    have faulted : otherFaulted t f = otherFaulted s f := by
      unfold otherFaulted
      rw [present, FanHeld.state (fans (otherFan f))]
    rw [faulted] at updated
    obtain ⟨setSlots, setTable, _⟩ := rest_setFan f ((closed t).fan f) u
    have setTrip := tripActive_of_slots setSlots
    have warm := fun active least => hundred_le_computeFan (s := u.setFan f ((closed t).fan f)) f (setTrip.trans active)
      (by rw [setTable, tableSame]; exact least) false (otherFaulted s f || otherFaulted u f)
    obtain ⟨⟨count, rpm, duty, none, opens⟩, ⟨kicks, stalls, turns⟩, ⟨curve, run, override, state, off, still⟩, computed⟩ := updated
    refine ⟨count, rpm, duty, none, opens, kicks, stalls, turns, fun active least => ?_, (closed t).fan f, curve, run, override, state,
      off, fun cool same => still fun rose => ?_, computed⟩
    · rw [computed.1]
      exact warm active least
    · rcases rose with active | newly
      · exact absurd (cool.symm.trans active) (by decide)
      · obtain ⟨was, is⟩ := otherFaulted_of_newly th power newly
        rw [faulted] at was
        exact absurd (was.symm.trans (same.trans is)) (by decide)

end Sys2Proof.Proofs.ThermalUpdates
end

section
/-! PROOF. A LOAD_TABLE request up to its owner (R192, R193): the answers at once, the keymap and the copies that wait. -/
set_option Elab.async false

namespace Sys2Proof.Proofs.TableLoads

open Sys2Proof Sys2Proof.Machine Sys2Proof.Safety Sys2Proof.Laws Sys2Proof.Proofs.Frames Sys2Proof.Proofs.Updates
  Sys2Proof.Proofs.ScanModes Sys2Proof.Proofs.Completion Sys2Proof.Proofs.PortRequests Sys2Proof.Proofs.TransactionEnds

/-! ### The slots that hold a staging area -/

theorem loadSlot_eq_none {s : State} {t : TableId} : loadSlot s t = none ↔ ∀ h ∈ s.posted, h.work ≠ .load t := by
  simp [loadSlot]

theorem completeSlot_posted (n : Nat) (r : Result) (d : Nat) (reply : List ReplyBytes) (s : State) :
    (completeSlot n r d reply s).posted = s.posted.filter fun h => h.slot != n := by
  obtain ⟨b, eq⟩ := completeSlot_eq n r d reply s
  have posted : (storeReply n reply s).posted = s.posted := (low_storeReply n reply s).posted
  rw [eq]
  show (storeReply n reply s).posted.filter _ = _
  rw [posted]

/-- R187: a completed slot holds no staging area. -/
theorem loadSlot_completed {n : Nat} {t : TableId} {s : State} (free : loadSlot s t = none) (w : HeldWork) (r : Result) (d : Nat)
    (reply : List ReplyBytes) {x : State} (posted : x.posted = s.posted ++ [⟨n, w⟩]) :
    loadSlot (completeSlot n r d reply x) t = none := by
  rw [loadSlot_eq_none] at free ⊢
  intro h own
  rw [completeSlot_posted, posted, List.mem_filter, List.mem_append] at own
  obtain ⟨old | new, other⟩ := own
  · exact free h old
  · rw [List.mem_singleton.mp new] at other
    simp at other

theorem loadSlot_holding {n : Nat} {t : TableId} {s : State} (free : loadSlot s t = none) :
    loadSlot (holding n (.load t) s) t = some n := by
  rw [loadSlot_eq_none] at free
  have none : s.posted.find? (fun h => h.work == .load t) = none := by simpa using free
  show ((s.posted ++ [(⟨n, .load t⟩ : Held)]).find? fun h => h.work == .load t).map (·.slot) = some n
  rw [List.find?_append, none]
  simp

/-! ### The request by its staging area -/

theorem loadTable_cases (n : Nat) (s : State) :
    (tableOf (slotParam s n 0) = none → loadTable n s = completeSlot n .badParam 1 [(1, [0#8])] s) ∧
    ∀ t, tableOf (slotParam s n 0) = some t →
      (∀ e, loadSlot s t = some e → loadTable n s = completeSlot n .busy e [(1, [0#8])] s) ∧
      (loadSlot s t = none →
        (∀ r d, validate t (holdSlot n (.load t) s) = some (r, d) →
          loadTable n s = completeSlot n .tableInvalid d [(1, [BitVec.ofNat 8 r.code])] (holdSlot n (.load t) s)) ∧
        (validate t (holdSlot n (.load t) s) = none → loadTable n s = ownerTakes t n (holdSlot n (.load t) s))) := by
  unfold loadTable validateAndTake
  refine ⟨fun none => by rw [none], fun t named => ⟨fun e held => ?_, fun free => ⟨fun r d bad => ?_, fun good => ?_⟩⟩⟩
  · rw [named]
    dsimp only
    rw [held]
  · rw [named]
    dsimp only
    rw [free]
    dsimp only
    rw [bad]
  · rw [named]
    dsimp only
    rw [free]
    dsimp only
    rw [good]

theorem fitsByte (b : Byte) : FitsSlot [(1, [b])] := fitsSlot_byte 1 b (by decide)

theorem reasonCode_lt (r : Reason) : r.code < 256 := by cases r <;> decide

/-- R192: the reason of a rejected copy, in byte 1 of the reply. -/
theorem slotParam_reply (n : Nat) (r : Result) (d v : Nat) (small : v < 256) {s : State} (wf : memoryCanonical s) :
    slotParam (completeSlot n r d [(1, [BitVec.ofNat 8 v])] s) n 1 = v := by
  have stored := readList_stored wf (slotBase n + 16 + 1) [BitVec.ofNat 8 v]
  unfold slotParam
  rw [read_completeSlot n r d [(1, [BitVec.ofNat 8 v])] s (by omega)]
  have byte : Memory.read (storeReply n [(1, [BitVec.ofNat 8 v])] s).mem (slotBase n + 16 + 1) = BitVec.ofNat 8 v := by
    show Memory.read (Memory.writeList s.mem (slotBase n + 16 + 1) [BitVec.ofNat 8 v]) (slotBase n + 16 + 1) = BitVec.ofNat 8 v
    simpa [Memory.readList] using stored
  rw [byte, BitVec.toNat_ofNat]
  omega

/-- R192, step 4: a copy that its owner rejects. -/
theorem tableInvalid_answered {n d : Nat} {t : TableId} {s : State} (wf : memoryCanonical s) (free : loadSlot s t = none)
    (r : Reason) (small : d < 65536) :
    let u := completeSlot n .tableInvalid d [(1, [BitVec.ofNat 8 r.code])] (holding n (.load t) s)
    doneWith u n .tableInvalid d ∧ slotParam u n 1 = r.code ∧ onlyCompletes n s u ∧ loadSlot u t = none := by
  obtain ⟨done, only⟩ := answeredHeld (n := n) wf (.load t) .tableInvalid small (fitsByte (BitVec.ofNat 8 r.code))
  exact ⟨done, slotParam_reply n _ _ _ (reasonCode_lt r) (canonical_taken wf n), only, loadSlot_completed free _ _ _ _ rfl⟩

/-! ### The keymap (R54) -/

theorem adoptKeymap_kbd (m : Keymap) (s : State) : (adoptKeymap m s).kbd = { s.kbd with keymap := m } := by
  unfold adoptKeymap updating
  rw [commit_kbd]

theorem keymapTaken {n : Nat} {s : State} (wf : memoryCanonical s) :
    let h := holding n (.load .keymap) s
    let u := ownerTakes .keymap n h
    doneWith u n .ok 0 ∧ u.kbd.keymap = readKeymap h.mem ∧ u.kbd = { s.kbd with keymap := u.kbd.keymap } ∧
      sameButSlot n s u ∧ sameBus s u ∧ samePacks s u ∧ sameControl s u ∧ u.power = s.power ∧ u.queue = s.queue := by
  have adopted := within_adoptKeymap (readKeymap (holding n (.load .keymap) s).mem) (holding n (.load .keymap) s)
  have canonical : memoryCanonical (adoptKeymap (readKeymap (holding n (.load .keymap) s).mem) (holding n (.load .keymap) s)) := by
    unfold memoryCanonical
    rw [adopted.mem (by simp)]
    exact canonical_taken wf n
  have w := ((within_holding n (.load .keymap) s).then adopted).then (within_completeSlot n .ok 0 [(1, [0#8])] _ (fitsByte 0#8))
  have kbd : (ownerTakes .keymap n (holding n (.load .keymap) s)).kbd =
      { s.kbd with keymap := readKeymap (holding n (.load .keymap) s).mem } :=
    ((within_completeSlot n .ok 0 [(1, [0#8])] _ (fitsByte 0#8)).kbd (by simp)).trans (adoptKeymap_kbd _ _)
  dsimp only
  rw [kbd]
  exact ⟨doneWith_completeSlot canonical n _ (by decide) _, rfl, rfl, w.sameButSlot (by simp) (by simp) (by simp) fun m ne => by simp [ne],
    w.sameBus (by simp) (by simp), w.samePacks (by simp) (by simp), w.sameControl (by simp) (by simp), w.power (by simp),
    w.queue (by simp)⟩

/-! ### A copy that waits (R97, R166) -/

theorem ownerTakes_waits {t : TableId} {n : Nat} {s : State}
    (later : t = .fanCurves ∨ t = .pollA ∧ s.engineA.round = .running ∨ t = .pollB ∧ s.engineB.round = .running) :
    ownerTakes t n s = s := by
  rcases later with rfl | ⟨rfl, runs⟩ | ⟨rfl, runs⟩
  · rfl
  · exact if_pos runs
  · exact if_pos runs

end Sys2Proof.Proofs.TableLoads
end

section
/-! PROOF. What the pack monitor's work leaves of a request that has ended (R188) and of the charge controller (R131). -/
set_option Elab.async false

namespace Sys2Proof.Proofs.MonitorWork

open Sys2Proof Sys2Proof.Machine Sys2Proof.Safety Sys2Proof.Laws Sys2Proof.Proofs.Frames Sys2Proof.Proofs.Updates
  Sys2Proof.Proofs.Units Sys2Proof.Proofs.Completion Sys2Proof.Proofs.PortRequests Sys2Proof.Proofs.Probes
  Sys2Proof.Proofs.Presence Sys2Proof.Proofs.ProbeSteps Sys2Proof.Proofs.ChargeComputation Sys2Proof.Proofs.TableLoads

/-! ### Requests only end -/

/-- Requests only end: no post joins the list, and slot `n` stays DONE. -/
def Ends (n : Nat) (s t : State) : Prop :=
  (∀ h ∈ t.posted, h ∈ s.posted) ∧ (memoryCanonical s → memoryCanonical t ∧ (slotState s n = slotDone → slotState t n = slotDone))

theorem Ends.refl (n : Nat) (s : State) : Ends n s s := ⟨fun _ m => m, fun wf => ⟨wf, id⟩⟩

theorem Ends.trans {n : Nat} {s t u : State} (first : Ends n s t) (next : Ends n t u) : Ends n s u := by
  obtain ⟨posts, done⟩ := first
  obtain ⟨posts', done'⟩ := next
  refine ⟨fun h m => posts h (posts' h m), fun wf => ?_⟩
  obtain ⟨wf', stays⟩ := done wf
  obtain ⟨wf'', stays'⟩ := done' wf'
  exact ⟨wf'', stays' ∘ stays⟩

theorem ends_of_within {T : List Part} {n : Nat} {s t : State} (w : Within T s t) (slots : .slots ∉ T) (slot : .slot n ∉ T)
    (posted : .posted ∉ T) (k : Keeps true s t) : Ends n s t := by
  refine ⟨fun h m => ?_, fun wf => ⟨k.memory wf, fun done => (slotState_of_same (w.slot n slots slot)).trans done⟩⟩
  rw [w.posted posted] at m
  exact m

theorem Ends.held {n : Nat} {s t : State} (ends : Ends n s t) (free : isHeld s n = false) : isHeld t n = false := by
  unfold isHeld at free ⊢
  rw [List.any_eq_false] at free ⊢
  exact fun h m => free h (ends.1 h m)

theorem Ends.loads {n : Nat} {s t : State} {table : TableId} (ends : Ends n s t) (free : loadSlot s table = none) :
    loadSlot t table = none := by
  rw [loadSlot_eq_none] at free ⊢
  exact fun h m => free h (ends.1 h m)

theorem slotState_completeSlot {s : State} (wf : memoryCanonical s) (n : Nat) (r : Result) (d : Nat) (reply : List ReplyBytes) :
    slotState (completeSlot n r d reply s) n = slotDone := by
  obtain ⟨b, eq⟩ := completeSlot_eq n r d reply s
  have wf3 := Memory.writeList_wf (Memory.writeList_wf (canonical_storeReply n wf reply) (slotBase n + 6) (bytes16 d ++ [b]))
    (slotBase n + 4) (bytes16 r.code)
  rw [eq]
  exact read16_stored wf3 _ slotDone []

theorem ends_completeSlot (n m : Nat) (r : Result) (d : Nat) {reply : List ReplyBytes} (fits : FitsSlot reply) (s : State) :
    Ends n s (completeSlot m r d reply s) := by
  refine ⟨fun h own => ?_, fun wf => ⟨(keeps_completeSlot m r d reply s).memory wf, fun done => ?_⟩⟩
  · rw [completeSlot_posted] at own
    exact (List.mem_filter.mp own).1
  · by_cases same : n = m
    · rw [same]
      exact slotState_completeSlot wf m r d reply
    · exact (slotState_of_same ((within_completeSlot m r d reply s fits).slot n (by simp) (by simp [same]))).trans done

theorem ends_completeProbeRequest (n : Nat) (k : PackId) (r : Result) (d : Nat) (s : State) :
    Ends n s (completeProbeRequest k r d s) := by
  unfold completeProbeRequest
  split
  · exact Ends.refl n s
  · exact (ends_of_within (within_setPack k _ s) (by simp) (by simp) (by simp) (keeps_setPack k { s.pack k with request := none } s id)).trans
      (ends_completeSlot n _ r d fitsSlot_nil _)

theorem ends_probeFails (n : Nat) (k : PackId) (step : Nat) (o : BusOutcome) (s : State) : Ends n s (probeFails k step o s) := by
  have failed : Ends n s (afterFailure k step o s) := by
    refine ends_of_within (within_failure k step o s) (by simp) (by simp) (by simp) ?_
    exact Keeps.after (Keeps.ite (keeps_setPackState _ _ _ _ _ (fun _ => id)) (Keeps.refl true _)) (keeps_recordFailure k step o s)
  rw [probeFails_eq]
  exact failed.trans (ends_completeProbeRequest n k _ _ _)

theorem ends_probeBegun (n : Nat) (k : PackId) (s : State) : Ends n s (probeBegun k s) :=
  ends_of_within (within_probeBegun k s) (by simp) (by simp) (by simp) (keeps_probeBegun k s)

/-- R68, R69: a port that takes no work is shut. -/
theorem shut_of_not_live {x : PortState} (h : ¬ (x ≠ .halted ∧ x ≠ .disabled)) : x = .halted ∨ x = .disabled := by
  by_cases halted : x = .halted
  · exact .inl halted
  · by_cases disabled : x = .disabled
    · exact .inr disabled
    · exact absurd ⟨halted, disabled⟩ h

/-- R72, R111: a step offered, and handed back by a port that is shut. -/
theorem ends_offerStep (n : Nat) (k : PackId) (run : ProbeRun) (s : State) : Ends n s (offerStep k run s) := by
  by_cases live : s.portA.state ≠ .halted ∧ s.portA.state ≠ .disabled
  · exact ends_of_within (within_offerStep_live k run s live.1 live.2) (by simp) (by simp) (by simp) (keeps_offerStep k run s)
  · have waits : Ends n s (waiting k run s) :=
      ends_of_within (within_waiting k run s) (by simp) (by simp) (by simp) (keeps_updating _ (keeps_setPack k _ s id))
    have port : (waiting k run s).portA = s.portA := (within_waiting k run s).port .a (by simp)
    have shut : (waiting k run s).portA.state = .halted ∨ (waiting k run s).portA.state = .disabled := by
      rw [port]
      exact shut_of_not_live live
    have eq : offerStep k run s = probeFails k run.step .portHalted (probeBegun k (waiting k run s)) := if_pos shut
    rw [eq]
    exact (waits.trans (ends_probeBegun n k _)).trans (ends_probeFails n k _ _ _)

theorem ends_startProbe (n : Nat) (k : PackId) (s : State) : Ends n s (startProbe k s) := by
  obtain ⟨f, eq⟩ := startProbe_eq k s
  rw [eq]
  exact (ends_of_within (within_updatingPack (.probe k) k _ s) (by simp) (by simp) (by simp)
    (keeps_updating _ (keeps_setPack k _ s id))).trans (ends_offerStep n k _ _)

theorem ends_criteriaCheck (n : Nat) (k : PackId) (s : State) : Ends n s (criteriaCheck k s) := by
  unfold criteriaCheck
  split
  · split
    · exact (ends_of_within (within_setPackState k _ _ _ s) (by simp) (by simp) (by simp)
        (keeps_setPackState k _ _ _ s fun _ => id)).trans (ends_startProbe n k _)
    · exact Ends.refl n s
  · exact Ends.refl n s

/-! ### The charge controller meanwhile -/

/-- The controller has only evaluated, and D_pk stays decided: the values of the packs stand. -/
def Evaluated (s t : State) : Prop :=
  Evaluates s.chg t.chg ∧ (∀ k, (t.pack k).values = (s.pack k).values) ∧ (DpkOk s → DpkOk t)

theorem Evaluated.trans {s t u : State} (first : Evaluated s t) (next : Evaluated t u) : Evaluated s u := by
  obtain ⟨chg, values, dpk⟩ := first
  obtain ⟨chg', values', dpk'⟩ := next
  exact ⟨chg.trans chg', fun k => (values' k).trans (values k), dpk' ∘ dpk⟩

theorem decideDpk_congr {s t : State} (bands : t.chg.profile.bands = s.chg.profile.bands)
    (values : ∀ k, (t.pack k).values = (s.pack k).values) (sel : Option PackId) : decideDpk t sel = decideDpk s sel := by
  unfold decideDpk
  split
  · rfl
  · rw [bands, values]

theorem evaluated_of_same {s t : State} (chg : t.chg = s.chg) (values : ∀ k, (t.pack k).values = (s.pack k).values) : Evaluated s t := by
  refine ⟨chg ▸ Evaluates.refl _, values, fun own => ?_⟩
  unfold DpkOk at own ⊢
  rw [decideDpk_congr (s := s) (t := t) (by rw [chg]) values, chg]
  exact own

theorem Evaluated.refl (s : State) : Evaluated s s := evaluated_of_same rfl fun _ => rfl

theorem evaluated_of_within {T : List Part} {s t : State} (w : Within T s t) (chg : .chg ∉ T) (pack : ∀ k, .pack k ∉ T) :
    Evaluated s t := evaluated_of_same (w.chg chg) fun k => congrArg Pack.values (w.pack k (pack k))

theorem evaluated_evaluate (s : State) : Evaluated s (evaluate s) := by
  have w := within_evaluate s
  exact ⟨evaluates_evaluateWith id s, fun k => congrArg Pack.values (w.pack k (by simp)), fun own =>
    dpkOk_evaluateAgain _ _ (dpkOk_evaluateOnce (f := id) own)⟩

theorem evaluated_updatingPack (r : Rec) (k : PackId) (f : State → Pack) (s : State) (values : (f s).values = (s.pack k).values) :
    Evaluated s (updating r (fun x => x.setPack k (f x)) s) := by
  have w := within_updatingPack r k f s
  refine evaluated_of_same (w.chg (by simp)) fun j => ?_
  by_cases same : j = k
  · rw [same, updatingPack_pack]
    exact values
  · rw [w.pack j (by simp [same])]

theorem evaluated_setPackState (k : PackId) (new : PackState) (r : PackReason) (f : Pack → Pack) (s : State)
    (values : ∀ p, (f p).values = p.values) : Evaluated s (setPackState k new r f s) := by
  have stored := evaluated_updatingPack (.pack k) k (fun x => { f (x.pack k) with state := new, reason := r }) s (values _)
  have told : ∀ x, Evaluated x (commit (.probe k) s x) := fun x =>
    evaluated_of_same (commit_chg _ _ _) fun j => congrArg Pack.values (commit_pack _ _ _ j)
  exact (((stored.trans (told _)).trans (evaluated_of_within (within_offer _ _) (by simp) (by simp))).trans
    (evaluated_of_within (within_dischargeDecision _) (by simp) (by simp))).trans (evaluated_evaluate _)

theorem evaluated_probeBegun (k : PackId) (s : State) : Evaluated s (probeBegun k s) := by
  unfold probeBegun
  split
  · exact evaluated_setPackState k _ _ _ s fun _ => rfl
  · exact Evaluated.refl s

theorem evaluated_completeProbeRequest (k : PackId) (r : Result) (d : Nat) (s : State) :
    Evaluated s (completeProbeRequest k r d s) := by
  refine evaluated_of_same ((within_completeProbeRequest k r d s).chg (by simp)) fun j => ?_
  by_cases same : j = k
  · rw [same, completeProbeRequest_pack]
  · rw [(within_completeProbeRequest k r d s).pack j (by simp [same])]

theorem evaluated_probeFails (k : PackId) (n : Nat) (o : BusOutcome) (s : State) : Evaluated s (probeFails k n o s) := by
  have recorded : Evaluated s (recordFailure k n o s) :=
    (evaluated_updatingPack (.probe k) k (fun x => { x.pack k with
      probe := none, failures := (x.pack k).failures + 1
      record := endRecord x .probeFailed (setStep (x.pack k).record n o) }) s rfl).trans
      (evaluated_of_same (commit_chg _ _ _) fun j => congrArg Pack.values (commit_pack _ _ _ j))
  have failed : Evaluated s (afterFailure k n o s) := by
    unfold afterFailure
    split
    · exact recorded.trans (evaluated_setPackState k _ _ _ _ fun _ => rfl)
    · exact recorded
  rw [probeFails_eq]
  exact failed.trans (evaluated_completeProbeRequest k _ _ _)

theorem evaluated_offerWork (u : ProbeUnit) (s : State) : Evaluated s (offerWork .a (.probe u) s) := by
  have moved : ∀ f x, Evaluated x (updatingPort .a f x) := fun f x =>
    evaluated_of_within (within_updatingPort .a f x) (by simp) (by simp)
  unfold offerWork
  split
  · exact (moved _ s).trans ((evaluated_updatingPack (.probe u.pack) u.pack (fun x => { x.pack u.pack with
      record := { (x.pack u.pack).record with state := .running } }) _ rfl).trans (evaluated_probeBegun u.pack _))
  · exact moved _ s

theorem evaluated_offerStep (k : PackId) (run : ProbeRun) (s : State) : Evaluated s (offerStep k run s) := by
  have waits : Evaluated s (waiting k run s) := evaluated_updatingPack (.probe k) k (fun x => { x.pack k with
    probe := some run, record := { (x.pack k).record with state := .waiting } }) s rfl
  have port : (waiting k run s).portA = s.portA := (within_waiting k run s).port .a (by simp)
  by_cases live : s.portA.state ≠ .halted ∧ s.portA.state ≠ .disabled
  · rw [offerStep_live live.1 live.2]
    exact waits.trans (evaluated_offerWork _ _)
  · have shut : (waiting k run s).portA.state = .halted ∨ (waiting k run s).portA.state = .disabled := by
      rw [port]
      exact shut_of_not_live live
    have eq : offerStep k run s = probeFails k run.step .portHalted (probeBegun k (waiting k run s)) := if_pos shut
    rw [eq]
    exact (waits.trans (evaluated_probeBegun k _)).trans (evaluated_probeFails k _ _ _)

theorem evaluated_startProbe (k : PackId) (s : State) : Evaluated s (startProbe k s) := by
  obtain ⟨f, eq⟩ := startProbe_eq k s
  rw [eq]
  exact (evaluated_updatingPack (.probe k) k (fun x => { x.pack k with record := f }) s rfl).trans (evaluated_offerStep k _ _)

theorem evaluated_criteriaCheck (k : PackId) (s : State) : Evaluated s (criteriaCheck k s) := by
  unfold criteriaCheck
  split
  · split
    · exact (evaluated_setPackState k _ _ _ s fun _ => rfl).trans (evaluated_startProbe k _)
    · exact Evaluated.refl s
  · exact Evaluated.refl s

end Sys2Proof.Proofs.MonitorWork
end

section
/-! PROOF. What offered work leaves of a port (R71, R72), and the adoption of a charge profile (R110, R118, R144). -/
set_option Elab.async false

namespace Sys2Proof.Proofs.ProfileAdoption

open Sys2Proof Sys2Proof.Machine Sys2Proof.Safety Sys2Proof.Laws Sys2Proof.Proofs.Frames Sys2Proof.Proofs.Updates
  Sys2Proof.Proofs.Units Sys2Proof.Proofs.Completion Sys2Proof.Proofs.PortRequests Sys2Proof.Proofs.Probes
  Sys2Proof.Proofs.Recovery Sys2Proof.Proofs.ChargeComputation Sys2Proof.Proofs.TableLoads Sys2Proof.Proofs.MonitorWork

/-! ### Offered work -/

/-- R72: what work offered to a port does to it: an IDLE port may have granted some. -/
def Offered (x y : Port) : Prop :=
  (y.fast = x.fast ∧ y.clockLow = x.clockLow ∧ y.disableDue = x.disableDue) ∧
  (x.state ≠ .idle → y.state = x.state ∧ y.granted = x.granted) ∧
  (x.state = .idle → y.state = .idle ∨ y.state = .busy ∧ y.granted.isSome = true)

theorem Offered.refl (x : Port) : Offered x x := ⟨⟨rfl, rfl, rfl⟩, fun _ => ⟨rfl, rfl⟩, .inl⟩

theorem Offered.trans {x y z : Port} (first : Offered x y) (next : Offered y z) : Offered x z := by
  obtain ⟨⟨fast, low, due⟩, busy, idle⟩ := first
  obtain ⟨⟨fast', low', due'⟩, busy', idle'⟩ := next
  refine ⟨⟨fast'.trans fast, low'.trans low, due'.trans due⟩, fun h => ?_, fun h => ?_⟩
  · obtain ⟨state, granted⟩ := busy h
    obtain ⟨state', granted'⟩ := busy' (by rw [state]; exact h)
    exact ⟨state'.trans state, granted'.trans granted⟩
  · rcases idle h with still | ⟨runs, some_⟩
    · exact idle' still
    · obtain ⟨state', granted'⟩ := busy' (by rw [runs]; simp)
      exact .inr ⟨state'.trans runs, by rw [granted']; exact some_⟩

theorem Offered.live {x y : Port} (a : Offered x y) {shut : PortState} (other : shut ≠ .idle ∧ shut ≠ .busy) (h : x.state ≠ shut) :
    y.state ≠ shut := by
  by_cases idle : x.state = .idle
  · rcases a.2.2 idle with still | ⟨runs, _⟩
    · rw [still]
      exact fun e => other.1 e.symm
    · rw [runs]
      exact fun e => other.2 e.symm
  · rw [(a.2.1 idle).1]
    exact h

theorem Offered.halted {x y : Port} (a : Offered x y) (h : x.state ≠ .halted) : y.state ≠ .halted := a.live (by simp) h
theorem Offered.disabled {x y : Port} (a : Offered x y) (h : x.state ≠ .disabled) : y.state ≠ .disabled := a.live (by simp) h

theorem offered_of_regrouped {x y : Port} (a : Regrouped x y) : Offered x y := by
  rcases a with rfl | ⟨busy, _, g, rfl⟩ | ⟨idle, w, g, rfl⟩
  · exact Offered.refl _
  · exact ⟨⟨rfl, rfl, rfl⟩, fun _ => ⟨rfl, rfl⟩, fun idle => absurd idle busy⟩
  · exact ⟨⟨rfl, rfl, rfl⟩, fun busy => absurd idle busy, fun _ => .inr ⟨rfl, rfl⟩⟩

theorem offered_putOnBus (w : Work) {x : Port} (idle : x.state = .idle) : Offered x (putOnBus w x) :=
  ⟨⟨rfl, rfl, rfl⟩, fun busy => absurd idle busy, fun _ => .inr ⟨rfl, rfl⟩⟩

theorem offered_joinList (w : Work) (x : Port) : Offered x (joinList w x) := by
  cases w <;> exact ⟨⟨rfl, rfl, rfl⟩, fun _ => ⟨rfl, rfl⟩, .inl⟩

theorem offered_grantNotice (w : Work) (s : State) : Offered s.portA (grantNotice w s).portA := by
  cases w with
  | probe u => exact offered_of_regrouped (probeGranted_port u s)
  | charger g | poll n | host n => exact Offered.refl _

/-- R72: a unit offered to port A. -/
theorem offered_offerWork (w : Work) (s : State) : Offered s.portA (offerWork .a w s).portA := by
  have moved : ∀ f, (updatingPort .a f s).portA = f s.portA := fun f => port_updatingPort .a f s
  unfold offerWork
  split
  · next free =>
    have granted := offered_grantNotice w (updatingPort .a (putOnBus w) s)
    rw [moved] at granted
    exact (offered_putOnBus w free.1).trans granted
  · rw [moved]
    exact offered_joinList w _

theorem offered_offerStep (k : PackId) (run : ProbeRun) (s : State) : Offered s.portA (offerStep k run s).portA := by
  have port : (waiting k run s).portA = s.portA := (within_waiting k run s).port .a (by simp)
  by_cases live : s.portA.state ≠ .halted ∧ s.portA.state ≠ .disabled
  · rw [offerStep_live live.1 live.2, ← port]
    exact offered_offerWork _ _
  · have shut : (waiting k run s).portA.state = .halted ∨ (waiting k run s).portA.state = .disabled := by
      rw [port]
      exact shut_of_not_live live
    have eq : offerStep k run s = probeFails k run.step .portHalted (probeBegun k (waiting k run s)) := if_pos shut
    rw [eq, ← port]
    exact offered_of_regrouped ((regrouped_probeBegun k _).trans (regrouped_probeFails k _ _ _))

theorem offered_startProbe (k : PackId) (s : State) : Offered s.portA (startProbe k s).portA := by
  obtain ⟨f, eq⟩ := startProbe_eq k s
  rw [eq, ← freshRecord_port k f s]
  exact offered_offerStep k _ _

theorem offered_criteriaCheck (k : PackId) (s : State) : Offered s.portA (criteriaCheck k s).portA := by
  unfold criteriaCheck
  split
  · split
    · exact (offered_of_regrouped (regrouped_setPackState k _ _ _ s)).trans (offered_startProbe k _)
    · exact Offered.refl _
  · exact Offered.refl _

/-! ### The criteria of the new profile (R110) -/

/-- R107, R110, R111: the check of one pack. -/
theorem criteriaCheck_pack (k : PackId) (s : State) :
    ((s.pack k).state ≠ .online ∨ criterionMet s.chg.profile (s.pack k) = none → criteriaCheck k s = s) ∧
    ∀ r, (s.pack k).state = .online → criterionMet s.chg.profile (s.pack k) = some r → s.portA.state ≠ .halted →
      s.portA.state ≠ .disabled → ((criteriaCheck k s).pack k).state = .lost ∧ ((criteriaCheck k s).pack k).reason = r ∧
        ((criteriaCheck k s).pack k).probe.isSome = true ∧ sameHistory (s.pack k) ((criteriaCheck k s).pack k) := by
  unfold criteriaCheck
  refine ⟨fun stays => ?_, fun r online met halted disabled => ?_⟩
  · split
    · next online =>
      rw [stays.resolve_left fun h => h online]
    · rfl
  · have port := regrouped_setPackState k .lost r id s
    have lost := setPackState_pack k .lost r id s
    obtain ⟨record, pack⟩ := startProbe_known (k := k) (s := setPackState k .lost r id s) (port.halted halted) (port.disabled disabled)
      (by rw [lost]; simp)
    rw [if_pos online, met]
    dsimp only
    rw [pack, lost]
    exact ⟨rfl, rfl, rfl, rfl, rfl, rfl⟩

theorem within_criteriaCheck_live (k : PackId) {s : State} (halted : s.portA.state ≠ .halted) (disabled : s.portA.state ≠ .disabled) :
    Within (monitoring k) s (criteriaCheck k s) := by
  unfold criteriaCheck
  split
  · split
    · next r _ =>
      have port := regrouped_setPackState k .lost r id s
      exact (within_setPackState k _ _ _ s).trans (within_startProbe_live k _ (port.halted halted) (port.disabled disabled))
    · exact Within.refl _ s
  · exact Within.refl _ s

/-! ### The terms of the new profile (R144) -/

theorem evaluated_evaluateTimes : (n : Nat) → (s : State) → Evaluated s (evaluateTimes n s)
  | 0, s => Evaluated.refl s
  | n + 1, s => (evaluated_evaluate s).trans (evaluated_evaluateTimes n (evaluate s))

theorem regrouped_evaluateTimes : (n : Nat) → (s : State) → Regrouped s.portA (evaluateTimes n s).portA
  | 0, _ => Regrouped.refl _
  | n + 1, s => (regrouped_evaluate s).trans (regrouped_evaluateTimes n (evaluate s))

theorem takeProfile_fields (p : ChargeProfile) (c : Charge) : (takeProfile p c).profile = p ∧
    (p.chargerTarget = c.profile.chargerTarget →
      (takeProfile p c).written = c.written ∧ (takeProfile p c).writeFailures = c.writeFailures) ∧
    (p.chargerTarget ≠ c.profile.chargerTarget → (takeProfile p c).written = none ∧ (takeProfile p c).writeFailures = 0) := by
  unfold takeProfile
  refine ⟨?_, fun same => ?_, fun other => ?_⟩
  · split <;> rfl
  · rw [if_pos same]
    exact ⟨rfl, rfl⟩
  · rw [if_neg other]
    exact ⟨rfl, rfl⟩

/-- R144, steps 1 to 3: the state in which the adoption's evaluations begin. -/
def adopted (p : ChargeProfile) (s : State) : State := updating .charger (takeProfileTerms p) s

theorem within_adopted (p : ChargeProfile) (s : State) : Within [.chg] s (adopted p s) := within_updating .charger (within_chg _ s)

theorem adopted_chg (p : ChargeProfile) (s : State) : (adopted p s).chg = decideTerms { s with chg := takeProfile p s.chg } := by
  unfold adopted updating
  rw [commit_chg]
  rfl

theorem decideDcs_congr {s t : State} (profile : t.chg.profile = s.chg.profile) (th : t.th = s.th) : decideDcs t = decideDcs s := by
  unfold decideDcs effective slotOf slotConfig
  rw [profile, th]

/-- R144: the profile and the terms decided by it. -/
theorem adopted_terms (p : ChargeProfile) (s : State) : (adopted p s).chg.profile = p ∧
    (adopted p s).chg.dCs = decideDcs (adopted p s) ∧ DpkOk (adopted p s) ∧
    (adopted p s).chg.written = (takeProfile p s.chg).written ∧
    (adopted p s).chg.writeFailures = (takeProfile p s.chg).writeFailures := by
  have w := within_adopted p s
  have chg := adopted_chg p s
  have profile : (adopted p s).chg.profile = (takeProfile p s.chg).profile := by rw [chg]; rfl
  refine ⟨profile.trans (takeProfile_fields p s.chg).1, ?_, ?_, by rw [chg]; rfl, by rw [chg]; rfl⟩
  · rw [decideDcs_congr (s := { s with chg := takeProfile p s.chg }) (t := adopted p s) profile (w.th (by simp)), chg]
    rfl
  · unfold DpkOk
    rw [decideDpk_of (s := { s with chg := takeProfile p s.chg }) (t := adopted p s) (congrArg (·.bands) profile)
      (w.pack .pack0 (by simp)) (w.pack .pack1 (by simp)), chg]
    rfl

theorem adoptProfile_eq (p : ChargeProfile) (s : State) :
    adoptProfile p s = evaluateTimes (termsChanged s.chg (adopted p s).chg + 1) (adopted p s) := rfl

/-- R118: critical battery as decided at the end. -/
theorem criticalDecision_holds (s : State) : (criticalDecision s).dsg.critical = criticalHolds (criticalDecision s) := by
  have w := within_criticalDecision s
  have dsg : (criticalDecision s).dsg = { s.dsg with critical := criticalHolds s } := setCritical_dsg _ s
  have levels : (criticalDecision s).adapterIn = s.adapterIn := congrArg InputLevels.acp (mid_criticalDecision s).levels
  have packs : ∀ k, (criticalDecision s).pack k = s.pack k := fun k => w.pack k (by simp)
  have holds : criticalHolds (criticalDecision s) = criticalHolds s := by
    unfold criticalHolds qualifies
    rw [levels, dsg, w.chg (by simp)]
    simp only [packs]
  rw [holds, dsg]

/-! ### The adoption of a profile -/

theorem profileReactions_eq (s : State) : profileReactions s = criticalDecision (criteriaCheck .pack1 (criteriaCheck .pack0 s)) := rfl

/-- R107, R110: each pack by its own criteria. -/
theorem profileReactions_pack (k : PackId) (s : State) :
    ((s.pack k).state ≠ .online ∨ criterionMet s.chg.profile (s.pack k) = none → (profileReactions s).pack k = s.pack k) ∧
    ∀ r, (s.pack k).state = .online → criterionMet s.chg.profile (s.pack k) = some r → s.portA.state ≠ .halted →
      s.portA.state ≠ .disabled → ((profileReactions s).pack k).state = .lost ∧ ((profileReactions s).pack k).reason = r ∧
        ((profileReactions s).pack k).probe.isSome = true ∧ sameHistory (s.pack k) ((profileReactions s).pack k) := by
  have first := within_criteriaCheck .pack0 s
  have second := within_criteriaCheck .pack1 (criteriaCheck .pack0 s)
  have last : ∀ j, (profileReactions s).pack j = (criteriaCheck .pack1 (criteriaCheck .pack0 s)).pack j := fun j =>
    (within_criticalDecision _).pack j (by simp)
  rw [last]
  cases k with
  | pack0 =>
    rw [second.pack .pack0 (by simp)]
    obtain ⟨stays, lost⟩ := criteriaCheck_pack .pack0 s
    exact ⟨fun h => by rw [stays h], lost⟩
  | pack1 =>
    obtain ⟨stays, lost⟩ := criteriaCheck_pack .pack1 (criteriaCheck .pack0 s)
    have profile : (criteriaCheck .pack0 s).chg.profile = s.chg.profile := by
      obtain ⟨_, _, _, _, _, _, _, _, _, _, _, chg⟩ := (evaluated_criteriaCheck .pack0 s).1
      rw [chg]
    rw [first.pack .pack1 (by simp), profile] at stays lost
    have port := offered_criteriaCheck .pack0 s
    refine ⟨fun h => ?_, fun r online met halted disabled => lost r online met (port.halted halted) (port.disabled disabled)⟩
    rw [stays h]
    exact first.pack .pack1 (by simp)

/-- R144: the adoption of a profile. -/
theorem profileAdopted_reactions (p : ChargeProfile) (s : State) : profileAdopted p s (profileReactions (adoptProfile p s)) := by
  obtain ⟨profile, dCs, dPk, written, failures⟩ := adopted_terms p s
  obtain ⟨_, same, other⟩ := takeProfile_fields p s.chg
  have taken := within_adopted p s
  have times := evaluated_evaluateTimes (termsChanged s.chg (adopted p s).chg + 1) (adopted p s)
  have grouped := regrouped_from (taken.port .a (by simp)) (regrouped_evaluateTimes (termsChanged s.chg (adopted p s).chg + 1) (adopted p s))
  have timesWithin := within_evaluateTimes (termsChanged s.chg (adopted p s).chg + 1) (adopted p s)
  rw [adoptProfile_eq]
  generalize evaluateTimes (termsChanged s.chg (adopted p s).chg + 1) (adopted p s) = a at times grouped timesWithin
  generalize adopted p s = x at profile dCs dPk written failures taken times timesWithin
  have packs : ∀ k, a.pack k = s.pack k := fun k => (timesWithin.pack k (by simp)).trans (taken.pack k (by simp))
  have last := within_criticalDecision (criteriaCheck .pack1 (criteriaCheck .pack0 a))
  have evaluated := ((times.trans (evaluated_criteriaCheck .pack0 a)).trans (evaluated_criteriaCheck .pack1 _)).trans
    (evaluated_of_within last (by simp) (by simp))
  have th : (profileReactions a).th = x.th := ((within_profileReactions a).th (by simp)).trans (timesWithin.th (by simp))
  have critical := criticalDecision_holds (criteriaCheck .pack1 (criteriaCheck .pack0 a))
  have each := fun k => profileReactions_pack k a
  rw [← profileReactions_eq] at evaluated critical
  generalize profileReactions a = u at evaluated critical th each
  obtain ⟨chg, _, decided⟩ := evaluated
  have kept : u.chg.profile = x.chg.profile ∧ u.chg.dCs = x.chg.dCs ∧ u.chg.written = x.chg.written ∧
      u.chg.writeFailures = x.chg.writeFailures := by
    obtain ⟨_, _, _, _, _, _, _, _, _, _, _, eq⟩ := chg
    rw [eq]
    exact ⟨rfl, rfl, rfl, rfl⟩
  have start : a.chg.profile = p := by
    obtain ⟨_, _, _, _, _, _, _, _, _, _, _, eq⟩ := times.1
    rw [eq]
    exact profile
  obtain ⟨profile', dCs', written', failures'⟩ := kept
  refine ⟨profile'.trans profile, ?_, decided dPk, fun same' => ?_, fun other' => ?_, critical, fun k => ?_⟩
  · rw [dCs', dCs, decideDcs_congr profile' th]
  · rw [written', written, failures', failures]
    exact same same'
  · rw [written', written, failures', failures]
    exact other other'
  · obtain ⟨stays, lost⟩ := each k
    rw [packs, start] at stays lost
    exact ⟨stays, fun r online met halted disabled => lost r online met (grouped.halted halted) (grouped.disabled disabled)⟩

/-- R110, R144: what the adoption of a profile changes while port A takes work. -/
theorem within_profileReactions_live (p : ChargeProfile) {s : State} (halted : s.portA.state ≠ .halted)
    (disabled : s.portA.state ≠ .disabled) :
    Within [.causes, .mem, .ring, .queue, .power, .kbd, .matrix, .dsg, .chg, .port .a, .pack .pack0, .pack .pack1] s
      (profileReactions (adoptProfile p s)) := by
  have taken := (within_adopted p s).port .a (by simp)
  have grouped : Regrouped s.portA (adoptProfile p s).portA := regrouped_from taken (regrouped_evaluateTimes _ _)
  have port := offered_criteriaCheck .pack0 (adoptProfile p s)
  have first := within_criteriaCheck_live .pack0 (grouped.halted halted) (grouped.disabled disabled)
  have second := within_criteriaCheck_live .pack1 (port.halted (grouped.halted halted)) (port.disabled (grouped.disabled disabled))
  exact ((((within_adoptProfile p s).then first).then second).then (within_criticalDecision _)).mono (by simp)

/-- R110, R144: a request that has ended stays so. -/
theorem ends_profileReactions (n : Nat) (p : ChargeProfile) (s : State) : Ends n s (profileReactions (adoptProfile p s)) :=
  (((ends_of_within (within_adoptProfile p s) (by simp) (by simp) (by simp) (keeps_adoptProfile p s)).trans
    (ends_criteriaCheck n .pack0 _)).trans (ends_criteriaCheck n .pack1 _)).trans
    (ends_of_within (within_criticalDecision _) (by simp) (by simp) (by simp) (mid_criticalDecision _).toKeeps)

/-! ### The request (R193) -/

/-- R192, R193: a copy whose request has ended OK before its owner adopts it. -/
def answeredOk (n : Nat) (t : TableId) (s : State) : State := completeSlot n .ok 0 [(1, [0#8])] (holding n (.load t) s)

theorem within_answeredOk (n : Nat) (t : TableId) (s : State) : Within (completing n) s (answeredOk n t s) :=
  within_completing (within_holding n (.load t) s) .ok 0 (fitsByte 0#8)

theorem done_answeredOk {s : State} (wf : memoryCanonical s) (n : Nat) (t : TableId) : doneWith (answeredOk n t s) n .ok 0 :=
  (answeredHeld wf (.load t) .ok (by decide) (fitsByte 0#8)).1

theorem canonical_answeredOk {s : State} (wf : memoryCanonical s) (n : Nat) (t : TableId) : memoryCanonical (answeredOk n t s) :=
  (keeps_completeSlot n .ok 0 [(1, [0#8])] _).memory (canonical_taken wf n)

theorem profileAdopted_of {p : ChargeProfile} {a s u : State} (adopted : profileAdopted p a u) (chg : a.chg = s.chg)
    (packs : ∀ k, a.pack k = s.pack k) (port : a.portA = s.portA) : profileAdopted p s u := by
  unfold profileAdopted at adopted ⊢
  simp only [chg, packs, port] at adopted
  exact adopted

/-- R144, R193: a CHARGE_PROFILE that its owner takes. -/
theorem profileTaken {n : Nat} {s : State} (wf : memoryCanonical s) : let p := readProfile (holding n (.load .chargeProfile) s).mem
    let u := ownerTakes .chargeProfile n (holding n (.load .chargeProfile) s)
    profileAdopted p s u ∧ slotState u n = slotDone ∧ isHeld u n = false ∧
      (s.portA.state ≠ .halted → s.portA.state ≠ .disabled → doneWith u n .ok 0 ∧ sameButSlotAndQueue n s u) ∧
      u.th = s.th ∧ u.engineA = s.engineA ∧ u.engineB = s.engineB ∧ u.portB = s.portB ∧
      (scanModeDecided s → u.kbd.table = s.kbd.table) := by
  intro p u
  have eq : u = profileReactions (adoptProfile p (answeredOk n .chargeProfile s)) := rfl
  have answered := within_answeredOk n .chargeProfile s
  have done := done_answeredOk wf n .chargeProfile
  have canonical := canonical_answeredOk wf n .chargeProfile
  rw [eq]
  generalize answeredOk n .chargeProfile s = a at answered done canonical ⊢
  have port : a.portA = s.portA := answered.port .a (by simp)
  have w := (answered.then (within_adoptProfile p a)).then (within_profileReactions (adoptProfile p a))
  have ends := ends_profileReactions n p a
  refine ⟨profileAdopted_of (profileAdopted_reactions p a) (answered.chg (by simp)) (fun k => answered.pack k (by simp)) port,
    (ends.2 canonical).2 done.1, ends.held done.2.2.2.1, fun halted disabled => ?_, w.th (by simp), w.engine .a (by simp),
    w.engine .b (by simp), w.port .b (by simp), fun decided => (w.keys (by simp) decided).2⟩
  have live := within_profileReactions_live p (s := a) (by rw [port]; exact halted) (by rw [port]; exact disabled)
  have keeps := (keeps_adoptProfile p a).trans (keeps_profileReactions _)
  exact ⟨doneWith_within done live keeps (by simp) (by simp) (by simp),
    (answered.then live).sameButSlotAndQueue (by simp) (by simp) fun m ne => by simp [ne]⟩

end Sys2Proof.Proofs.ProfileAdoption
end

section
/-! PROOF. The adoption of a thermal table and of a platform table (R17, R164, R195). -/
set_option Elab.async false

namespace Sys2Proof.Proofs.TableAdoption

open Sys2Proof Sys2Proof.Machine Sys2Proof.Safety Sys2Proof.Laws Sys2Proof.Proofs.Frames Sys2Proof.Proofs.Updates
  Sys2Proof.Proofs.Units Sys2Proof.Proofs.ScanModes Sys2Proof.Proofs.Completion Sys2Proof.Proofs.PowerRules
  Sys2Proof.Proofs.PowerCommands Sys2Proof.Proofs.PortRequests Sys2Proof.Proofs.ChargeComputation Sys2Proof.Proofs.Measurements Sys2Proof.Proofs.MonitorWork
  Sys2Proof.Proofs.ProfileAdoption Sys2Proof.Proofs.TableLoads

/-! ### THERMAL (R164) -/

theorem adoptSlot_tripped {wasOn on : Bool} {x : Slot} (trips : (adoptSlot wasOn on x).tripped = true) : x.tripped = true := by
  unfold adoptSlot at trips
  split at trips
  · split at trips <;> exact trips
  · exact absurd trips (by simp)

/-- R164, step 3: an adoption ends trips only. -/
theorem takeThermal_trips {t : ThermalTable} {s u : State} (slots : u.th.slots = (takeThermal t s.th).slots)
    (trips : u.tripActive = true) : s.tripActive = true := by
  unfold State.tripActive at trips
  rw [slots] at trips
  obtain ⟨x, own, on⟩ := List.any_eq_true.mp trips
  obtain ⟨i, y, eq⟩ := List.mem_mapIdx.mp own
  rw [← eq] at on
  exact List.any_eq_true.mpr ⟨_, List.getElem_mem y, adoptSlot_tripped on⟩

/-- R152: a trip that does not begin. -/
theorem tripChange_ends {before : Bool} {s : State} (ends : s.tripActive = true → before = true) :
    Within [.causes, .mem, .ring, .queue, .power, .kbd, .matrix, .chg, .port .a] s (tripChange before s) ∧
    (tripChange before s).chg.inhibit = { s.chg.inhibit with
      thermal := if before = true ∧ s.tripActive = false then false else s.chg.inhibit.thermal } := by
  unfold tripChange
  split
  · next same =>
    refine ⟨Within.refl _ s, ?_⟩
    rw [if_neg (by rw [same]; simp)]
  · next other =>
    have cool : s.tripActive = false := Bool.eq_false_iff.mpr fun on => other ((ends on).trans on.symm)
    have was : before = true := by simpa [cool] using other
    rw [if_neg (by rw [cool]; decide), if_pos ⟨was, cool⟩]
    refine ⟨within_tripEnds s, ?_⟩
    have wake : (tripEnds s).chg = (setThermalCause false s).chg := (within_wakeAfterTrip _).chg (by simp)
    rw [wake]
    unfold setThermalCause setInhibit
    split
    · next same => exact same
    · obtain ⟨_, _, _, _, _, _, _, _, _, _, _, eq⟩ := evaluates_evaluateWith
        (fun c => { c with inhibit := { s.chg.inhibit with thermal := false } }) s
      rw [eq]

/-- R164: the records of an adoption, before the trip and the charger's sensor. -/
def thermalTold (t : ThermalTable) (s : State) : State :=
  clearNotices s allSlots (commitSensors s allSlots (updatingFans (fun x => { x with th := takeThermal t x.th }) s))

theorem adoptThermal_eq (t : ThermalTable) (s : State) :
    adoptThermal t s = redecideDcs (tripChange s.tripActive (thermalTold t s)) := rfl

theorem within_updatingFans_th (f : State → Thermal) (s : State) :
    Within [.th] s (updatingFans (fun x => { x with th := f x }) s) := within_updatingFans (within_th _ s)

theorem thermalTold_th (t : ThermalTable) (s : State) : (thermalTold t s).th = takeThermal t s.th ∧
    Within (.th :: reporting) s (thermalTold t s) := by
  have told := within_clearNotices s allSlots
    (commitSensors s allSlots (updatingFans (fun x => { x with th := takeThermal t x.th }) s))
  have recorded := within_commitSensors s allSlots (updatingFans (fun x => { x with th := takeThermal t x.th }) s)
  refine ⟨(told.th (by simp)).trans ((recorded.th (by simp)).trans ?_), ?_⟩
  · unfold updatingFans
    rw [commit_th, commit_th]
  · exact (((within_updatingFans_th (fun x => takeThermal t x.th) s).then recorded).then told).mono (by simp)

theorem takeThermal_slots (t : ThermalTable) (th : Thermal) {n : Nat} {x : Slot} (own : th.slots[n]? = some x) :
    (takeThermal t th).slots[n]? = some
      (if slotOn t n = false then { x with tripCount := 0, state := .unknown, missCount := 0, tripped := false }
      else if slotOn th.table n = false then { x with tripCount := 0, state := .unknown, missCount := 0 }
      else { x with tripCount := 0 }) := by
  unfold takeThermal adoptSlot
  rw [List.getElem?_mapIdx, own]
  cases slotOn t n <;> cases slotOn th.table n <;> rfl

theorem raiseToStart_eq (m : Nat) (x : Fan) : raiseToStart m x =
    { x with duty := if 0 < x.duty ∧ x.duty < m then m else x.duty } := by
  unfold raiseToStart
  split <;> rfl

/-- R164: the adoption of a thermal table. -/
theorem thermalAdopted_adoptThermal (t : ThermalTable) (s : State) : thermalAdopted t s (adoptThermal t s) ∧
    Within [.causes, .mem, .ring, .queue, .power, .kbd, .matrix, .chg, .port .a, .th] s (adoptThermal t s) := by
  obtain ⟨th, told⟩ := thermalTold_th t s
  have ends : (thermalTold t s).tripActive = true → s.tripActive = true := takeThermal_trips (congrArg Thermal.slots th)
  obtain ⟨trip, inhibit⟩ := tripChange_ends ends
  rw [adoptThermal_eq]
  have again := within_redecideDcs (tripChange s.tripActive (thermalTold t s))
  have dCs := redecideDcs_dCs (tripChange s.tripActive (thermalTold t s))
  have evaluates : ∀ x, Evaluates { x.chg with dCs := decideDcs x } (redecideDcs x).chg := fun x => by
    unfold redecideDcs
    split
    · next own =>
      rw [own]
      exact Evaluates.refl _
    · exact evaluates_evaluateWith _ x
  obtain ⟨_, _, _, _, _, _, _, _, _, _, _, chg⟩ := evaluates (tripChange s.tripActive (thermalTold t s))
  have final : (redecideDcs (tripChange s.tripActive (thermalTold t s))).th = takeThermal t s.th :=
    (again.th (by simp)).trans ((trip.th (by simp)).trans th)
  have stays : (redecideDcs (tripChange s.tripActive (thermalTold t s))).th = (tripChange s.tripActive (thermalTold t s)).th :=
    again.th (by simp)
  have profile : (redecideDcs (tripChange s.tripActive (thermalTold t s))).chg.profile =
      (tripChange s.tripActive (thermalTold t s)).chg.profile := by rw [chg]
  have cause : (redecideDcs (tripChange s.tripActive (thermalTold t s))).chg.inhibit =
      (tripChange s.tripActive (thermalTold t s)).chg.inhibit := by rw [chg]
  have frame := ((told.then trip).then again).mono (W := [.causes, .mem, .ring, .queue, .power, .kbd, .matrix, .chg, .port .a, .th])
    (by simp)
  have active : (redecideDcs (tripChange s.tripActive (thermalTold t s))).tripActive = (thermalTold t s).tripActive :=
    tripActive_of_slots (by rw [final, th])
  rw [told.chg (by simp), ← active] at inhibit
  rw [← decideDcs_congr profile stays] at dCs
  rw [← cause] at inhibit
  generalize redecideDcs (tripChange s.tripActive (thermalTold t s)) = u at dCs final frame inhibit
  refine ⟨⟨by rw [final]; rfl, dCs, fun n x own => ?_, fun f => ?_, inhibit, by rw [final]; rfl, by rw [final]; rfl⟩, frame⟩
  · rw [final]
    exact takeThermal_slots t s.th own
  · cases f
    · exact (congrArg Thermal.fan0 final).trans (raiseToStart_eq t.startMin s.th.fan0)
    · exact (congrArg Thermal.fan1 final).trans (raiseToStart_eq t.startMin s.th.fan1)

/-- R164, R193: a THERMAL table that its owner takes. -/
theorem thermalTaken {n : Nat} {s : State} (wf : memoryCanonical s) : let t := readThermal (holding n (.load .thermal) s).mem
    let u := ownerTakes .thermal n (holding n (.load .thermal) s)
    doneWith u n .ok 0 ∧ thermalAdopted t s u ∧ samePacks s u ∧ u.engineA = s.engineA ∧ u.engineB = s.engineB ∧
      u.portB = s.portB ∧ sameButSlotAndQueue n s u := by
  intro t u
  have eq : u = adoptThermal t (answeredOk n .thermal s) := rfl
  have answered := within_answeredOk n .thermal s
  have done := done_answeredOk wf n .thermal
  rw [eq]
  generalize answeredOk n .thermal s = a at answered done ⊢
  obtain ⟨adopted, w⟩ := thermalAdopted_adoptThermal t a
  have frame := answered.then w
  have th : a.th = s.th := answered.th (by simp)
  have fans : ∀ f, a.fan f = s.fan f := fan_of_th th
  have trip : a.tripActive = s.tripActive := tripActive_of_slots (congrArg Thermal.slots th)
  unfold thermalAdopted at adopted
  simp only [answered.chg (by simp), th, fans, trip] at adopted
  exact ⟨doneWith_within done w (keeps_adoptThermal t a) (by simp) (by simp) (by simp), adopted, frame.samePacks (by simp) (by simp),
    frame.engine .a (by simp), frame.engine .b (by simp), frame.port .b (by simp),
    frame.sameButSlotAndQueue (by simp) (by simp) fun m ne => by simp [ne]⟩

/-! ### PLATFORM (R17, R195) -/

/-- R31, R195: the platform table taken, before a long press acts. -/
def platformTold (t : PlatformTable) (s : State) : State := scanModeDecision { s with power := takePlatform t s.power }

theorem platformTold_power (t : PlatformTable) (s : State) : (platformTold t s).power = takePlatform t s.power :=
  (within_scanModeDecision _).power (by simp)

/-- R17, R195: the long press that the new length meets. -/
theorem adoptPlatform_cases (t : PlatformTable) (s : State) :
    (pressMetBy t s = true → adoptPlatform t s = longPress (platformTold t s)) ∧
    (pressMetBy t s = false → adoptPlatform t s = platformTold t s) := by
  have power := platformTold_power t s
  have met : pressMetBy t s = true ↔ t.longPress ≠ s.power.table.longPress ∧ (platformTold t s).buttonPressed ∧
      (platformTold t s).power.ignore = false ∧ longPressMet (platformTold t s) = true ∧ (platformTold t s).power.comboMs = none := by
    unfold pressMetBy longPressMet State.buttonPressed reached
    rw [power]
    show _ ↔ t.longPress ≠ s.power.table.longPress ∧ (!s.power.levels.pwrbtn) = true ∧ s.power.ignore = false ∧
      (match s.power.heldMs with | some n => decide (t.longPress * 1000 ≤ n) | none => false) = true ∧ s.power.comboMs = none
    rw [Bool.and_eq_true, Bool.and_eq_true, Bool.and_eq_true, Bool.and_eq_true, bne_iff_ne, Option.isNone_iff_eq_none,
      Bool.not_eq_true' s.power.ignore]
    exact ⟨fun ⟨⟨⟨⟨other, pressed⟩, free⟩, alone⟩, met⟩ => ⟨other, pressed, free, met, alone⟩,
      fun ⟨other, pressed, free, met, alone⟩ => ⟨⟨⟨⟨other, pressed⟩, free⟩, alone⟩, met⟩⟩
  refine ⟨fun yes => if_pos (met.mp yes), fun no => if_neg fun h => ?_⟩
  exact absurd (met.mpr h) (by rw [no]; decide)

/-- R17: a long press keeps the table. -/
theorem longPress_table (s : State) : (longPress s).power.table = s.power.table := by
  cases can : canShutDown s.power.state with
  | false => rw [longPress_blocked can]
  | true =>
    obtain ⟨_, _, _, _, _, _, _, eq⟩ := enterShutdown_power (c := .longPress) can
    have kept : (leftRun s.power).table = s.power.table := by
      unfold leftRun
      split <;> rfl
    show (enterShutdown .longPress s).power.table = _
    rw [eq]
    exact kept

theorem within_platformTold (t : PlatformTable) (s : State) :
    Within [.causes, .mem, .ring, .queue, .power, .kbd, .matrix, .mode, .keys] s (platformTold t s) :=
  ((within_powerAny (takePlatform t s.power) s).then (within_scanModeDecision _)).mono (by simp)

/-- R195: the adoption of a platform table. -/
theorem platformAdopted_adoptPlatform (t : PlatformTable) (s : State) : platformAdopted t s (adoptPlatform t s) ∧
    (pressMetBy t s = false → sameControl s (adoptPlatform t s)) := by
  have power := platformTold_power t s
  have decided : scanModeDecided (platformTold t s) := scanModeDecided_decision _
  obtain ⟨acts, rests⟩ := adoptPlatform_cases t s
  unfold platformAdopted
  cases met : pressMetBy t s with
  | false =>
    rw [rests met]
    refine ⟨⟨congrArg Power.table power, decided, fun _ => power, fun h => absurd h (by decide)⟩, fun _ => ?_⟩
    exact (within_platformTold t s).sameControl (by simp) (by simp)
  | true =>
    rw [acts met]
    have state : (platformTold t s).power.state = s.power.state := by rw [power]; rfl
    refine ⟨⟨(longPress_table _).trans (congrArg Power.table power), (within_longPress _).mode (by simp) decided,
      fun h => absurd h (by decide), fun _ => ⟨rfl, fun can => ?_, fun not => ?_⟩⟩, fun h => absurd h (by decide)⟩
    · exact (longPress_acts (by rw [state]; exact can)).1
    · rw [longPress_blocked (by rw [state]; exact not)]
      exact state

/-- R195, R193: a PLATFORM table that its owner takes. -/
theorem platformTaken {n : Nat} {s : State} (wf : memoryCanonical s) : let t := readPlatform (holding n (.load .platform) s).mem
    let u := ownerTakes .platform n (holding n (.load .platform) s)
    doneWith u n .ok 0 ∧ platformAdopted t s u ∧ samePacks s u ∧ u.engineA = s.engineA ∧ u.engineB = s.engineB ∧
      u.portB = s.portB ∧ sameButSlotAndQueue n s u ∧ (pressMetBy t s = false → sameControl s u) := by
  intro t u
  have eq : u = adoptPlatform t (answeredOk n .platform s) := rfl
  have answered := within_answeredOk n .platform s
  have done := done_answeredOk wf n .platform
  rw [eq]
  generalize answeredOk n .platform s = a at answered done ⊢
  obtain ⟨adopted, control⟩ := platformAdopted_adoptPlatform t a
  have w := within_adoptPlatform t a
  have frame := answered.then w
  have power : a.power = s.power := answered.power (by simp)
  have same : sameControl s a := answered.sameControl (by simp) (by simp)
  have met : pressMetBy t a = pressMetBy t s := by
    unfold pressMetBy State.buttonPressed
    rw [power]
  unfold platformAdopted at adopted
  rw [met, power] at adopted
  rw [met] at control
  refine ⟨doneWith_within done w (mid_adoptPlatform t a).toKeeps (by simp) (by simp) (by simp), adopted, frame.samePacks (by simp) (by simp),
    frame.engine .a (by simp), frame.engine .b (by simp), frame.port .b (by simp),
    frame.sameButSlotAndQueue (by simp) (by simp) fun m ne => by simp [ne], fun rests => ?_⟩
  obtain ⟨chg, th⟩ := control rests
  exact ⟨chg.trans same.1, th.trans same.2⟩

end Sys2Proof.Proofs.TableAdoption
end

section
/-! PROOF. The round that an adoption starts (R72, R87 to R90): what it leaves of list, port, requests and the other units. -/
set_option Elab.async false

namespace Sys2Proof.Proofs.AdoptionRounds

open Sys2Proof Sys2Proof.Machine Sys2Proof.Safety Sys2Proof.Laws Sys2Proof.Proofs.Frames Sys2Proof.Proofs.Updates
  Sys2Proof.Proofs.Units Sys2Proof.Proofs.ScanModes Sys2Proof.Proofs.Completion Sys2Proof.Proofs.PortRequests
  Sys2Proof.Proofs.Probes Sys2Proof.Proofs.Recovery Sys2Proof.Proofs.RoundTimer Sys2Proof.Proofs.MonitorWork
  Sys2Proof.Proofs.ProfileAdoption Sys2Proof.Proofs.TableLoads

/-! ### The steps of a round -/

/-- What a round of a port changes while port A takes work. -/
@[simp] def roundParts : PortId → List Part
  | .a => [.causes, .mem, .ring, .queue, .power, .kbd, .matrix, .dsg, .chg, .port .a, .engine .a, .pack .pack0, .pack .pack1]
  | .b => .engine .b :: .port .b :: powering

/-- Whether a round of a port hands no probe step back. -/
def takesWork (p : PortId) (x : Port) : Prop := p = .b ∨ x.state ≠ .halted ∧ x.state ≠ .disabled

/-- A step of a round of port `p`: the list stands, the port is offered work, requests only end. -/
def RoundStep (p : PortId) (n : Nat) (s t : State) : Prop :=
  (t.engine p).list = (s.engine p).list ∧ Offered (s.port p) (t.port p) ∧ Ends n s t ∧
    Within (.slots :: .posted :: roundParts p) s t ∧ (takesWork p (s.port p) → Within (roundParts p) s t)

theorem RoundStep.refl (p : PortId) (n : Nat) (s : State) : RoundStep p n s s :=
  ⟨rfl, Offered.refl _, Ends.refl n s, Within.refl _ s, fun _ => Within.refl _ s⟩

theorem takesWork_offered {p : PortId} {x y : Port} (a : Offered x y) (takes : takesWork p x) : takesWork p y := by
  rcases takes with own | ⟨halted, disabled⟩
  · exact .inl own
  · exact .inr ⟨a.halted halted, a.disabled disabled⟩

theorem RoundStep.trans {p : PortId} {n : Nat} {s t u : State} (first : RoundStep p n s t) (next : RoundStep p n t u) :
    RoundStep p n s u := by
  obtain ⟨list, port, ends, w, live⟩ := first
  obtain ⟨list', port', ends', w', live'⟩ := next
  exact ⟨list'.trans list, port.trans port', ends.trans ends', w.trans w', fun takes =>
    (live takes).trans (live' (takesWork_offered port takes))⟩

theorem slots_not_mem (p : PortId) : .slots ∉ roundParts p ∧ (∀ n, .slot n ∉ roundParts p) ∧ .posted ∉ roundParts p := by
  cases p <;> simp

/-- A step that hands nothing back. -/
theorem roundStep_of_within {T : List Part} {p : PortId} {n : Nat} {s t : State} (w : Within T s t) (sub : T ⊆ roundParts p)
    (list : (t.engine p).list = (s.engine p).list) (port : Offered (s.port p) (t.port p)) (k : Keeps true s t) :
    RoundStep p n s t := by
  obtain ⟨slots, slot, posted⟩ := slots_not_mem p
  have v := w.mono sub
  exact ⟨list, port, ends_of_within v slots (slot n) posted k,
    v.mono fun _ m => List.mem_cons_of_mem _ (List.mem_cons_of_mem _ m), fun _ => v⟩

theorem list_of_within {T : List Part} {p : PortId} {s t : State} (w : Within T s t) (h : .engine p ∉ T) :
    (t.engine p).list = (s.engine p).list := by rw [w.engine p h]

theorem offered_of_within {T : List Part} {p : PortId} {s t : State} (w : Within T s t) (h : .port p ∉ T) :
    Offered (s.port p) (t.port p) := by
  rw [w.port p h]
  exact Offered.refl _

theorem engine_mem_roundParts (p : PortId) : .engine p ∈ roundParts p := by cases p <;> simp
theorem port_mem_roundParts (p : PortId) : .port p ∈ roundParts p := by cases p <;> simp

theorem roundStep_setEngine {p : PortId} {n : Nat} {s : State} (x : Engine) (list : x.list = (s.engine p).list)
    (rows : x.rows.length = (s.engine p).rows.length) : RoundStep p n s (s.setEngine p x) :=
  roundStep_of_within (within_setEngine p x s) (by simpa using engine_mem_roundParts p) (by rw [engine_setEngine]; exact list)
    (offered_of_within (within_setEngine p x s) (by simp)) (keeps_setEngine p x s fun h => rows.trans h)

theorem roundStep_updatingEngine {p : PortId} {n : Nat} {s : State} (f : State → Engine) (list : (f s).list = (s.engine p).list)
    (rows : (f s).rows.length = (s.engine p).rows.length) :
    RoundStep p n s (updating (.port p) (fun x => x.setEngine p (f x)) s) :=
  roundStep_of_within (within_updatingEngine (.port p) p f s) (by simpa using engine_mem_roundParts p)
    (by rw [engine_updating]; exact list) (offered_of_within (within_updatingEngine (.port p) p f s) (by simp))
    (keeps_updating _ (keeps_setEngine p (f s) s fun h => rows.trans h))

/-! ### Steps of the pack monitor in a round of port A -/

theorem roundStep_criteriaCheck (n : Nat) (k : PackId) (s : State) : RoundStep .a n s (criteriaCheck k s) := by
  refine ⟨list_of_within (within_criteriaCheck k s) (by simp), offered_criteriaCheck k s, ends_criteriaCheck n k s,
    (within_criteriaCheck k s).mono (by cases k <;> simp), fun takes => ?_⟩
  obtain ⟨halted, disabled⟩ := takes.resolve_left (by simp)
  exact (within_criteriaCheck_live k halted disabled).mono (by cases k <;> simp)

theorem roundStep_startProbe (n : Nat) (k : PackId) (s : State) : RoundStep .a n s (startProbe k s) := by
  refine ⟨list_of_within (within_startProbe k s) (by simp), offered_startProbe k s, ends_startProbe n k s,
    (within_startProbe k s).mono (by cases k <;> simp), fun takes => ?_⟩
  obtain ⟨halted, disabled⟩ := takes.resolve_left (by simp)
  exact (within_startProbe_live k s halted disabled).mono (by cases k <;> simp)

theorem roundStep_updatingPack (n : Nat) (r : Rec) (k : PackId) (f : State → Pack) (s : State)
    (keeps : Keeps true s (updating r (fun x => x.setPack k (f x)) s)) :
    RoundStep .a n s (updating r (fun x => x.setPack k (f x)) s) :=
  roundStep_of_within (within_updatingPack r k f s) (by cases k <;> simp) (list_of_within (within_updatingPack r k f s) (by simp))
    (offered_of_within (within_updatingPack r k f s) (by simp)) keeps

theorem roundStep_evaluate (n : Nat) (s : State) : RoundStep .a n s (evaluate s) :=
  roundStep_of_within (within_evaluate s) (by simp) (list_of_within (within_evaluate s) (by simp))
    (offered_of_regrouped (regrouped_evaluate s)) (low_evaluate s).toKeeps

/-- R102, R110: a skipped delivery stores nothing. -/
theorem roundStep_packSkipped (n : Nat) (k : PackId) (f : PackField) (w : Nat) (s : State) :
    RoundStep .a n s (packDelivery k f .skipped w s) := by
  unfold packDelivery
  dsimp only
  split
  · rw [if_neg (by simp)]
    exact (roundStep_updatingPack n (.pack k) k _ s (keeps_updating _ (keeps_setPack k _ s (delivered_window _ _ _ _ _)))).trans
      (roundStep_criteriaCheck n k _)
  · exact RoundStep.refl .a n s

/-- R125: a skipped read of the charger. -/
theorem roundStep_chargerSkipped (n : Nat) (f : ChargerField) (v : Nat) (s : State) :
    RoundStep .a n s (chargerDelivery f .skipped v s) := by
  refine roundStep_of_within (within_chargerDelivery f .skipped v s) (by simp) (list_of_within (within_chargerDelivery f .skipped v s) (by simp)) ?_
    (low_chargerDelivery f .skipped v s).toKeeps
  unfold chargerDelivery
  dsimp only
  rw [if_neg (by simp)]
  have noted := (within_chgUpdate (fun _ => if f = .systemCurrent then countRead .skipped s.chg else s.chg) s).port .a (by simp)
  exact offered_of_regrouped (regrouped_from noted (regrouped_loseCharger _))

/-! ### The entries of a round -/

/-- R83, R85: the bindings that a list of the port may hold. -/
def fitsPort (p : PortId) (b : Binding) : Prop :=
  match p with
  | .a => ∀ k, b ≠ .sensor k
  | .b => (∀ k f, b ≠ .pack k f) ∧ ∀ f, b ≠ .charger f

/-- R88: the delivery of a skipped entry. -/
theorem roundStep_deliver {p : PortId} {e : PollEntry} (fits : fitsPort p e.binding) (n : Nat) (reason : SkipReason) (s : State) :
    RoundStep p n s (deliver e .skipped reason [] s) := by
  unfold deliver
  split
  · exact RoundStep.refl p n s
  · rw [if_neg (by simp)]
    exact RoundStep.refl p n s
  · next k f own =>
    cases p with
    | a => exact roundStep_packSkipped n k f _ s
    | b => exact absurd own (fits.1 k f)
  · next f own =>
    cases p with
    | a => exact roundStep_chargerSkipped n f _ s
    | b => exact absurd own (fits.2 f)
  · next k own =>
    cases p with
    | a => exact absurd own (fits k)
    | b =>
      have w := within_sensorDelivery k .skipped reason (wordOf []) s
      exact roundStep_of_within w (List.subset_cons_of_subset _ (List.subset_cons_self _ _)) (list_of_within w (by simp))
        (offered_of_within w (by simp)) (keeps_sensorDelivery k .skipped reason _ s)

/-- R88, R89: an entry that is skipped. -/
theorem roundStep_entryEnd {p : PortId} {l : PollList} {s : State} (own : (s.engine p).list = l)
    (fits : ∀ e ∈ l.entries, fitsPort p e.binding) (n m : Nat) (reason : SkipReason) :
    RoundStep p n s (entryEnd p m .skipped reason [] s) := by
  have entry : fitsPort p (entryOf (s.engine p).list m).binding := by
    rw [own]
    unfold entryOf
    rw [List.getD_eq_getElem?_getD]
    cases here : l.entries[m]? with
    | none => cases p <;> simp [fitsPort]
    | some e => exact fits e (List.mem_of_getElem? here)
  have watched : ∀ x, watchStep p m (entryOf (s.engine p).list m) .skipped [] x = x := fun x => by
    unfold watchStep
    split
    · rfl
    · exact if_neg (by simp)
  have written : ∀ (x : Engine) e, (writeRow m e .skipped reason [] x).list = x.list ∧
      (writeRow m e .skipped reason [] x).rows.length = x.rows.length := fun x e => ⟨rfl, List.length_set⟩
  have policy : ∀ (x : Engine) e, errorPolicy e .skipped x = x := fun x e => if_neg (by simp)
  unfold entryEnd
  dsimp only
  rw [watched, policy]
  exact ((roundStep_deliver entry n reason s).trans (roundStep_setEngine _ (written _ _).1 (written _ _).2)).trans
    (roundStep_setEngine _ rfl rfl)

theorem offerWork_poll_port (p : PortId) (m : Nat) (s : State) : Offered (s.port p) ((offerWork p (.poll m) s).port p) := by
  unfold offerWork
  split
  · next free =>
    show Offered _ ((updatingPort p (putOnBus (.poll m)) s).port p)
    rw [port_updatingPort]
    exact offered_putOnBus _ free.1
  · rw [port_updatingPort]
    exact offered_joinList _ _

/-- R72, R88: an entry offered to the arbiter. -/
theorem roundStep_offerEntry (p : PortId) (n m : Nat) (s : State) : RoundStep p n s (offerEntry p m s) := by
  have w : ∀ x, Within [.port p] x (offerWork p (.poll m) x) := fun x =>
    within_offerWork p (.poll m) x (by simp) fun _ e => Work.noConfusion e
  exact (roundStep_setEngine { s.engine p with position := m, offered := true } rfl rfl).trans
    (roundStep_of_within (w _) (by simpa using port_mem_roundParts p) (list_of_within (w _) (by simp)) (offerWork_poll_port p m _)
      (keeps_offerWork p _ _))

/-! ### The boundary -/

/-- R90, R131: the round end of port A at the pack monitor and the charge controller. -/
theorem roundStep_handRoundEnd (p : PortId) (n : Nat) (s : State) : RoundStep p n s (handRoundEnd p s) := by
  cases p with
  | b => exact RoundStep.refl .b n s
  | a =>
    have aged : RoundStep .a n s (packRoundEnd s) :=
      (roundStep_updatingPack n (.pack .pack0) .pack0 (fun x => agePack (x.pack .pack0)) s (keeps_ageOne .pack0 s)).trans
        (roundStep_updatingPack n (.pack .pack1) .pack1 (fun x => agePack (x.pack .pack1)) _ (keeps_ageOne .pack1 _))
    unfold handRoundEnd
    dsimp only
    split
    · exact aged.trans (roundStep_evaluate n _)
    · exact aged

/-- R90: the boundary of a round while no copy waits. -/
theorem roundStep_lastBoundary {p : PortId} {n : Nat} {s : State} (free : loadSlot s (pollTable p) = none) :
    RoundStep p n s (lastBoundary p s) := by
  have handed := roundStep_handRoundEnd p n s
  have none := handed.2.2.1.loads free
  unfold lastBoundary boundary
  dsimp only
  rw [none]
  refine handed.trans ((roundStep_setEngine { (handRoundEnd p s).engine p with
    prevOverrun := ((handRoundEnd p s).engine p).overrun } rfl rfl).trans ?_)
  unfold afterBoundary
  dsimp only
  split
  · exact RoundStep.refl p n _
  · split
    · exact RoundStep.refl p n _
    · rw [if_neg (by simp)]
      exact roundStep_updatingEngine (fun x => { x.engine p with round := .waiting }) rfl rfl

/-! ### The round -/

theorem roundStep_takeEntries {p : PortId} {l : PollList} (fits : ∀ e ∈ l.entries, fitsPort p e.binding) (n : Nat) :
    (es : List PollEntry) → (m : Nat) → (s : State) → (s.engine p).list = l → loadSlot s (pollTable p) = none →
      RoundStep p n s (takeEntries p (lastBoundary p) m es s)
  | [], _, _, _, free => roundStep_lastBoundary free
  | e :: rest, m, s, own, free => by
    have skipped : ∀ reason, RoundStep p n s (takeEntries p (lastBoundary p) (m + 1) rest (entryEnd p m .skipped reason [] s)) :=
      fun reason =>
        have step := roundStep_entryEnd own fits n m reason
        step.trans (roundStep_takeEntries fits n rest (m + 1) _ (step.1.trans own) (step.2.2.1.loads free))
    unfold takeEntries
    split
    · split
      · exact skipped _
      · split
        · exact roundStep_offerEntry p n m s
        · exact skipped _
    · exact roundStep_takeEntries fits n rest (m + 1) s own free

theorem roundStep_portRoundStart (p : PortId) (n : Nat) (s : State) : RoundStep p n s (portRoundStart p s) := by
  have port : Offered (s.port p) ((portRoundStart p s).port p) := by
    unfold portRoundStart
    split
    · rw [port_updatingPort]
      exact ⟨⟨rfl, rfl, rfl⟩, fun _ => ⟨rfl, rfl⟩, .inl⟩
    · exact Offered.refl _
  exact roundStep_of_within (within_portRoundStart p s) (by simpa using port_mem_roundParts p)
    (list_of_within (within_portRoundStart p s) (by simp)) port (keeps_portRoundStart p s)

theorem roundStep_packRoundStart (n : Nat) (s : State) : RoundStep .a n s (packRoundStart s) := by
  have one : ∀ k x, RoundStep .a n x (if retryDue (x.pack k) then startProbe k x else x) := fun k x => by
    split
    · exact roundStep_startProbe n k x
    · exact RoundStep.refl .a n x
  exact (one .pack0 s).trans (one .pack1 _)

/-- R87: the round that an adoption starts. -/
theorem roundStep_nextRound {p : PortId} {l : PollList} {s : State} (own : (s.engine p).list = l)
    (fits : ∀ e ∈ l.entries, fitsPort p e.binding) (free : loadSlot s (pollTable p) = none) (n : Nat) :
    RoundStep p n s (nextRound p s) := by
  have begun : RoundStep p n s (updating (.port p) (fun x => x.setEngine p (beginRound (nextNumber s p) x (x.engine p))) s) :=
    roundStep_updatingEngine (fun x => beginRound (nextNumber s p) x (x.engine p)) rfl rfl
  have started := begun.trans (roundStep_portRoundStart p n _)
  unfold nextRound startRound
  dsimp only
  cases p with
  | a =>
    have probed := started.trans (roundStep_packRoundStart n _)
    exact probed.trans (roundStep_takeEntries fits n _ 0 _ (probed.1.trans own) (probed.2.2.1.loads free))
  | b => exact started.trans (roundStep_takeEntries fits n _ 0 _ (started.1.trans own) (started.2.2.1.loads free))

end Sys2Proof.Proofs.AdoptionRounds
end

section
/-! PROOF. The adoption of a poll list (R62, R85, R86, R97): its bindings, the port by the header, the remote slots. -/
set_option Elab.async false

namespace Sys2Proof.Proofs.ListAdoption

open Sys2Proof Sys2Proof.Machine Sys2Proof.Safety Sys2Proof.Laws Sys2Proof.Proofs.Frames Sys2Proof.Proofs.Updates
  Sys2Proof.Proofs.Units Sys2Proof.Proofs.ScanModes Sys2Proof.Proofs.Completion Sys2Proof.Proofs.PortRequests
  Sys2Proof.Proofs.Probes Sys2Proof.Proofs.Recovery Sys2Proof.Proofs.RoundTimer Sys2Proof.Proofs.Measurements
  Sys2Proof.Proofs.ProbeSteps
  Sys2Proof.Proofs.MonitorWork Sys2Proof.Proofs.ProfileAdoption Sys2Proof.Proofs.TableLoads Sys2Proof.Proofs.AdoptionRounds

/-! ### A list that passes its validation (R85, R86) -/

theorem firstFailure_eq_none : {l : List Check} → (firstFailure l = none ↔ ∀ c ∈ l, c.1 = false)
  | [] => by simp [firstFailure]
  | (true, r, d) :: rest => by simp [firstFailure]
  | (false, r, d) :: rest => by
    rw [show firstFailure ((false, r, d) :: rest) = firstFailure rest from rfl, firstFailure_eq_none]
    simp

/-- R85: what a valid list binds. -/
theorem fitsPort_of_valid {m : Memory} {p : PortId} {c : ChargeProfile} {packs : Nat}
    (valid : checkPollList m (pollTable p) c packs = none) : ∀ e ∈ (readPollList m (pollTable p)).entries, fitsPort p e.binding := by
  intro e own
  unfold checkPollList at valid
  dsimp only at valid
  rw [firstFailure_eq_none] at valid
  obtain ⟨n, here, rfl⟩ := List.mem_map.mp own
  have bound : badBinding m (pollTable p) n = false := valid (badBinding m (pollTable p) n, .badBinding, n)
    (List.mem_append_left _ (List.mem_append_right _ (List.mem_flatMap.mpr ⟨n, here, by simp [entryChecks]⟩)))
  unfold badBinding at bound
  dsimp only at bound
  rw [Bool.or_eq_false_iff, Bool.or_eq_false_iff] at bound
  obtain ⟨⟨_, binding⟩, _⟩ := bound
  cases p with
  | a =>
    intro k sensor
    rw [sensor] at binding
    simp [pollTable] at binding
  | b =>
    refine ⟨fun k f pack => ?_, fun f charger => ?_⟩
    · rw [pack] at binding
      simp [pollTable] at binding
    · rw [charger] at binding
      simp [pollTable] at binding

/-- R86: the cross-check of a valid list passes at the adoption too. -/
theorem crossCheck_of_valid {m : Memory} {p : PortId} {c : ChargeProfile} {packs : Nat}
    (valid : checkPollList m (pollTable p) c packs = none) :
    (if p = .a then crossCheck (readPollList m (pollTable p)) c packs else none) = none := by
  cases p with
  | b => rfl
  | a =>
    rw [if_pos rfl]
    unfold checkPollList at valid
    dsimp only at valid
    rw [firstFailure_eq_none] at valid
    unfold crossCheck
    rw [firstFailure_eq_none]
    intro check own
    refine valid check (List.mem_append_right _ ?_)
    rw [if_pos (show pollTable .a = .pollA from rfl)]
    exact List.mem_append_right _ own

theorem validate_pollTable (p : PortId) (s : State) :
    validate (pollTable p) s = checkPollList s.mem (pollTable p) s.chg.profile s.power.straps.packCount := by cases p <;> rfl

/-! ### The header (R57, R62) -/

theorem enterDisabled_port (p : PortId) (s : State) : (enterDisabled p s).port p = { emptyLists (s.port p) with
    state := .disabled, attempts := 0, retryMs := none, running := false, disableDue := false, granted := none
    starting := false, second := false, busReset := none } := by
  have emptied := port_updatingPort p (fun x => { emptyLists x with
    state := .disabled, attempts := 0, retryMs := none, running := false, disableDue := false, granted := none
    starting := false, second := false }) s
  have refused := refuseWaiting_port (p := p) (.inr (congrArg Port.state emptied)) (s.port p) 2
  rw [emptied] at refused
  unfold enterDisabled
  dsimp only
  rw [portCause_shut true (.inr (congrArg Port.state refused)), refused]

/-- The port with the fields of an adopted header. -/
def headed (l : PollList) (x : Port) : Port := { x with fast := l.fast, clockLow := l.clockLow }

/-- R62: an enabled port before work is offered to it. -/
def enabled (x : Port) : Port :=
  if x.state = .disabled then { x with state := .idle, attempts := 0 } else { x with disableDue := false }

theorem portCause_offered (p : PortId) (b : Bool) (s : State) : Offered (s.port p) ((portCause p b s).port p) := by
  cases p with
  | a => exact offered_of_regrouped (regrouped_setPortCause b s)
  | b => exact Offered.refl _

theorem enablePort_port (p : PortId) (s : State) : Offered (enabled (s.port p)) ((enablePort p s).port p) := by
  unfold enablePort enabled
  split
  · have idle := port_updatingPort p (fun x => { x with state := .idle, attempts := 0 }) s
    rw [← idle]
    exact portCause_offered p false _
  · rw [port_setPort]
    exact Offered.refl _

theorem takeHeader_on {l : PollList} (on : l.enable = true) (p : PortId) (s : State) :
    Offered (enabled (headed l (s.port p))) ((takeHeader p l s).port p) ∧ Within (.port p :: charging) s (takeHeader p l s) := by
  have head := port_updatingPort p (fun x => { x with fast := l.fast, clockLow := l.clockLow }) s
  have w := within_updatingPort p (fun x => { x with fast := l.fast, clockLow := l.clockLow }) s
  unfold takeHeader
  dsimp only
  rw [if_pos on]
  refine ⟨?_, (w.then (within_enablePort p _)).mono (by cases p <;> simp)⟩
  have ported := enablePort_port p (updatingPort p (fun x => { x with fast := l.fast, clockLow := l.clockLow }) s)
  rw [head] at ported
  exact ported

/-- R62: a port that its list has turned off. -/
theorem disablePort_port (p : PortId) (s : State) : let x := s.port p
    let y := (disablePort p s).port p
    (y.fast = x.fast ∧ y.clockLow = x.clockLow) ∧
    (x.state = .idle ∨ (x.state = .recovering ∨ x.state = .halted) ∧ x.running = false → y.state = .disabled) ∧
    (x.state = .busy ∨ (x.state = .recovering ∨ x.state = .halted) ∧ x.running = true →
      y.state = x.state ∧ y.disableDue = true) := by
  have shut := enterDisabled_port p s
  unfold disablePort
  dsimp only
  cases state : (s.port p).state with
  | disabled => simp [state]
  | idle =>
    dsimp only
    rw [shut]
    exact ⟨⟨rfl, rfl⟩, fun _ => rfl, fun h => by simp at h⟩
  | busy =>
    dsimp only
    rw [port_setPort]
    exact ⟨⟨rfl, rfl⟩, fun h => by simp at h, fun _ => ⟨rfl, rfl⟩⟩
  | recovering | halted =>
    dsimp only
    cases runs : (s.port p).running with
    | true =>
      rw [if_pos rfl, port_setPort]
      exact ⟨⟨rfl, rfl⟩, fun h => by simp at h, fun _ => ⟨rfl, rfl⟩⟩
    | false =>
      rw [if_neg (by simp), shut]
      exact ⟨⟨rfl, rfl⟩, fun _ => rfl, fun h => by simp at h⟩

/-! ### A header that turns the port off ends requests only -/

theorem ends_refuseHosts (n d : Nat) : (l : List Nat) → (s : State) → Ends n s (refuseHosts d l s)
  | [], s => Ends.refl n s
  | m :: rest, s => (ends_completeSlot n m .portHalted d (fitsSlot_byte 8 0#8 (by decide)) s).trans (ends_refuseHosts n d rest _)

theorem ends_probeStepEnd (n : Nat) {o : BusOutcome} (bad : o ≠ .ok) (u : ProbeUnit) (d : List Byte) (s : State) :
    Ends n s (probeStepEnd u o d s) := by
  cases runs : (s.pack u.pack).probe with
  | none =>
    rw [probeStepEnd_idle (.inr runs)]
    exact Ends.refl n s
  | some run =>
    cases live : u.orphan with
    | true =>
      rw [probeStepEnd_idle (.inl live)]
      exact Ends.refl n s
    | false =>
      rw [(probeStepEnd_cases live runs o d).1 bad]
      exact ends_probeFails n _ _ _ s

theorem ends_refuseProbes (n : Nat) : (l : List ProbeUnit) → (s : State) → Ends n s (refuseProbes l s)
  | [], s => Ends.refl n s
  | u :: rest, s => ((ends_probeBegun n u.pack s).trans (ends_probeStepEnd n (by simp) u [] _)).trans (ends_refuseProbes n rest _)

theorem ends_endBusReset (n : Nat) (p : PortId) (r : Result) (d : Nat) (s : State) : Ends n s (endBusReset p r d s) := by
  unfold endBusReset
  split
  · exact Ends.refl n s
  · exact (ends_of_within (within_setPort p _ s) (by simp) (by simp) (by simp)
      (keeps_setPort p { s.port p with busReset := none } s id)).trans (ends_completeSlot n _ r d fitsSlot_nil _)

theorem ends_portCause (n : Nat) (p : PortId) (b : Bool) (s : State) : Ends n s (portCause p b s) :=
  ends_of_within (within_portCause p b s) (by simp) (by simp) (by simp) (keeps_portCause p b s)

theorem ends_enterDisabled (n : Nat) (p : PortId) (s : State) : Ends n s (enterDisabled p s) := by
  have emptied := ends_of_within (n := n) (within_updatingPort p (fun x => { emptyLists x with
    state := .disabled, attempts := 0, retryMs := none, running := false, disableDue := false, granted := none
    starting := false, second := false }) s) (by simp) (by simp) (by simp)
    (keeps_updatingPort _ _ s fun x h => emptyLists_fairness x h)
  have grouped : ∀ x, Ends n x (refuseGroup (s.port p).charger x) := fun x =>
    ends_of_within (within_refuseGroup _ x) (by simp) (by simp) (by simp) (keeps_refuseGroup _ x)
  exact ((((emptied.trans (ends_refuseHosts n 2 (s.port p).hosts _)).trans (grouped _)).trans
    (ends_refuseProbes n (s.port p).probes _)).trans (ends_endBusReset n p .busStuck 2 _)).trans (ends_portCause n p true _)

theorem ends_disablePort (n : Nat) (p : PortId) (s : State) : Ends n s (disablePort p s) := by
  have later := ends_of_within (n := n) (within_setPort p { s.port p with disableDue := true } s) (by simp) (by simp) (by simp)
    (keeps_setPort p { s.port p with disableDue := true } s id)
  have shut := ends_enterDisabled n p s
  unfold disablePort
  dsimp only
  split
  · exact Ends.refl n s
  · exact shut
  · exact later
  · split
    · exact later
    · exact shut
  · split
    · exact later
    · exact shut

theorem ends_takeHeader (n : Nat) (p : PortId) (l : PollList) (s : State) : Ends n s (takeHeader p l s) := by
  have head := ends_of_within (n := n) (within_updatingPort p (fun x => { x with fast := l.fast, clockLow := l.clockLow }) s)
    (by simp) (by simp) (by simp) (keeps_updatingPort _ _ s fun _ h => h)
  cases on : l.enable with
  | true => exact ends_of_within (takeHeader_on on p s).2 (by simp) (by simp) (by simp) (keeps_takeHeader p l s)
  | false =>
    unfold takeHeader
    dsimp only
    rw [if_neg (by rw [on]; decide)]
    exact head.trans (ends_disablePort n p _)

/-! ### The remote slots (R149) -/

theorem tripActive_setSlot_still {s : State} {n : Nat} {x : Slot} (same : x.tripped = (slotOf s n).tripped) :
    (setSlot n x s).tripActive = s.tripActive := by
  rw [Bool.eq_iff_iff]
  constructor
  · intro trips
    obtain ⟨y, own, on⟩ := List.any_eq_true.mp trips
    rcases List.mem_or_eq_of_mem_set own with old | new
    · exact List.any_eq_true.mpr ⟨y, old, on⟩
    · exact slot_trips (n := n) (by rw [← same, ← new]; exact on)
  · intro trips
    obtain ⟨y, own, on⟩ := List.any_eq_true.mp trips
    obtain ⟨i, short, eq⟩ := List.getElem_of_mem own
    refine List.any_eq_true.mpr ⟨(s.th.slots.set n x)[i]'(by simpa using short), List.getElem_mem _, ?_⟩
    rw [List.getElem_set]
    split
    · next at_ =>
      have here : slotOf s n = y := by
        unfold slotOf
        rw [at_, List.getD_eq_getElem?_getD, List.getElem?_eq_getElem short, Option.getD_some, eq]
      rw [same, here]
      exact on
    · rw [eq]
      exact on

/-- R149, R152: an event of a slot that leaves its trip as it was. -/
theorem within_slotChange_still (n : Nat) (x : Slot) {s : State} (same : x.tripped = (slotOf s n).tripped) :
    Within [.th, .causes, .mem, .ring, .queue, .chg, .port .a] s (slotChange n false x s) := by
  have events := low_slotEvents n false x s
  have set_ : Within [.th] s (updating (.sensor n) (setSlot n x) s) := within_updating _ (within_setSlot n x s)
  have raised : Within [.th] s (updatingFans (fun y => raiseFans s.tripActive
      (if false = true then publish (.sensor n) (setSlot n x y) else updating (.sensor n) (setSlot n x) y)) s) :=
    within_updatingFans (set_.trans (within_raiseFans _ _))
  have told := (raised.then (within_thermalNotice n (slotEvent (slotOf s n).state x.state) _)).then
    (within_thermalNotice n (tripEvent (slotOf s n).tripped x.tripped) _)
  have frame := told.mono (W := [.th, .causes, .mem, .ring, .queue, .chg, .port .a]) (by simp)
  have trip := (tripActive_of_slots events.slots).trans (tripActive_setSlot_still same)
  unfold slotChange
  dsimp only
  generalize thermalNotice n (tripEvent (slotOf s n).tripped x.tripped) (thermalNotice n (slotEvent (slotOf s n).state x.state)
    (updatingFans (fun y => raiseFans s.tripActive
      (if false = true then publish (.sensor n) (setSlot n x y) else updating (.sensor n) (setSlot n x) y)) s)) = b at frame trip ⊢
  have stays : tripChange s.tripActive b = b := if_pos trip.symm
  rw [stays]
  split
  · exact frame.next (within_redecideDcs b) (by simp)
  · exact frame

theorem slotUnbound_eq (x : Slot) : (slotUnbound x).missCount = 3 ∧ (slotUnbound x).reading = x.reading ∧
    (slotUnbound x).tripped = x.tripped ∧ (slotUnbound x).state = if x.state = .failed then .failed else .stale := by
  unfold slotUnbound
  cases x with
  | mk state => cases state <;> simp

/-- R149: whether an adopted list leaves an enabled slot without an entry. -/
def unbinds (l : PollList) (s : State) (n : Nat) : Bool :=
  (slotConfig s n).enable && !(l.enable && l.entries.any fun e => e.binding == .sensor n)

/-- R149: one remote slot at an adoption. -/
def unbindSlot (l : PollList) (n : Nat) (s : State) : State :=
  if unbinds l s n = true then slotChange n false (slotUnbound (slotOf s n)) s else s

theorem unbindSlots_cons (l : PollList) (n : Nat) (rest : List Nat) (s : State) :
    unbindSlots l (n :: rest) s = unbindSlots l rest (unbindSlot l n s) := rfl

theorem unbindSlot_outcome (l : PollList) (n : Nat) (s : State) : (unbindSlot l n s).th.table = s.th.table ∧
    (unbindSlot l n s).th.slots = (if unbinds l s n = true then s.th.slots.set n (slotUnbound (slotOf s n)) else s.th.slots) ∧
    Within [.th, .causes, .mem, .ring, .queue, .chg, .port .a] s (unbindSlot l n s) := by
  unfold unbindSlot
  split
  · obtain ⟨_, slots, table, _⟩ := slotChange_outcome n false (slotUnbound (slotOf s n)) s
    exact ⟨table, slots, within_slotChange_still n _ (slotUnbound_eq _).2.2.1⟩
  · exact ⟨rfl, rfl, Within.refl _ s⟩

/-- R149: the remote slots at an adoption: each that no entry binds is stale. -/
theorem unbindSlots_outcome (l : PollList) : (ns : List Nat) → ns.Nodup → (s : State) → let t := unbindSlots l ns s
    Within [.th, .causes, .mem, .ring, .queue, .chg, .port .a] s t ∧
      ∀ n x, s.th.slots[n]? = some x →
        t.th.slots[n]? = some (if n ∈ ns ∧ unbinds l s n = true then slotUnbound x else x)
  | [], _, s => ⟨Within.refl _ s, fun n x own => by simpa [unbindSlots] using own⟩
  | m :: rest, once, s => by
    obtain ⟨fresh, once'⟩ := List.nodup_cons.mp once
    obtain ⟨table, slots, w⟩ := unbindSlot_outcome l m s
    obtain ⟨w', each⟩ := unbindSlots_outcome l rest once' (unbindSlot l m s)
    have config : ∀ n, unbinds l (unbindSlot l m s) n = unbinds l s n := fun n => by
      unfold unbinds slotConfig
      rw [table]
    rw [unbindSlots_cons]
    refine ⟨w.trans w', fun n x own => ?_⟩
    have here : slotOf s n = x := by
      unfold slotOf
      rw [List.getD_eq_getElem?_getD, own]
      rfl
    by_cases same : n = m
    · subst same
      have first : (unbindSlot l n s).th.slots[n]? = some (if unbinds l s n = true then slotUnbound x else x) := by
        rw [slots]
        split
        · rw [List.getElem?_set_self (List.getElem?_eq_some_iff.mp own).1, here]
        · exact own
      rw [each n _ first, if_neg (by simp [fresh])]
      simp
    · have first : (unbindSlot l m s).th.slots[n]? = some x := by
        rw [slots]
        split
        · rw [List.getElem?_set_ne (fun h => same h.symm)]
          exact own
        · exact own
      rw [each n x first, config]
      simp [same]

end Sys2Proof.Proofs.ListAdoption
end

section
/-! PROOF. A poll list that its port's engine takes at once (R62, R97, R149, R193). -/
set_option Elab.async false

namespace Sys2Proof.Proofs.ListLoads

open Sys2Proof Sys2Proof.Machine Sys2Proof.Safety Sys2Proof.Laws Sys2Proof.Proofs.Frames Sys2Proof.Proofs.Updates
  Sys2Proof.Proofs.Units Sys2Proof.Proofs.ScanModes Sys2Proof.Proofs.Completion Sys2Proof.Proofs.PortRequests
  Sys2Proof.Proofs.RoundTimer Sys2Proof.Proofs.MonitorWork Sys2Proof.Proofs.ProfileAdoption Sys2Proof.Proofs.TableLoads
  Sys2Proof.Proofs.AdoptionRounds Sys2Proof.Proofs.ListAdoption

/-! ### The port by the header -/

theorem enablePort_same {p : PortId} {s : State} (live : (s.port p).state ≠ .disabled) :
    (enablePort p s).port p = enabled (s.port p) := by
  unfold enablePort enabled
  rw [if_neg live, if_neg live, port_setPort]

theorem takeHeader_same {l : PollList} (on : l.enable = true) {p : PortId} {s : State} (live : (s.port p).state ≠ .disabled) :
    (takeHeader p l s).port p = enabled (headed l (s.port p)) := by
  have head := port_updatingPort p (fun x => { x with fast := l.fast, clockLow := l.clockLow }) s
  unfold takeHeader
  dsimp only
  rw [if_pos on, enablePort_same (by rw [head]; exact live), head]
  rfl

theorem enabled_state (l : PollList) (x : Port) : (enabled (headed l x)).state = if x.state = .disabled then .idle else x.state := by
  by_cases disabled : x.state = .disabled
  · have eq : enabled (headed l x) = { headed l x with state := .idle, attempts := 0 } := if_pos disabled
    rw [eq, if_pos disabled]
  · have eq : enabled (headed l x) = { headed l x with disableDue := false } := if_neg disabled
    rw [eq, if_neg disabled]
    rfl

/-- R62, R97: a port whose list is on, before a round starts or after. -/
theorem port_on {l : PollList} {x y : Port} (offered : Offered (enabled (headed l x)) y) :
    (y.fast = l.fast ∧ y.clockLow = l.clockLow) ∧
    (x.state = .disabled ∨ x.state = .idle → y.state = .idle ∨ y.state = .busy ∧ y.granted.isSome = true) ∧
    (x.state ≠ .disabled → x.state ≠ .idle → y.state = x.state) ∧ (x.state ≠ .disabled → y.disableDue = false) := by
  obtain ⟨⟨fast, low, due⟩, busy, idle⟩ := offered
  by_cases disabled : x.state = .disabled
  · have z : enabled (headed l x) = { headed l x with state := .idle, attempts := 0 } := if_pos disabled
    rw [z] at fast low idle
    exact ⟨⟨fast, low⟩, fun _ => idle rfl, fun h => absurd disabled h, fun h => absurd disabled h⟩
  · have z : enabled (headed l x) = { headed l x with disableDue := false } := if_neg disabled
    rw [z] at fast low due busy idle
    exact ⟨⟨fast, low⟩, fun h => idle (h.resolve_left disabled), fun _ other => (busy other).1, fun _ => due⟩

/-! ### The remote slots -/

/-- R149: what an adoption of POLL_B leaves of a slot. -/
def slotAfter (l : PollList) (s : State) (n : Nat) (x : Slot) : Slot :=
  if n ∈ [2, 3, 4, 5] ∧ unbinds l s n = true then slotUnbound x else x

theorem unboundSlots_outcome (p : PortId) (l : PollList) (s : State) : let t := unboundSlots p l s
    Within [.th, .causes, .mem, .ring, .queue, .chg, .port .a] s t ∧ (p = .a → t = s) ∧
      (p = .b → ∀ n x, s.th.slots[n]? = some x → t.th.slots[n]? = some (slotAfter l s n x)) := by
  cases p with
  | a => exact ⟨Within.refl _ s, fun _ => rfl, fun h => (nomatch h)⟩
  | b =>
    obtain ⟨w, each⟩ := unbindSlots_outcome l [2, 3, 4, 5] (by decide) s
    exact ⟨w, fun h => (nomatch h), fun _ => each⟩

theorem unbinds_iff (l : PollList) (s : State) (n : Nat) : unbinds l s n = true ↔
    (slotConfig s n).enable = true ∧ (l.enable = false ∨ ∀ e ∈ l.entries, e.binding ≠ .sensor n) := by
  unfold unbinds
  cases l.enable <;> simp

theorem slotAfter_spec (l : PollList) (s : State) (n : Nat) (x : Slot) {o : Option Slot} (own : o = some (slotAfter l s n x)) :
    if 2 ≤ n ∧ n ≤ 5 ∧ (slotConfig s n).enable = true ∧ (l.enable = false ∨ ∀ e ∈ l.entries, e.binding ≠ .sensor n) then
      ∃ y, o = some y ∧ y.missCount = 3 ∧ y.reading = x.reading ∧ y.tripped = x.tripped ∧
        y.state = (if x.state = .failed then .failed else .stale)
    else o = some x := by
  have remote : n ∈ [2, 3, 4, 5] ↔ 2 ≤ n ∧ n ≤ 5 := by
    simp
    omega
  have gone : (2 ≤ n ∧ n ≤ 5 ∧ (slotConfig s n).enable = true ∧ (l.enable = false ∨ ∀ e ∈ l.entries, e.binding ≠ .sensor n)) ↔
      n ∈ [2, 3, 4, 5] ∧ unbinds l s n = true := by
    rw [unbinds_iff, remote, and_assoc]
  unfold slotAfter at own
  split
  · next here =>
    rw [if_pos (gone.mp here)] at own
    obtain ⟨misses, reading, tripped, state⟩ := slotUnbound_eq x
    exact ⟨slotUnbound x, own, misses, reading, tripped, state⟩
  · next stays =>
    rw [if_neg fun h => stays (gone.mpr h)] at own
    exact own

/-! ### The adoption -/

/-- R97, steps 1 to 3: the list and the rows taken, the request ended. -/
def listed (p : PortId) (l : PollList) (n : Nat) (s : State) : State :=
  completeSlot n .ok 0 [(1, [0#8])] ((holding n (.load (pollTable p)) s).setEngine p (takeList l (s.engine p)))

/-- R97, steps 4 to 6: the port and the remote slots by the new list. -/
def settled (p : PortId) (l : PollList) (n : Nat) (s : State) : State := unboundSlots p l (takeHeader p l (listed p l n s))

theorem listed_outcome {p : PortId} {n : Nat} {s : State} (wf : memoryCanonical s) (free : loadSlot s (pollTable p) = none) (l : PollList) :
    let t := listed p l n s
    Within (.engine p :: completing n) s t ∧ t.engine p = takeList l (s.engine p) ∧ doneWith t n .ok 0 ∧
      memoryCanonical t ∧ loadSlot t (pollTable p) = none := by
  have held := within_holding n (.load (pollTable p)) s
  have set_ := within_setEngine p (takeList l (s.engine p)) (holding n (.load (pollTable p)) s)
  have done := fun x => within_completeSlot n .ok 0 [(1, [0#8])] x (fitsByte 0#8)
  have canonical : memoryCanonical ((holding n (.load (pollTable p)) s).setEngine p (takeList l (s.engine p))) := by
    unfold memoryCanonical
    rw [set_.mem (by simp)]
    exact canonical_taken wf n
  refine ⟨((held.then set_).then (done _)).mono (by simp), ((done _).engine p (by simp)).trans (engine_setEngine p _ _),
    doneWith_completeSlot canonical n _ (by decide) _, (keeps_completeSlot n .ok 0 _ _).memory canonical,
    loadSlot_completed free (.load (pollTable p)) _ _ _ ?_⟩
  exact set_.posted (by simp)

theorem adoptList_valid {p : PortId} {n : Nat} {s : State} {l : PollList}
    (own : readPollList (holding n (.load (pollTable p)) s).mem (pollTable p) = l)
    (valid : validate (pollTable p) (holding n (.load (pollTable p)) s) = none) :
    adoptList p n (holding n (.load (pollTable p)) s) = (if l.enable = true then settled p l n s
      else updating (.port p) (fun x => x.setEngine p (stopEngine (x.engine p))) (settled p l n s), true) := by
  have engine : (holding n (.load (pollTable p)) s).engine p = s.engine p := (within_holding n _ s).engine p (by simp)
  have crossed := crossCheck_of_valid ((validate_pollTable p _).symm.trans valid)
  unfold adoptList
  dsimp only
  rw [crossed]
  dsimp only
  rw [own, engine]
  rfl

/-- R97: the three ways of an adoption at once. -/
theorem adoptNow_cases {p : PortId} {n : Nat} {s : State} {l : PollList}
    (own : readPollList (holding n (.load (pollTable p)) s).mem (pollTable p) = l)
    (valid : validate (pollTable p) (holding n (.load (pollTable p)) s) = none) (listOf : ((settled p l n s).engine p).list = l)
    (idle : (s.engine p).round ≠ .running) : let u := ownerTakes (pollTable p) n (holding n (.load (pollTable p)) s)
    (l.enable = true → (s.engine p).round = .waiting → u = restartInterval p (settled p l n s)) ∧
    (l.enable = true → (s.engine p).round = .stopped → u = nextRound p (settled p l n s)) ∧
    (l.enable = false → u = updating (.port p) (fun x => x.setEngine p (stopEngine (x.engine p))) (settled p l n s)) := by
  have engine : (holding n (.load (pollTable p)) s).engine p = s.engine p := (within_holding n _ s).engine p (by simp)
  have load : ownerTakes (pollTable p) n (holding n (.load (pollTable p)) s) = adoptNow p n (holding n (.load (pollTable p)) s) := by
    have taken : ownerTakes (pollTable p) n (holding n (.load (pollTable p)) s) =
        loadList p n (holding n (.load (pollTable p)) s) := by cases p <;> rfl
    rw [taken]
    exact if_neg (by rw [engine]; exact idle)
  dsimp only
  rw [load]
  unfold adoptNow
  rw [adoptList_valid own valid, engine]
  refine ⟨fun on waits => ?_, fun on stopped => ?_, fun off => ?_⟩
  · dsimp only
    rw [if_pos on, if_pos ⟨rfl, by rw [listOf]; exact on⟩, waits]
    rfl
  · dsimp only
    rw [if_pos on, if_pos ⟨rfl, by rw [listOf]; exact on⟩, stopped]
    rfl
  · have list : ((updating (.port p) (fun x => x.setEngine p (stopEngine (x.engine p))) (settled p l n s)).engine p).list = l := by
      rw [engine_updating p (fun x => stopEngine (x.engine p))]
      exact listOf
    rw [if_neg (show ¬ l.enable = true by rw [off]; decide)]
    dsimp only
    exact if_neg (by rw [list, off]; simp)

/-! ### The state before the engine goes on -/

/-- R97: whatever the header says, the list is the engine's, the port is the header's, requests only end. -/
theorem settled_outcome {p : PortId} {n : Nat} {s : State} (wf : memoryCanonical s) (free : loadSlot s (pollTable p) = none)
    (l : PollList) : let x := settled p l n s
    x.engine p = takeList l (s.engine p) ∧ x.port p = (takeHeader p l (listed p l n s)).port p ∧ Ends n (listed p l n s) x ∧
      (p = .a → x.th = s.th) ∧ (p = .b → ∀ m y, s.th.slots[m]? = some y → x.th.slots[m]? = some (slotAfter l s m y)) := by
  obtain ⟨w, engine, _, _, _⟩ := listed_outcome (n := n) wf free l
  have head := within_takeHeader p l (listed p l n s)
  obtain ⟨remote, same, each⟩ := unboundSlots_outcome p l (takeHeader p l (listed p l n s))
  have th : (takeHeader p l (listed p l n s)).th = s.th := (head.th (by simp)).trans (w.th (by simp))
  refine ⟨(remote.engine p (by simp)).trans ((head.engine p (by simp)).trans engine), ?_,
    (ends_takeHeader n p l _).trans (ends_of_within remote (by simp) (by simp) (by simp) (keeps_unboundSlots p l _)),
    fun a => (congrArg State.th (same a)).trans th, fun b m y own => ?_⟩
  · cases p with
    | a => exact congrArg (State.port · .a) (same rfl)
    | b => exact remote.port .b (by simp)
  · have after := each b m y (by rw [th]; exact own)
    unfold slotAfter unbinds slotConfig at after ⊢
    rw [th] at after
    exact after

/-- What the adoption of a list with its port on changes. -/
@[simp] def listOnParts (p : PortId) : List Part := .th :: .port p :: charging

theorem settled_on {l : PollList} (on : l.enable = true) (p : PortId) (n : Nat) (s : State) :
    Within (listOnParts p) (listed p l n s) (settled p l n s) ∧ Keeps true (listed p l n s) (settled p l n s) := by
  obtain ⟨_, head⟩ := takeHeader_on on p (listed p l n s)
  obtain ⟨remote, _, _⟩ := unboundSlots_outcome p l (takeHeader p l (listed p l n s))
  exact ⟨(head.then remote).mono (by simp), (keeps_takeHeader p l _).trans (keeps_unboundSlots p l _)⟩

/-- R149: the remote slots, while what follows leaves them alone. -/
theorem slots_adopted {p : PortId} {l : PollList} {s x u : State} (th : u.th = x.th) (same : p = .a → x.th = s.th)
    (each : p = .b → ∀ m y, s.th.slots[m]? = some y → x.th.slots[m]? = some (slotAfter l s m y)) :
    (p = .a → u.th = s.th) ∧ (p = .b → ∀ n x, s.th.slots[n]? = some x →
      if 2 ≤ n ∧ n ≤ 5 ∧ (slotConfig s n).enable = true ∧ (l.enable = false ∨ ∀ e ∈ l.entries, e.binding ≠ .sensor n) then
        ∃ y, u.th.slots[n]? = some y ∧ y.missCount = 3 ∧ y.reading = x.reading ∧ y.tripped = x.tripped ∧
          y.state = (if x.state = .failed then .failed else .stale)
      else u.th.slots[n]? = some x) := by
  rw [th]
  exact ⟨same, fun b m y own => slotAfter_spec l s m y (each b m y own)⟩

/-- R97, R193: what a poll list adopted at once leaves. -/
def listTaken (p : PortId) (n : Nat) (l : PollList) (s u : State) : Prop :=
  listAdopted p l s u ∧ slotState u n = slotDone ∧ isHeld u n = false ∧
    (l.enable = true → p = .b ∨ s.portA.state ≠ .halted → doneWith u n .ok 0 ∧ sameButSlotAndQueue n s u) ∧
    (l.enable = true → (s.engine p).round = .waiting → samePacks s u ∧ u.power = s.power ∧ u.kbd = s.kbd)

/-! ### A round that waits -/

theorem intervalFor_congr {s t : State} (chg : t.chg = s.chg) (power : t.power = s.power) (l : PollList) :
    intervalFor t l = intervalFor s l := by
  unfold intervalFor
  rw [chg, power]

theorem listTaken_waiting {p : PortId} {n : Nat} {s : State} {l : PollList} (wf : memoryCanonical s)
    (free : loadSlot s (pollTable p) = none) (on : l.enable = true) (waits : (s.engine p).round = .waiting) :
    listTaken p n l s (restartInterval p (settled p l n s)) := by
  obtain ⟨first, _, done, canonical, _⟩ := listed_outcome (n := n) wf free l
  obtain ⟨engine, port, ends, still, each⟩ := settled_outcome (n := n) wf free l
  obtain ⟨w, keeps⟩ := settled_on on p n s
  have offered := (takeHeader_on on p (listed p l n s)).1
  have same_ : ((listed p l n s).port p).state ≠ .disabled →
      (takeHeader p l (listed p l n s)).port p = enabled (headed l ((listed p l n s).port p)) := takeHeader_same on
  rw [← port, first.port p (by simp)] at offered same_
  generalize settled p l n s = x at engine port ends still each w keeps offered same_ ⊢
  have restart := within_restartInterval p x
  have timer : (restartInterval p x).engine p = { x.engine p with
      round := .waiting, timerMs := some 0, interval := intervalFor x (x.engine p).list } := engine_updating p _ x
  have interval := intervalFor_congr (restart.chg (by simp)) (restart.power (by simp)) l
  have keepsTimer := keeps_restartInterval p x
  generalize restartInterval p x = u at restart timer interval keepsTimer ⊢
  rw [engine] at timer
  rw [← restart.port p (by simp)] at offered same_
  have frame := (first.then w).then restart
  obtain ⟨fast, disabled, busy, due⟩ := port_on offered
  have slots := slots_adopted (restart.th (by simp)) still each
  have last := ends.trans (ends_of_within restart (by simp) (by simp) (by simp) keepsTimer)
  refine ⟨⟨by rw [timer]; rfl, fast.1, fast.2, fun _ _ => ?_, fun _ stopped => ?_, fun off => ?_, fun _ => ⟨fun h => ?_, fun live _ => ?_, due⟩,
    fun off => ?_, slots.1, fun b _ => slots.2 b⟩, (last.2 canonical).2 done.1, last.held done.2.2.2.1, fun _ _ => ?_, fun _ _ => ?_⟩
  · rw [timer, interval, ← waits]
    rfl
  · exact absurd (waits.symm.trans stopped) (by simp)
  · exact absurd (on.symm.trans off) (by simp)
  · exact disabled (h.imp id And.left)
  · rw [same_ live]
    exact (enabled_state l _).trans (if_neg live)
  · exact absurd (on.symm.trans off) (by simp)
  · exact ⟨doneWith_within done (w.then restart) (keeps.trans keepsTimer) (by simp) (by simp) (by simp),
      frame.sameButSlotAndQueue (by simp) (by simp) fun m ne => by simp [ne]⟩
  · exact ⟨frame.samePacks (by simp) (by simp), frame.power (by simp), frame.kbd (by simp)⟩

/-! ### A stopped engine -/

theorem takesWork_enabled {p : PortId} {l : PollList} {x : Port} (h : p = .b ∨ x.state ≠ .halted) :
    takesWork p (enabled (headed l x)) := by
  refine h.imp id fun live => ?_
  rw [enabled_state]
  split
  · simp
  · next on => exact ⟨live, on⟩

theorem slots_not_listRound (p : PortId) : let T := listOnParts p ++ roundParts p
    .slots ∉ T ∧ (∀ n, .slot n ∉ T) ∧ .posted ∉ T := by cases p <;> simp

theorem front_not_listRound (p : PortId) (n : Nat) : let T := (.engine p :: completing n) ++ (listOnParts p ++ roundParts p)
    .front ∉ T ∧ .slots ∉ T ∧ ∀ m, m ≠ n → .slot m ∉ T := by
  cases p <;> exact ⟨by simp, by simp, fun m ne => by simp [ne]⟩

theorem listTaken_stopped {p : PortId} {n : Nat} {s : State} {l : PollList} (wf : memoryCanonical s)
    (free : loadSlot s (pollTable p) = none) (fits : ∀ e ∈ l.entries, fitsPort p e.binding) (on : l.enable = true)
    (stops : (s.engine p).round = .stopped) : listTaken p n l s (nextRound p (settled p l n s)) := by
  obtain ⟨first, _, done, canonical, loads⟩ := listed_outcome (n := n) wf free l
  obtain ⟨engine, port, ends, still, each⟩ := settled_outcome (n := n) wf free l
  obtain ⟨w, keeps⟩ := settled_on on p n s
  have offered := (takeHeader_on on p (listed p l n s)).1
  rw [← port, first.port p (by simp)] at offered
  generalize settled p l n s = x at engine port ends still each w keeps offered ⊢
  have listOf : (x.engine p).list = l := by rw [engine]; rfl
  obtain ⟨list, ported, step, round, live⟩ := roundStep_nextRound listOf fits (ends.loads loads) n
  have number : ((nextRound p x).engine p).number = ((s.engine p).number + 1) % 65536 := by
    rw [(fresh_nextRound p x).1]
    unfold nextNumber
    rw [engine]
    rfl
  have keepsRound : Keeps true x (nextRound p x) := keeps_nextRound p x
  generalize nextRound p x = u at list ported step round live number keepsRound ⊢
  have last := ends.trans step
  have all := offered.trans ported
  obtain ⟨fast, disabled, busy, due⟩ := port_on all
  refine ⟨⟨list.trans listOf, fast.1, fast.2, fun _ waits => ?_, fun _ _ => number, fun off => ?_, fun _ => ⟨fun h => ?_, fun h other => ?_, due⟩,
    fun off => ?_, fun a => ?_, fun b h => ?_⟩, (last.2 canonical).2 done.1, last.held done.2.2.2.1, fun _ shut => ?_, fun _ waits => ?_⟩
  · exact absurd (waits.symm.trans stops) (by simp)
  · exact absurd (on.symm.trans off) (by simp)
  · exact disabled (h.imp id And.left)
  · exact busy h (other.resolve_right (by rw [stops]; simp))
  · exact absurd (on.symm.trans off) (by simp)
  · rw [round.th (by rw [a]; simp), still a]
  · rcases h with off | waits
    · exact absurd (on.symm.trans off) (by simp)
    · exact absurd (waits.symm.trans stops) (by simp)
  · have takes : takesWork p (x.port p) := takesWork_offered offered (takesWork_enabled (by
      cases p with
      | a => exact shut
      | b => exact .inl rfl))
    have frame := w.then (live takes)
    obtain ⟨slots, slot, posted⟩ := slots_not_listRound p
    obtain ⟨front, allSlots, others⟩ := front_not_listRound p n
    exact ⟨doneWith_within done frame (keeps.trans keepsRound) slots (slot n) posted,
      (first.then frame).sameButSlotAndQueue front allSlots others⟩
  · exact absurd (waits.symm.trans stops) (by simp)

/-! ### A list that turns its port off -/

theorem listTaken_off {p : PortId} {n : Nat} {s : State} {l : PollList} (wf : memoryCanonical s)
    (free : loadSlot s (pollTable p) = none) (off : l.enable = false) :
    listTaken p n l s (updating (.port p) (fun x => x.setEngine p (stopEngine (x.engine p))) (settled p l n s)) := by
  obtain ⟨first, _, done, canonical, _⟩ := listed_outcome (n := n) wf free l
  obtain ⟨engine, port, ends, still, each⟩ := settled_outcome (n := n) wf free l
  have ported : (fun y : Port => (y.fast = l.fast ∧ y.clockLow = l.clockLow) ∧
      ((s.port p).state = .idle ∨ ((s.port p).state = .recovering ∨ (s.port p).state = .halted) ∧
        (s.port p).running = false → y.state = .disabled) ∧
      ((s.port p).state = .busy ∨ ((s.port p).state = .recovering ∨ (s.port p).state = .halted) ∧
        (s.port p).running = true → y.state = (s.port p).state ∧ y.disableDue = true)) ((settled p l n s).port p) := by
    have shut := disablePort_port p (updatingPort p (fun x => { x with fast := l.fast, clockLow := l.clockLow }) (listed p l n s))
    rw [port_updatingPort, first.port p (by simp)] at shut
    have eq : takeHeader p l (listed p l n s) =
        disablePort p (updatingPort p (fun x => { x with fast := l.fast, clockLow := l.clockLow }) (listed p l n s)) :=
      if_neg (by rw [off]; simp)
    rw [port, eq]
    exact shut
  generalize settled p l n s = x at engine port ends still each ported ⊢
  have stop := within_updatingEngine (.port p) p (fun x => stopEngine (x.engine p)) x
  have stopped := engine_updating p (fun x => stopEngine (x.engine p)) x
  have keepsStop : Keeps true x (updating (.port p) (fun x => x.setEngine p (stopEngine (x.engine p))) x) :=
    keeps_updating _ (keeps_setEngine p _ x fun h => h)
  generalize updating (.port p) (fun x => x.setEngine p (stopEngine (x.engine p))) x = u at stop stopped keepsStop ⊢
  rw [← stop.port p (by simp)] at ported
  rw [engine] at stopped
  obtain ⟨fast, shut, later⟩ := ported
  have slots := slots_adopted (stop.th (by simp)) still each
  have last := ends.trans (ends_of_within stop (by simp) (by simp) (by simp) keepsStop)
  have not_ : ∀ {q : Prop}, l.enable = true → q := fun on => absurd (on.symm.trans off) (by simp)
  exact ⟨⟨by rw [stopped]; rfl, fast.1, fast.2, not_, not_, fun _ => stopped, not_, fun _ => ⟨shut, later⟩, slots.1, fun b _ => slots.2 b⟩,
    (last.2 canonical).2 done.1, last.held done.2.2.2.1, not_, not_⟩

/-! ### The request -/

/-- R97, R193: a valid copy of a poll list whose round does not run. -/
theorem pollListTaken {p : PortId} {n : Nat} {s : State} (wf : memoryCanonical s) (free : loadSlot s (pollTable p) = none)
    (valid : validate (pollTable p) (holding n (.load (pollTable p)) s) = none) (idle : (s.engine p).round ≠ .running) :
    listTaken p n (readPollList (holding n (.load (pollTable p)) s).mem (pollTable p)) s
      (ownerTakes (pollTable p) n (holding n (.load (pollTable p)) s)) := by
  have fits := fitsPort_of_valid ((validate_pollTable p _).symm.trans valid)
  generalize own : readPollList (holding n (.load (pollTable p)) s).mem (pollTable p) = l at fits ⊢
  have listOf : ((settled p l n s).engine p).list = l := by
    rw [(settled_outcome wf free l).1]
    rfl
  obtain ⟨waiting_, stopped, off⟩ := adoptNow_cases own valid listOf idle
  cases on : l.enable with
  | false =>
    rw [off on]
    exact listTaken_off wf free on
  | true =>
    cases round : (s.engine p).round with
    | running => exact absurd round idle
    | waiting =>
      rw [waiting_ on round]
      exact listTaken_waiting wf free on round
    | stopped =>
      rw [stopped on round]
      exact listTaken_stopped wf free fits on round

end Sys2Proof.Proofs.ListLoads
end

section
/-! PROOF. The taking of a LOAD_TABLE request, table by table (R192, R193). -/
set_option Elab.async false

namespace Sys2Proof.Proofs.TableRequests

open Sys2Proof Sys2Proof.Machine Sys2Proof.Safety Sys2Proof.Laws Sys2Proof.Proofs.Frames Sys2Proof.Proofs.Completion
  Sys2Proof.Proofs.Requests Sys2Proof.Proofs.PortRequests Sys2Proof.Proofs.TableLoads Sys2Proof.Proofs.ProfileAdoption
  Sys2Proof.Proofs.TableAdoption Sys2Proof.Proofs.ListLoads

/-- Settles O46: the request by its staging area, then the table's own rule. -/
theorem loadTableTaken : Obligations.LoadTableTaken := by
  intro n s high wf posted _
  obtain ⟨unnamed, named⟩ := loadTable_cases n.val (taken n.val s)
  rw [taken_param] at unnamed named
  refine ⟨loadTable n.val (taken n.val s), event_takePost high posted, fun none => ?_, fun t own => ?_⟩
  · rw [unnamed none]
    exact answered (within_taken n.val s) (canonical_taken wf n.val) _ (by decide) (fitsByte 0#8)
  · obtain ⟨busy, validated⟩ := named t own
    have waits : loadSlot (taken n.val s) t = loadSlot s t := rfl
    rw [waits] at busy validated
    refine ⟨fun e held small => ?_, fun free => ?_⟩
    · rw [busy e held]
      exact answered (within_taken n.val s) (canonical_taken wf n.val) _ (by omega) (fitsByte 0#8)
    · obtain ⟨rejects, takes⟩ := validated free
      refine ⟨fun r d bad small => ?_, fun good which => ?_, fun good later => ?_, fun good which => ?_, fun good which => ?_,
        fun good which => ?_, fun p which good idle => ?_⟩
      · rw [rejects r d bad]
        exact tableInvalid_answered wf free r small
      · subst which
        rw [takes good]
        exact keymapTaken wf
      · have rests := (takes good).trans (ownerTakes_waits (s := holding n.val (.load t) s) later)
        rw [rests]
        exact ⟨rfl, slotState_holding wf _ _, loadSlot_holding free⟩
      · subst which
        rw [takes good]
        exact profileTaken wf
      · subst which
        rw [takes good]
        exact thermalTaken wf
      · subst which
        rw [takes good]
        exact platformTaken wf
      · subst which
        rw [takes good]
        exact pollListTaken wf free good idle

end Sys2Proof.Proofs.TableRequests
end
